-- ==== Sys2Proof/Word.lean ====
section
/-! DEFINITION. The byte of the line link (spec/11 R186), the numbers that index the part's fixed
collections, and their order. -/

namespace Sys2Proof

/-- A byte of the line link: 8 data bits (R186). -/
abbrev Byte := BitVec 8

/-- A channel number, 0..39 (spec/00, "The line and its channels"). -/
abbrev Chan := Fin 40

/-- A bus group, 0..3 (R5). -/
abbrev BusGroup := Fin 4

/-- An interlock input, 0..7 (R160). -/
abbrev Input := Fin 8

/-- The channels in increasing number, the order in which R100 sends the orders of one event. -/
def Chan.all : List Chan := List.finRange 40

/-- The bus groups in increasing number. -/
def BusGroup.all : List BusGroup := List.finRange 4

/-- The interlock inputs in increasing number. -/
def Input.all : List Input := List.finRange 8

end Sys2Proof
end

