-- ==== Sys2Proof/Syntax.lean ====
section
/-! DEFINITION. The commands of the LC40: one constructor of `Instr` for each row of
spec/opcode_table.json, and the records that commands carry. -/

namespace Sys2Proof.Machine

/-- The level of a discrete input: the eye (R12), an interlock input (R160). -/
inductive Level | low | high
deriving DecidableEq, Repr

/-- A side of the cell, or of a panel (spec/00). -/
inductive Side | a | b
deriving DecidableEq, Repr

/-- The two strapped bit rates of the line link (R186). -/
inductive BitRate
  /-- 115 200 bit/s. -/
  | low115200
  /-- 460 800 bit/s. -/
  | high460800
deriving DecidableEq, Repr

/-- The four intervals of a period, in their order (R43, R58). -/
inductive Interval | fwd | rest1 | rev | rest2
deriving DecidableEq, Repr

/-- The lengths of the four intervals in ms (R42). -/
structure Timing where
  fwd : Nat
  rest1 : Nat
  rev : Nat
  rest2 : Nat
deriving DecidableEq, Repr

/-- The fields of the Line Profile (R2). `fallback` is `none` for NONE. -/
structure Profile where
  lineLength : Nat
  eye : Nat
  pulsesPerMm : Nat
  stallTime : Nat
  nominalLength : Nat
  tolerance : Nat
  fallback : Option Nat
  fallbackAreaA : Nat
  fallbackAreaB : Nat
  /-- In seconds. -/
  zeroInterval : Nat
  /-- One arming spacing for each bus group, in ms. -/
  spacing : Vector Nat 4
  contactorRest : Nat
deriving DecidableEq, Repr

/-- The fields of a defined segment record (R5). -/
structure Segment where
  start : Nat
  length : Nat
  forwardLimit : Nat
  reverseLimit : Nat
  group : Nat
deriving DecidableEq, Repr

/-- One stage of a recipe (R42, R44). -/
structure Stage where
  start : Nat
  forwardDensity : Nat
  reverseDensity : Nat
deriving DecidableEq, Repr

/-- The fields of a defined recipe record (R42). `target` is `none` where absent. -/
structure Recipe where
  timing : Timing
  rampTable : Nat
  holdFraction : Nat
  target : Option Nat
  tolerance : Nat
  stages : List Stage
deriving DecidableEq, Repr

/-- The fields of a staging entry (R17), carried by AnnouncePanel (R21). -/
structure StagingEntry where
  panelId : Nat
  recipe : Nat
  announced : Option Nat
  areaA : Nat
  areaB : Nat
  flipped : Bool
deriving DecidableEq, Repr

/-- How RemovePanel and QueryPanel name a panel (R34, R40, R198). -/
inductive PanelName
  | byId (id : Nat)
  | byEntry (entry : Nat)
deriving DecidableEq, Repr

/-- How an interlock input latches (R160, R162). -/
inductive Sense | edge | level
deriving DecidableEq, Repr

/-- The configuration record of an interlock input (R160). -/
structure InterlockConfig where
  enabled : Bool
  activeLevel : Level
  sense : Sense
  drop : Bool
  hold : Bool
  stop : Bool
  sideA : Bool
  sideB : Bool
  first : Nat
  last : Nat
deriving DecidableEq, Repr

/-- The events a counter of the Process Monitor can watch (R173). -/
inductive MonitorEvent
  | periods | clamped | deviation | voltage | coverage | aligns | zeros | estimates | band
deriving DecidableEq, Repr

/-- The channels a counter watches (R173). -/
inductive Selector
  | all
  | sideA
  | sideB
  | one (channel : Nat)
deriving DecidableEq, Repr

/-- A counter's program: the first seven items of R173. -/
structure MonitorProgram where
  event : MonitorEvent
  selector : Selector
  threshold : Nat
  invert : Bool
  edge : Bool
  notify : Bool
  bandLow : Nat
  bandHigh : Nat
deriving DecidableEq, Repr

/-- The fields of a period report (R102); the sender's address is the command's channel. -/
structure PeriodReport where
  tag : Nat
  averageForward : Nat
  averageReverse : Nat
  forwardMs : Nat
  reverseMs : Nat
  peakVoltage : Nat
  zeroValid : Bool
  zeroValue : Int
  faultCode : Nat
deriving DecidableEq, Repr

end Sys2Proof.Machine

namespace Sys2Proof

open Machine

/-- The commands, one for each row of spec/opcode_table.json. A row of a request of the line link
is the arrival of that request (log 4); every other row is an event at a pin, at the module link,
on the line link, or the running out of a timer (log 1). -/
inductive Instr
  -- resets and start-up
  | powerOn (strap : BitRate)
  | resetLineActive
  | resetLineRelease (strap : BitRate)
  | restartTakesEffect (strap : BitRate)
  | bootEnd
  | presenceReply (c : Chan)
  -- conveyor and eye
  | forwardPulse
  | reversePulse
  | eyeChange (level : Level)
  | stallTimerExpiry
  -- clocks and periods
  | phaseIntervalEnd (entry : Nat)
  | phaseBoundary (entry : Nat)
  | channelIntervalEnd (c : Chan)
  | periodEnd (c : Chan)
  | zeroTimerExpiry (c : Chan)
  | loneZeroRetryExpiry (c : Chan)
  -- modules
  | periodReport (c : Chan) (report : PeriodReport)
  | reportWindowClose (c : Chan)
  | armReport (c : Chan) (faultCode : Nat)
  | armingTimeout (c : Chan)
  | contactorRestEnd (c : Chan)
  | armingSpacingReached (g : BusGroup)
  -- plant
  | interlockInputChange (i : Input) (level : Level)
  -- line link
  | frameReceived (kind : Byte) (payload : List Byte)
  | interByteGap
  | framingError
  | transmitComplete
  | badKind (kind : Byte)
  -- requests
  | setProfile (profile : Profile)
  | setSegment (side : Side) (index : Nat) (record : Option Segment)
  | setLimits (channel : Nat) (forward : Nat) (reverse : Nat)
  | setRecipe (number : Nat) (recipe : Recipe)
  | clearRecipe (number : Nat)
  | setRamp (table : Nat) (steps : List Nat)
  | setModeRun
  | setModeHold
  | setModeStandby
  | setModeOffline
  | restart
  | armChannels (channels : List Nat)
  | disarmChannels (channels : List Nat)
  | clearFault (channels : List Nat)
  | announcePanel (panel : StagingEntry)
  | withdrawPanel (id : Nat)
  | removePanel (name : PanelName)
  | queryPanel (name : PanelName)
  | collectExit
  | setInterlock (input : Nat) (config : InterlockConfig)
  | ackInterlock (input : Nat)
  | clearLineStop
  | setMonitor (counter : Nat) (program : MonitorProgram)
  | freeze
  | unfreeze
  | resetCounts
  | clearOverflow
  | readMonitor
  | readAnode (channel : Nat)
  | setAnode (channel : Nat) (forward : Nat) (reverse : Nat)
  | queryChannel (channel : Nat) (firstContributor : Nat)
  | queryLine
  -- line link bytes, module link, time
  | receivedByte (value : Byte)
  | moduleOrderSent
  | holdDwellMillisecond
deriving DecidableEq, Repr

end Sys2Proof
end

