-- ==== Sys2Proof/Decode.lean ====
section
/-! DEFINITION. The command that a word spells by the table's bits. The table gives no row any bits
("fields" is empty in all 63 rows): a command reaches the LC40 as an event, not as a word, and no word
spells one (log 29). -/

namespace Sys2Proof

/-- The command a word of `nbits` bits spells: none. -/
def decodeTableWord (_nbits _w : Nat) : Option Instr := none

end Sys2Proof
end

