-- ==== Sys2Proof/Config.lean ====
section
/-! DEFINITION. What the spec fixes once for the part, and the free values: constants without a
body, for what the spec leaves open. -/

namespace Sys2Proof.Config

/-- The boot timer's length in ms (R143, R147). -/
def bootMs : Nat := 500

/-- A report window's length in ms (R103). -/
def windowMs : Nat := 20

/-- The arming timer's length in ms (R110). -/
def armingMs : Nat := 2000

/-- The lone-zero retry wait in ms (R80). -/
def retryMs : Nat := 1000

/-- The gap within a frame that discards it is one of MORE than this many ms (R188). -/
def gapMs : Nat := 5

/-- The backlash count saturates at this many mm of reverse travel (R10). -/
def reverseLimitMm : Nat := 2000

/-- How far a leading edge may pass L, and the reach of the eye-stuck judgement, in mm (R1, R27, R33). -/
def overrunMm : Nat := 1500

/-- The debounce travel at which an edge may be accepted again, in mm (R12). -/
def debounceMm : Nat := 3

/-- Capacities of the staging queue (R17), the track (R18) and the exit list (R38), and the exit
list's count at which EXIT_HIGH stands (R39). -/
def stagingCapacity : Nat := 8
def trackCapacity : Nat := 32
def exitCapacity : Nat := 16
def exitHighAt : Nat := 12

/-- The missing-report count that faults a channel (R105). -/
def silentAt : Nat := 3

/-- The most steps a ramp table has, where the ramp index stays (R53, R70). -/
def rampSteps : Nat := 16

/-- The greatest value of a charge accumulator, 48 bits (R126). -/
def chargeMax : Nat := 281474976710655

/-- The greatest value of an anode counter, 64 bits (R182). -/
def anodeMax : Nat := 18446744073709551615

/-- The greatest value of a 32-bit count: hold dwell (R126), monitor count (R173). -/
def count32Max : Nat := 4294967295

/-- FREE VALUE, log 3. Which of several events that stand ready at one moment an idle step takes
first: the spec lets either order occur (R49, R69, R95, R123, R136, R159, R167, R184, R197). Applied
to the state's counter of free values. -/
opaque raceChoice : Nat → Nat

/-- FREE VALUE, log 7. The ramp index of a channel that enters READY from a drain without a number to keep: a
DROP discards the drain index (R73), and a drain that ends at -1 or -2 leaves no ramp index (R61, R74). R61
bounds the ramp index of a READY channel to 0..16. -/
opaque openRampIndex : Nat → Fin 17

/-- FREE VALUE, log 8. The contactor rest that ClearFault starts (R112) while the Line Profile is
absent: the spec states no value then. `none` is a stopped timer; R99 bounds a running one. -/
opaque openContactorRest : Nat → Option (Fin 10001)

end Sys2Proof.Config
end

