-- ==== Sys2Proof/Machine/State.lean ====
section
/-! DEFINITION. Everything the spec gives the LC40 to hold, as plain data, block by block; the state
right after power-on; the reasons a step can stop. -/

namespace Sys2Proof.Machine

/-! ### Mode Controller (spec/08) -/

/-- The line mode (R143). -/
inductive LineMode | boot | offline | run | hold | standby
deriving DecidableEq, Repr

/-- The hold-cause set: STALL, COMMAND, INTERLOCK, each present at most once (R143). -/
structure HoldCauses where
  stall : Bool
  command : Bool
  interlock : Bool
deriving DecidableEq, Repr

/-! ### Conveyor Tracker (spec/01) -/

/-- The stall timer (R14). -/
inductive StallTimer
  | stopped
  | running (remaining : Nat)
  | expired
deriving DecidableEq, Repr

/-- The Conveyor Tracker's state (R16). `debounce` is `none` for NONE. -/
structure Conveyor where
  remainder : Nat
  backlash : Nat
  accepted : Level
  debounce : Option Nat
  stall : StallTimer
deriving DecidableEq, Repr

/-! ### Panel Tracker (spec/02), phase clocks (spec/04) and accounts (spec/07) -/

/-- Why a record departs (R19, R33, R34). -/
inductive DepartureCause | passed | removed
deriving DecidableEq, Repr

/-- The state of a track record, with the cause of departure while DEPARTING (R19). -/
inductive RecordState
  | entering
  | onLine
  | departing (cause : DepartureCause)
deriving DecidableEq, Repr

/-- A panel's phase clock (R58). -/
structure PhaseClock where
  interval : Interval
  remaining : Nat
  periods : Nat
deriving DecidableEq, Repr

/-- The accounting fields of a track record, by the panel's own sides (R126). -/
structure Account where
  forwardA : Nat
  reverseA : Nat
  forwardB : Nat
  reverseB : Nat
  estimatedA : Bool
  estimatedB : Bool
  interrupted : Bool
  holdDwell : Nat
deriving DecidableEq, Repr

/-- The accounting fields at binding (R126). -/
def Account.zero : Account := ⟨0, 0, 0, 0, false, false, false, 0⟩

/-- A track record (R19, R58, R126). `recipe` is `none` for NONE; `clock` is `none` for the record
of recipe NONE, which is given no running clock (R58). A clock runs while the record is not
DEPARTING and holds its values afterwards (R60). -/
structure TrackRecord where
  entry : Nat
  panelId : Nat
  recipe : Option Nat
  announced : Option Nat
  areaA : Nat
  areaB : Nat
  flipped : Bool
  position : Nat
  measured : Option Nat
  state : RecordState
  unannounced : Bool
  lengthMismatch : Bool
  provisionalLength : Bool
  inFlight : Nat
  clock : Option PhaseClock
  account : Account
deriving DecidableEq, Repr

/-- A side's verdict (R140), in the order of the layout's codes (R199). -/
inductive Verdict | under | within | over | noTarget | noArea
deriving DecidableEq, Repr

/-- One side of an exit record (R138, R139, R140). -/
structure ExitSide where
  forward : Nat
  reverse : Nat
  net : Int
  density : Int
  verdict : Verdict
deriving DecidableEq, Repr

/-- An exit record (R138). -/
structure ExitRecord where
  panelId : Nat
  entry : Nat
  recipe : Option Nat
  effectiveLength : Nat
  unannounced : Bool
  lengthMismatch : Bool
  provisionalLength : Bool
  estimatedA : Bool
  estimatedB : Bool
  interrupted : Bool
  lossBefore : Bool
  cause : DepartureCause
  sideA : ExitSide
  sideB : ExitSide
  holdDwell : Nat
deriving DecidableEq, Repr

/-! ### Channels: Phase Timing (spec/04), period records (spec/05), Channel Controller (spec/06) -/

/-- A period that delivers: NORMAL, or ZERO (R61, R94). -/
inductive PeriodKind | normal | zero
deriving DecidableEq, Repr

/-- An entry of a period record's contributor list (R94). -/
structure Contributor where
  entry : Nat
  area : Nat
  forwardWeight : Nat
  reverseWeight : Nat
deriving DecidableEq, Repr

/-- The period record (R94). `percentage` is `none` in a ZERO period. -/
structure PeriodRecord where
  channel : Chan
  kind : PeriodKind
  governor : Nat
  timing : Timing
  percentage : Option Nat
  holdApplied : Bool
  contributors : List Contributor
  forwardSum : Nat
  reverseSum : Nat
  totalArea : Nat
  forward : Nat
  reverse : Nat
  clamped : Bool
deriving DecidableEq, Repr

/-- A period in flight: its record, the tag and zero request of its order (R100, R101), and the
channel interval with the time remaining in it (R61). -/
structure InFlight where
  record : PeriodRecord
  tag : Nat
  zeroRequest : Bool
  interval : Interval
  remaining : Nat
deriving DecidableEq, Repr

/-- The period kind with what it carries (R61): NONE; ALIGN with the record awaited; NORMAL or ZERO
with the period in flight. -/
inductive Period
  | idle
  | align (governor : Nat)
  | delivering (p : InFlight)
deriving DecidableEq, Repr

/-- The close note of a period (R128). -/
structure CloseNote where
  truncated : Bool
  elapsedForward : Nat
  elapsedReverse : Nat
  stale : Bool
deriving DecidableEq, Repr

/-- What a report window was opened for (R103). -/
inductive WindowKind
  | period (record : PeriodRecord) (note : CloseNote) (zeroRequest : Bool)
  | zeroOrder
deriving DecidableEq, Repr

/-- An open report window: its tag, the time until it closes, and what it is for (R99, R103). -/
structure Window where
  tag : Nat
  remaining : Nat
  kind : WindowKind
deriving DecidableEq, Repr

/-- Where a drain goes (R61). -/
inductive Destination | ready | dormant
deriving DecidableEq, Repr

/-- Why a channel is FAULTED, with the module fault code of MODULE_FAULT (R98, R99). -/
inductive FaultCause
  | moduleFault (code : Nat)
  | moduleSilent
  | armTimeout
  | moduleAbsent
deriving DecidableEq, Repr

/-- The channel's state (R98), with the arming timer while ARMING (R99), the drain destination while
DRAINING (R61) and the fault cause while FAULTED (R99). -/
inductive ChannelState
  | dormant
  | arming (remaining : Nat)
  | ready
  | running
  | draining (destination : Destination)
  | faulted (cause : FaultCause)
deriving DecidableEq, Repr

/-- The zero status (R61, R76). -/
inductive ZeroStatus | none | valid | due | attempting
deriving DecidableEq, Repr

/-- A channel: the Channel Controller's fields (R98, R99) and Phase Timing's period state (R61).
`timing` is the timing in force, which only a period start writes (R61, R64; log 34). `index` is the one stored
number read as ramp index or drain index. `loneZero` says that a Zero
Order has fallen due and its outcome is not yet known (R63, R80). `present` notes a presence reply
during BOOT (R121). A timer is `none` where stopped. -/
structure Channel where
  state : ChannelState
  contactorClosed : Bool
  missing : Nat
  forward : Nat
  reverse : Nat
  tag : Nat
  rest : Option Nat
  windows : List Window
  lastZero : Option Int
  period : Period
  timing : Timing
  index : Int
  zero : ZeroStatus
  stale : Bool
  zeroTimer : Option Nat
  retry : Option Nat
  loneZero : Bool
  present : Bool
deriving DecidableEq, Repr

/-- A channel at the start of BOOT (R83, R121, R125). -/
def Channel.afterReset : Channel where
  state := .dormant
  contactorClosed := false
  missing := 0
  forward := 0
  reverse := 0
  tag := 0
  rest := none
  windows := []
  lastZero := none
  period := .idle
  timing := ⟨0, 0, 0, 0⟩
  index := 0
  zero := .none
  stale := false
  zeroTimer := none
  retry := none
  loneZero := false
  present := false

/-- A bus group: its arming queue, oldest first (R108), and the time since its last grant (R109). -/
structure Group where
  queue : List Chan
  sinceGrant : Option Nat
deriving DecidableEq, Repr

/-- The body of a module-link order (R100). -/
inductive OrderBody
  | presencePoll
  | arm
  | disarm
  | period (tag forward reverse : Nat) (timing : Timing) (zeroRequest : Bool)
  | stop (tag : Nat)
  | zero (tag : Nat)
deriving DecidableEq, Repr

/-- An order addressed to one channel's module (R100). -/
structure Order where
  channel : Chan
  body : OrderBody
deriving DecidableEq, Repr

/-- The module link: the order being sent and those waiting for the link, in order (R100). `outbox`
is the model's own: the orders that fell due in the event under way; it is empty between commands. -/
structure ModuleLink where
  sending : Option Order
  waiting : List Order
  outbox : List Order
deriving DecidableEq, Repr

/-! ### Interlock Unit and line-stop logic (spec/09) -/

/-- An interlock input: its configuration, its latch and the level the Unit holds (R160). -/
structure Interlock where
  config : InterlockConfig
  latched : Bool
  level : Level
deriving DecidableEq, Repr

/-- The configuration record after power-on (R160). -/
def defaultInterlockConfig : InterlockConfig where
  enabled := false
  activeLevel := .high
  sense := .edge
  drop := false
  hold := false
  stop := false
  sideA := false
  sideB := false
  first := 0
  last := 0

/-- The line-stop cause set (R169). -/
structure LineStopCauses where
  trackFull : Bool
  eyeStuck : Bool
  reverseLimit : Bool
  exitHigh : Bool
  interlock : Bool
deriving DecidableEq, Repr

/-! ### Process Monitor and anode counters (spec/10) -/

/-- A counter of the Process Monitor: its program and its results (R173). -/
structure Counter where
  program : MonitorProgram
  count : Nat
  overflow : Bool
  history : Vector Bool 40
deriving DecidableEq, Repr

/-- The counter program after power-on (R173). -/
def defaultProgram : MonitorProgram where
  event := .periods
  selector := .all
  threshold := 0
  invert := false
  edge := false
  notify := false
  bandLow := 0
  bandHigh := 0

/-- The Process Monitor (R173). -/
structure Monitor where
  counters : Vector Counter 8
  frozen : Bool
deriving DecidableEq, Repr

/-- A counter with cleared results (R173, R179). -/
def Counter.cleared (p : MonitorProgram) : Counter where
  program := p
  count := 0
  overflow := false
  history := .replicate 40 false

/-- The two anode counters of a channel (R182). -/
structure AnodePair where
  forward : Nat
  reverse : Nat
deriving DecidableEq, Repr

/-! ### Line Link (spec/11) -/

/-- A complete frame's body: the kind byte and the payload (R187). -/
structure Frame where
  kind : Byte
  payload : List Byte
deriving DecidableEq, Repr

/-- The receiver's state, with what it has stored of the frame being received (R188). -/
inductive Receiver
  | hunt
  | length
  /-- `stored` holds the body bytes received so far, in order; the body has `n` of them. -/
  | body (n : Nat) (stored : List Byte)
  /-- The whole body, and the first check byte where it has been received. -/
  | check (body : List Byte) (first : Option Byte)
deriving DecidableEq, Repr

/-- The result codes (R191), in the order of their numbers. -/
inductive ResultCode
  | ok | badLength | badKind | badValue | wrongMode | notConfigured | inUse | duplicateId
  | notFound | full | empty | stillActive | channelState | trackNotEmpty | channelsArmed | booting
deriving DecidableEq, Repr

/-- What QueryLine reports (R195). -/
structure LineView where
  mode : LineMode
  holdCauses : HoldCauses
  bootTimer : Option Nat
  profile : Option Profile
  backlash : Nat
  stallExpired : Bool
  staged : Nat
  tracked : Nat
  exits : Nat
  faulted : Nat
  /-- For each recipe number: whether it is defined, and whether it is in use. -/
  recipes : List (Bool × Bool)
  ramps : List (List Nat)
  interlocks : List Interlock
  lineStop : LineStopCauses
deriving DecidableEq, Repr

/-- What QueryChannel reports (R124, R97). The period's contributor list is cut to the entries
given; `contributors` is their number before the cut. `clock` is the phase clock of the governor or
of the record awaited. -/
structure ChannelView where
  state : ChannelState
  contactorClosed : Bool
  missing : Nat
  queuePlace : Option Nat
  rest : Option Nat
  sinceGrant : Option Nat
  inhibited : Bool
  forward : Nat
  reverse : Nat
  lastZero : Option Int
  segment : Option Segment
  period : Period
  timing : Timing
  index : Int
  zero : ZeroStatus
  stale : Bool
  zeroTimer : Option Nat
  retry : Option Nat
  clock : Option PhaseClock
  contributors : Nat
  windows : Nat
deriving DecidableEq, Repr

/-- What QueryPanel reports (R40). -/
inductive PanelView
  | staged (place : Nat) (entry : StagingEntry)
  | track (record : TrackRecord) (effectiveLength : Nat)
deriving DecidableEq, Repr

/-- What ReadMonitor reports of one counter (R181). -/
structure CounterView where
  program : MonitorProgram
  count : Nat
  overflow : Bool
deriving DecidableEq, Repr

/-- The result payload of a reply (R191). -/
inductive ReplyPayload
  | nothing
  /-- The first failing channel of a refused list, `none` where the list as a whole failed. -/
  | failing (channel : Option Nat)
  | mode (mode : LineMode) (causes : HoldCauses)
  | lineStop (causes : LineStopCauses)
  | exit (record : ExitRecord)
  | panel (view : PanelView)
  | channel (view : ChannelView)
  | line (view : LineView)
  | monitor (frozen : Bool) (counters : List CounterView)
  | anode (pair : AnodePair)
deriving DecidableEq, Repr

/-- A reply frame (R191): the kind echoed, the result code and the result payload. -/
structure Reply where
  kind : Byte
  code : ResultCode
  payload : ReplyPayload
deriving DecidableEq, Repr

/-- The request in hand (R189): its frame and the reply built at its taking. `restarts` marks a
taken Restart, whose reset follows its reply (R146). -/
structure InHand where
  frame : Frame
  reply : Reply
  restarts : Bool
deriving DecidableEq, Repr

/-- The seven kinds of notice (R192), in the order of their codes (R199). -/
inductive NoticeKind
  | exit | interlock | channelFault | monitor | lineMode | tracking | lineStop
deriving DecidableEq, Repr

/-- The snapshot a notice carries (R193). -/
structure Snapshot where
  mode : LineMode
  lineStop : LineStopCauses
  exits : Nat
  faulted : Nat
  /-- The latches of inputs 0..7, in order. -/
  latches : List Bool
deriving DecidableEq, Repr

/-- The transmitter (R194). -/
inductive Transmitter
  | idle
  | reply (r : Reply)
  | notice (kind : NoticeKind) (snapshot : Snapshot)
deriving DecidableEq, Repr

/-- The Line Link's state (R196). `gap` is the time since the last byte of the frame being received
(R188). -/
structure LineLink where
  receiver : Receiver
  gap : Nat
  inHand : Option InHand
  held : Option Frame
  notices : List NoticeKind
  tx : Transmitter
  rate : BitRate
deriving DecidableEq, Repr

/-- The Line Link after every kind of reset (R196). -/
def LineLink.afterReset (rate : BitRate) : LineLink where
  receiver := .hunt
  gap := 0
  inHand := none
  held := none
  notices := []
  tx := .idle
  rate := rate

/-! ### The whole -/

/-- The levels outside the part that its rules read: the eye, the interlock inputs, the strap and
the reset line. No reset changes them. -/
structure Pins where
  eye : Level
  interlocks : Vector Level 8
  strap : BitRate
  resetHeld : Bool
deriving DecidableEq, Repr

/-- The state of the LC40, the queue of waiting commands, and the model's counter of free values. -/
structure State where
  pins : Pins
  mode : LineMode
  holdCauses : HoldCauses
  bootTimer : Option Nat
  profile : Option Profile
  segments : Vector (Option Segment) 40
  recipes : Vector (Option Recipe) 16
  ramps : Vector (List Nat) 4
  conveyor : Conveyor
  staging : List StagingEntry
  track : List TrackRecord
  exits : List ExitRecord
  nextEntry : Nat
  channels : Vector Channel 40
  groups : Vector Group 4
  interlocks : Vector Interlock 8
  lineStop : LineStopCauses
  monitor : Monitor
  anodes : Vector AnodePair 40
  link : LineLink
  moduleLink : ModuleLink
  freeCount : Nat
  pending : List Instr
deriving DecidableEq, Repr

/-- The LC40 does not stop: what goes wrong is state (a FAULTED channel, R118) or a reply (R191). No
command of the model ends in a fault, and the type has no constructor. -/
inductive Fault
deriving DecidableEq, Repr

/-- Why a command has no meaning here. -/
inductive Refusal
  /-- Raised by `exec` for a row of the table that has no meaning yet, by its mnemonic. Safe: nothing
  can be proved of such a command. No row is refused so. -/
  | notModelled (mnemonic : String)
deriving DecidableEq, Repr

/-- The ramp tables after power-on (R53). -/
def defaultRamps : Vector (List Nat) 4 :=
  #v[[100], [25, 50, 75, 100], [20, 40, 60, 80, 100], [10, 20, 30, 40, 50, 60, 70, 80, 90, 100]]

/-- The orders sent at the start of BOOT: for each address a Disarm Order, then a Presence Poll
(R121). -/
def bootOrders : List Order := Chan.all.flatMap fun c => [⟨c, .disarm⟩, ⟨c, .presencePoll⟩]

/-- The empty hold-cause set (R143) and the empty line-stop cause set (R172). -/
def HoldCauses.none : HoldCauses := ⟨false, false, false⟩
def LineStopCauses.none : LineStopCauses := ⟨false, false, false, false, false⟩

/-- The Conveyor Tracker after every kind of reset (R16). -/
def Conveyor.afterReset : Conveyor := ⟨0, 0, .low, none, .stopped⟩

/-- The machine right after a power-on reset, power established and BOOT begun (R143, R144): the
values each chapter gives after power-on (R2, R5, R16, R41, R57, R83, R125, R172, R185, R196), the
orders of BOOT on the module link, and the input levels and strap of logs 11, 12 and 22. -/
def State.reset : State where
  pins := ⟨.low, .replicate 8 .low, .low115200, false⟩
  mode := .boot
  holdCauses := .none
  bootTimer := some Config.bootMs
  profile := none
  segments := .replicate 40 none
  recipes := .replicate 16 none
  ramps := defaultRamps
  conveyor := .afterReset
  staging := []
  track := []
  exits := []
  nextEntry := 1
  channels := .replicate 40 .afterReset
  groups := .replicate 4 ⟨[], none⟩
  interlocks := .replicate 8 ⟨defaultInterlockConfig, false, .low⟩
  lineStop := .none
  monitor := ⟨.replicate 8 (.cleared defaultProgram), false⟩
  anodes := .replicate 40 ⟨0, 0⟩
  link := .afterReset .low115200
  moduleLink := ⟨bootOrders.head?, bootOrders.tail, []⟩
  freeCount := 0
  pending := []

end Sys2Proof.Machine
end

