-- ==== Sys2Proof/Machine/Ops.lean ====
section
/-! DEFINITION. The named reads and updates that every meaning is written with: channels, groups,
interlocks, notices, the line-stop cause set, orders, and the constants of the profile. -/

namespace Sys2Proof.Machine

/-! ### Reading -/

/-- The fields of the profile a rule reads. The line cannot leave OFFLINE without a profile, so no
rule reads an absent one (R2) but ClearFault's contactor rest (log 8); an absent profile reads as
zeros here, in states that no run reaches (log 23). -/
def State.prof (s : State) : Profile :=
  s.profile.getD ⟨0, 0, 0, 0, 0, 0, none, 0, 0, 0, .replicate 4 0, 0⟩

/-- The channel's record. -/
def State.chan (s : State) (c : Chan) : Channel := s.channels[c]

/-- The channel's segment record, `none` where undefined (R5). -/
def State.segment (s : State) (c : Chan) : Option Segment := s.segments[c]

/-- The recipe record, `none` where undefined or no recipe of that number exists (R42). -/
def State.recipe (s : State) (n : Nat) : Option Recipe :=
  if h : n < 16 then s.recipes[n] else none

/-- The ramp table's steps (R53). -/
def State.ramp (s : State) (n : Nat) : List Nat :=
  if h : n < 4 then s.ramps[n] else []

/-- The bus group of a channel, read from its segment record (R5, R99); R5 bounds it to 0..3. -/
def State.busGroup (s : State) (c : Chan) : Option BusGroup :=
  (s.segment c).map fun seg => Fin.ofNat 4 seg.group

/-- The bus group's record. -/
def State.group (s : State) (g : BusGroup) : Group := s.groups[g]

/-- The interlock input's record. -/
def State.interlock (s : State) (i : Input) : Interlock := s.interlocks[i]

/-- The track record with an entry number; no two share one (R20). -/
def State.find (s : State) (entry : Nat) : Option TrackRecord :=
  s.track.find? fun r => r.entry = entry

/-- The line is in RUN, HOLD or STANDBY: the modes that track and arm. -/
def LineMode.active : LineMode → Bool
  | .run | .hold | .standby => true
  | .boot | .offline => false

/-- The number of FAULTED channels (R98). -/
def State.faultedCount (s : State) : Nat :=
  (Chan.all.filter fun c => match (s.chan c).state with | .faulted _ => true | _ => false).length

/-! ### Writing -/

/-- Change one channel. -/
def State.updChan (s : State) (c : Chan) (f : Channel → Channel) : State :=
  { s with channels := s.channels.set c (f s.channels[c]) }

/-- Change one bus group. -/
def State.updGroup (s : State) (g : BusGroup) (f : Group → Group) : State :=
  { s with groups := s.groups.set g (f s.groups[g]) }

/-- Change one interlock input. -/
def State.updInterlock (s : State) (i : Input) (f : Interlock → Interlock) : State :=
  { s with interlocks := s.interlocks.set i (f s.interlocks[i]) }

/-- Change the track record with an entry number, if there is one. -/
def State.updRecord (s : State) (entry : Nat) (f : TrackRecord → TrackRecord) : State :=
  { s with track := s.track.map fun r => if r.entry = entry then f r else r }

/-- Do something for every channel, in increasing number (log 15). -/
def State.forChans (s : State) (f : Chan → State → State) : State :=
  Chan.all.foldl (fun s c => f c s) s

/-- Do something for every channel of a list, in list order. -/
def State.forList (s : State) (l : List Chan) (f : Chan → State → State) : State :=
  l.foldl (fun s c => f c s) s

/-! ### Notices (R192) and the line-stop cause set (R169, R170) -/

/-- Add a kind to a pending set: at the tail, unless it is there (R192). -/
def joinNotices (k : NoticeKind) (pending : List NoticeKind) : List NoticeKind :=
  if k ∈ pending then pending else pending ++ [k]

/-- Raise a notice (R192). -/
def State.raise (s : State) (k : NoticeKind) : State :=
  { s with link := { s.link with notices := joinNotices k s.link.notices } }

/-- The set holds no cause. -/
def LineStopCauses.isEmpty (l : LineStopCauses) : Bool :=
  !(l.trackFull || l.eyeStuck || l.reverseLimit || l.exitHigh || l.interlock)

/-- The line-stop request output (R170): active while the set is not empty. -/
def State.lineStopOutput (s : State) : Bool := !s.lineStop.isEmpty

/-- Change the line-stop cause set; where it goes from empty to not empty, a LINE_STOP notice is
raised (R170). -/
def State.changeLineStop (s : State) (f : LineStopCauses → LineStopCauses) : State :=
  let after := { s with lineStop := f s.lineStop }
  if s.lineStop.isEmpty && !(f s.lineStop).isEmpty then after.raise .lineStop else after

/-! ### Orders (R100) -/

/-- An order falls due. -/
def State.order (s : State) (c : Chan) (b : OrderBody) : State :=
  { s with moduleLink := { s.moduleLink with outbox := s.moduleLink.outbox ++ [⟨c, b⟩] } }

/-- An order of a channel still waits for the link: it has not been sent, and awaits no answer (R100, R101;
log 36). -/
def State.unsent (s : State) (c : Chan) (b : OrderBody) : Bool :=
  s.moduleLink.waiting.any fun o => decide (o = ⟨c, b⟩)

/-- The orders of one event, those of different channels in increasing channel number and each
channel's in the order in which its rules gave them (R100). -/
def sortOrders (l : List Order) : List Order :=
  Chan.all.flatMap fun c => l.filter fun o => o.channel = c

/-- The link starts an order. A Zero Order's report window opens at its sending (R103, R119; log 9). -/
def startOrder (o : Order) (s : State) : State :=
  let s := { s with moduleLink := { s.moduleLink with sending := some o } }
  match o.body with
  | .zero tag =>
    s.updChan o.channel fun ch => { ch with windows := ch.windows ++ [⟨tag, Config.windowMs, .zeroOrder⟩] }
  | _ => s

/-- Where the link is idle, it starts the order that has waited longest (R100). -/
def pumpOrders (s : State) : State :=
  match s.moduleLink.sending, s.moduleLink.waiting with
  | none, o :: rest => startOrder o { s with moduleLink := { s.moduleLink with waiting := rest } }
  | _, _ => s

/-- The orders of the event under way join those waiting (R100). -/
def flushOrders (s : State) : State :=
  { s with moduleLink :=
    { s.moduleLink with waiting := s.moduleLink.waiting ++ sortOrders s.moduleLink.outbox, outbox := [] } }

/-! ### The transmitter (R193, R194) -/

/-- The snapshot of R193. -/
def State.snapshot (s : State) : Snapshot where
  mode := s.mode
  lineStop := s.lineStop
  exits := s.exits.length
  faulted := s.faultedCount
  latches := s.interlocks.toList.map (·.latched)

/-- Where the transmitter is idle, it starts the reply that waits, else the notice at the head of the
pending set, which leaves the set with its snapshot taken (R193, R194). -/
def pumpTransmitter (s : State) : State :=
  match s.link.tx with
  | .idle =>
    match s.link.inHand with
    | some h => { s with link := { s.link with tx := .reply h.reply } }
    | none =>
      match s.link.notices with
      | [] => s
      | k :: rest => { s with link := { s.link with tx := .notice k s.snapshot, notices := rest } }
  | _ => s

/-- What ends every command: its orders reach the module link, and both links start what waits. -/
def settle (s : State) : State := pumpTransmitter (pumpOrders (flushOrders s))

/-! ### Free values -/

/-- The next free value: `f` at the counter, which advances. -/
def State.takeFree (s : State) (f : Nat → α) : α × State :=
  (f s.freeCount, { s with freeCount := s.freeCount + 1 })

end Sys2Proof.Machine
end

