-- ==== Sys2Proof/Machine/Operands.lean ====
section
/-! DEFINITION. The operands of requests: the ranges and conditions under which an owner takes them,
and the channel lists. -/

namespace Sys2Proof.Machine

/-- `lo..hi`, both ends included (spec/00, "Numbers and arithmetic"). -/
def within (lo hi n : Nat) : Bool := lo ≤ n && n ≤ hi

/-- A number that names a channel, an interlock input, a counter. -/
def chanOf? (n : Nat) : Option Chan := if h : n < 40 then some ⟨n, h⟩ else none
def inputOf? (n : Nat) : Option Input := if h : n < 8 then some ⟨n, h⟩ else none
def counterOf? (n : Nat) : Option (Fin 8) := if h : n < 8 then some ⟨n, h⟩ else none

/-- The channel that a side and a segment index name (R5). -/
def segmentChan? (side : Side) (index : Nat) : Option Chan :=
  if h : index < 20 then
    some <| match side with
      | .a => ⟨index, by omega⟩
      | .b => ⟨20 + index, by omega⟩
  else none

/-- The side of the cell a channel's segment stands on (R5). -/
def sideOf (c : Chan) : Side := if c.val < 20 then .a else .b

/-! ### Line Profile (R2, R3) -/

/-- Every field lies in its range in R2; the fallback names a number 0..15 or NONE. -/
def Profile.inRange (p : Profile) : Bool :=
  within 1000 16000 p.lineLength && within 0 2000 p.eye && decide (p.eye < p.lineLength) &&
  within 1 64 p.pulsesPerMm && within 100 10000 p.stallTime && within 100 1500 p.nominalLength &&
  within 1 50 p.tolerance && (p.fallback.all fun n => decide (n ≤ 15)) &&
  within 0 20000 p.fallbackAreaA && within 0 20000 p.fallbackAreaB && within 10 600 p.zeroInterval &&
  p.spacing.toList.all (within 100 5000) && within 500 10000 p.contactorRest

/-- SetProfile's checks in OFFLINE (R3): ranges, the fallback defined, and no defined segment beyond
the new line length. -/
def State.profileOk (s : State) (p : Profile) : Bool :=
  p.inRange && (p.fallback.all fun n => (s.recipe n).isSome) &&
  s.segments.toList.all fun seg => seg.all fun r => decide (r.start + r.length ≤ p.lineLength)

/-! ### Segment records (R5, R6, R7) -/

/-- The limits' ranges (R5). -/
def limitsInRange (forward reverse : Nat) : Bool := within 1 8000 forward && within 0 24000 reverse

/-- The fields' ranges for a line of length `l` (R5). -/
def Segment.inRange (l : Nat) (r : Segment) : Bool :=
  decide (r.start < l) && within 50 2000 r.length && decide (r.start + r.length ≤ l) &&
  limitsInRange r.forwardLimit r.reverseLimit && decide (r.group ≤ 3)

/-- Two extents share at least one millimetre (R1). -/
def Segment.overlaps (r t : Segment) : Bool :=
  decide (r.start < t.start + t.length) && decide (t.start < r.start + r.length)

/-- The new extent overlaps another defined record of the same side; the record being replaced is
not counted (R6). -/
def State.segmentClash (s : State) (c : Chan) (r : Segment) : Bool :=
  Chan.all.any fun d => decide (d ≠ c) && decide (sideOf d = sideOf c) && (s.segment d).any r.overlaps

/-! ### Recipes and ramp tables (R42, R46, R54) -/

/-- The fields' ranges (R42). -/
def Recipe.inRange (r : Recipe) : Bool :=
  within 1 500 r.timing.fwd && within 0 20 r.timing.rest1 && within 0 50 r.timing.rev &&
  within 0 20 r.timing.rest2 && within 0 3 r.rampTable && within 0 100 r.holdFraction &&
  r.target.all (within 1 100000) && within 1 50 r.tolerance && within 1 4 r.stages.length &&
  r.stages.all fun st =>
    within 0 16000 st.start && within 0 1500 st.forwardDensity && within 0 6000 st.reverseDensity

/-- Each item is greater than the one before it. -/
def strictlyRising : List Nat → Bool
  | a :: b :: rest => decide (a < b) && strictlyRising (b :: rest)
  | _ => true

/-- A valid recipe record (R46): ranges, first stage at 0, stages in rising order, no reverse
density without a reverse interval, and the strict charge balance of every stage. -/
def Recipe.valid (r : Recipe) : Bool :=
  r.inRange && (r.stages.head?.any fun st => st.start = 0) &&
  strictlyRising (r.stages.map (·.start)) &&
  (decide (r.timing.rev ≠ 0) || r.stages.all fun st => st.reverseDensity = 0) &&
  r.stages.all fun st => decide (st.reverseDensity = 0) ||
    decide (st.reverseDensity * r.timing.rev < st.forwardDensity * r.timing.fwd)

/-- A ramp table that SetRamp takes (R53, R54): 1..16 strictly rising steps in 1..100, the last 100. -/
def rampValid (steps : List Nat) : Bool :=
  within 1 16 steps.length && steps.all (within 1 100) && strictlyRising steps &&
  decide (steps.getLast? = some 100)

/-- A recipe is in use while the staging queue, the track, or the defined profile's fallback names it
(R48). -/
def State.inUse (s : State) (n : Nat) : Bool :=
  s.staging.any (fun e => e.recipe = n) || s.track.any (fun r => r.recipe = some n) ||
  s.profile.any fun p => p.fallback = some n

/-! ### Panels (R17, R21, R34, R40) -/

/-- AnnouncePanel's value check (R21, check 1). -/
def State.entryOk (s : State) (e : StagingEntry) : Bool :=
  decide (e.panelId ≠ 0) && decide (e.recipe ≤ 15) && (s.recipe e.recipe).isSome &&
  e.announced.all (within 100 1500) && within 0 20000 e.areaA && within 0 20000 e.areaB

/-- An id stands in the staging queue or on the track (R21, check 2). -/
def State.idHeld (s : State) (id : Nat) : Bool :=
  s.staging.any (fun e => e.panelId = id) || s.track.any fun r => r.panelId = id

/-- Panel id 0, entry number 0 and an entry number above 65 535 are no names (R34, R40, R198). -/
def PanelName.valid : PanelName → Bool
  | .byId n => decide (n ≠ 0)
  | .byEntry n => within 1 65535 n

/-- The track record a name names (R34, R40). -/
def State.named (s : State) : PanelName → Option TrackRecord
  | .byId n => s.track.find? fun r => r.panelId = n
  | .byEntry n => s.find n

/-! ### Interlocks and counters (R161, R179) -/

/-- SetInterlock's value check (R161, check 1), for the input number and the carried record. -/
def interlockOk (i : Nat) (c : InterlockConfig) : Bool :=
  decide (i ≤ 7) && decide (c.first ≤ 19) && decide (c.last ≤ 19) && decide (c.first ≤ c.last) &&
  (!c.drop || c.sideA || c.sideB)

/-- SetMonitor's value check (R179, check 1). -/
def monitorOk (n : Nat) (p : MonitorProgram) : Bool :=
  decide (n ≤ 7) && (match p.selector with | .one c => decide (c ≤ 39) | _ => true) &&
  !(decide (p.threshold = 0) && (p.edge || p.invert)) &&
  !(decide (p.event = .band) && decide (p.bandLow > p.bandHigh))

/-! ### Channel lists (R106, R113, R114) -/

/-- Why a list fails a check: the list as a whole, or its first failing channel (R191). -/
def firstFailing (bad : Nat → Bool) (l : List Nat) : Option (Option Nat) :=
  if l.length = 0 ∨ 40 < l.length then some none else (l.find? bad).map some

/-- The channels a checked list names, each at its first place (R106, R113). -/
def listChans (l : List Nat) : List Chan :=
  (l.filterMap chanOf?).foldl (fun seen c => if c ∈ seen then seen else seen ++ [c]) []

end Sys2Proof.Machine
end

