-- ==== Sys2Proof/Machine/Flags.lean ====
section
/-! DEFINITION. Flags and sets as bytes: "a set field is one byte with one bit per member, from the
least significant bit in the order in which the rule lists the members" (R198), and the flag words of
the layouts (R193, R199). -/

namespace Sys2Proof.Machine

/-- The number whose bit k, counted from the least significant, is the k-th flag. -/
def bits : List Bool → Nat
  | [] => 0
  | b :: rest => b.toNat + 2 * bits rest

/-- A field of values set or clear is one byte, 1 for set and 0 for clear; any other value is no
defined code (R198). -/
def flagOf? : Nat → Option Bool
  | 0 => some false
  | 1 => some true
  | _ => none

/-- Bit `k` of a byte or word. -/
def bitOf (n k : Nat) : Bool := n / 2 ^ k % 2 = 1

/-- The hold-cause set: STALL, COMMAND, INTERLOCK (R143). -/
def HoldCauses.code (h : HoldCauses) : Nat := bits [h.stall, h.command, h.interlock]

/-- The hold-cause set holds no cause. -/
def HoldCauses.isEmpty (h : HoldCauses) : Bool := !(h.stall || h.command || h.interlock)

/-- The line-stop cause set, from the least significant bit (R193). -/
def LineStopCauses.code (l : LineStopCauses) : Nat :=
  bits [l.trackFull, l.eyeStuck, l.reverseLimit, l.exitHigh, l.interlock]

/-- An interlock's actions: DROP, HOLD, STOP (R160). -/
def InterlockConfig.actions (c : InterlockConfig) : Nat := bits [c.drop, c.hold, c.stop]

/-- An interlock's DROP side mask: side A, side B (R160; log 5). -/
def InterlockConfig.sideMask (c : InterlockConfig) : Nat := bits [c.sideA, c.sideB]

/-- A track record's tracking flags (R19), as one byte of bits (log 6). -/
def TrackRecord.trackingFlags (r : TrackRecord) : Nat :=
  bits [r.unannounced, r.lengthMismatch, r.provisionalLength]

/-- A record's accounting flags (R126), as one byte of bits (log 6). -/
def Account.flags (a : Account) : Nat := bits [a.estimatedA, a.estimatedB, a.interrupted]

/-- The exit record's flag word (R199). -/
def ExitRecord.flags (e : ExitRecord) : Nat :=
  bits [e.unannounced, e.lengthMismatch, e.provisionalLength, e.estimatedA, e.estimatedB,
    e.interrupted, e.lossBefore]

/-- The one-byte result code (R191). -/
def ResultCode.code : ResultCode → Nat
  | .ok => 0x00 | .badLength => 0x01 | .badKind => 0x02 | .badValue => 0x03
  | .wrongMode => 0x04 | .notConfigured => 0x05 | .inUse => 0x06 | .duplicateId => 0x07
  | .notFound => 0x08 | .full => 0x09 | .empty => 0x0A | .stillActive => 0x0B
  | .channelState => 0x0C | .trackNotEmpty => 0x0D | .channelsArmed => 0x0E | .booting => 0x0F

/-- The line mode's code in a snapshot (R193), the place in the list of R143. -/
def LineMode.code : LineMode → Nat
  | .boot => 0 | .offline => 1 | .run => 2 | .hold => 3 | .standby => 4

/-- A notice kind's code (R199). -/
def NoticeKind.code : NoticeKind → Nat
  | .exit => 0x40 | .interlock => 0x41 | .channelFault => 0x42 | .monitor => 0x43
  | .lineMode => 0x44 | .tracking => 0x45 | .lineStop => 0x46

/-- A verdict's code (R199). -/
def Verdict.code : Verdict → Nat
  | .under => 0 | .within => 1 | .over => 2 | .noTarget => 3 | .noArea => 4

end Sys2Proof.Machine
end

