-- ==== Sys2Proof/Machine/Coverage.lean ====
section
/-! DEFINITION. What the channels read from the track: effective length (R19), covered length and
area (R30, R31), the governor rule (R62), stage lookup (R51), and the ramp's percentage (R55). -/

namespace Sys2Proof.Machine

/-- The record is DEPARTING. -/
def TrackRecord.departing (r : TrackRecord) : Bool :=
  match r.state with
  | .departing _ => true
  | _ => false

/-- The effective length: measured, else announced, else nominal (R19). -/
def effectiveLength (nominal : Nat) (r : TrackRecord) : Nat :=
  (r.measured.orElse fun _ => r.announced).getD nominal

/-- The effective length under the profile of the state. -/
def State.effective (s : State) (r : TrackRecord) : Nat := effectiveLength s.prof.nominalLength r

/-- The overlap of the extents lo..lead and start..stop, or 0 (R30), on signed values. -/
def overlap (lead length start stop : Nat) : Nat :=
  (min (lead : Int) stop - max ((lead : Int) - length) start).toNat

/-- The covered length of a record on a channel (R30): 0 for an undefined segment and for a record
that is DEPARTING. -/
def State.covered (s : State) (c : Chan) (r : TrackRecord) : Nat :=
  match s.segment c with
  | none => 0
  | some seg =>
    if r.departing then 0
    else overlap r.position (s.effective r) seg.start (seg.start + seg.length)

/-- The panel side that faces a channel: the channel's side, exchanged for a flipped record (R31). -/
def TrackRecord.facing (r : TrackRecord) (c : Chan) : Side :=
  match sideOf c, r.flipped with
  | .a, false => .a
  | .a, true => .b
  | .b, false => .b
  | .b, true => .a

/-- The plated area of a panel side. -/
def TrackRecord.area (r : TrackRecord) : Side → Nat
  | .a => r.areaA
  | .b => r.areaB

/-- The covered area of a record on a channel, in cm² (R31). -/
def State.coveredArea (s : State) (c : Chan) (r : TrackRecord) : Nat :=
  r.area (r.facing c) * s.covered c r / s.effective r

/-- The records that may govern a channel (R62) and that contribute to its period (R85): covered
length above 0 and a recipe; a DEPARTING record covers nothing (R30). -/
def State.candidates (s : State) (c : Chan) : List TrackRecord :=
  s.track.filter fun r => decide (0 < s.covered c r) && r.recipe.isSome

/-- The greatest by a measure, the earliest of those that share it. -/
def greatest (measure : TrackRecord → Nat) : List TrackRecord → Option TrackRecord
  | [] => none
  | r :: rest =>
    match greatest measure rest with
    | none => some r
    | some t => if measure r < measure t then some t else some r

/-- The governor rule (R62): the entry number of the candidate with the greatest covered length, the
one earlier in track order where several share it. -/
def State.governorRule (s : State) (c : Chan) : Option Nat :=
  (greatest (s.covered c) (s.candidates c)).map (·.entry)

/-- The midpoint of a segment (R5). -/
def Segment.midpoint (seg : Segment) : Nat := seg.start + seg.length / 2

/-- The stage of a recipe at a midpoint: the one whose start is the greatest not above it (R51). -/
def stageAt (midpoint : Nat) (stages : List Stage) : Option Stage :=
  stages.foldl (fun best st =>
    if st.start ≤ midpoint ∧ best.all (fun b => decide (b.start < st.start)) then some st else best) none

/-- The recipe a track record names. -/
def State.recipeOf (s : State) (r : TrackRecord) : Option Recipe := r.recipe.bind s.recipe

/-- The ramp table of the recipe of the record with an entry number (R56). -/
def State.rampOf (s : State) (entry : Nat) : List Nat :=
  match (s.find entry).bind s.recipeOf with
  | some rec => s.ramp rec.rampTable
  | none => []

/-- The percentage in force at an index read against a table: step k where k is below the number of
steps, else 100 (R55). -/
def percentageAt (steps : List Nat) (index : Int) : Nat := (steps[index.toNat]?).getD 100

/-- The length of an interval of a timing. -/
def Timing.length (t : Timing) : Interval → Nat
  | .fwd => t.fwd
  | .rest1 => t.rest1
  | .rev => t.rev
  | .rest2 => t.rest2

/-- The intervals that follow one in the order of R43. -/
def Interval.following : Interval → List Interval
  | .fwd => [.rest1, .rev, .rest2]
  | .rest1 => [.rev, .rest2]
  | .rev => [.rest2]
  | .rest2 => []

/-- The next interval of non-zero length in the same period, `none` where the present one is the last
(R43, R59). -/
def Timing.next? (t : Timing) (i : Interval) : Option Interval :=
  i.following.find? fun j => t.length j ≠ 0

end Sys2Proof.Machine
end

