-- ==== Sys2Proof/Machine/Exits.lean ====
section
/-! DEFINITION. Leaving the track: the exit record (R138 to R140), the exit list (R38) and EXIT_HIGH
(R39). -/

namespace Sys2Proof.Machine

/-- The net charge density of a side (R139): 0 on area 0; else truncated toward zero and clamped to
32 bits. -/
def netDensity (net : Int) (area : Nat) : Int :=
  if area = 0 then 0
  else max (-2147483648) (min 2147483647 (Int.tdiv net (60 * area)))

/-- The verdict against a target (R140, item 4). -/
def windowVerdict (target tolerance : Nat) (density : Int) : Verdict :=
  let band := target * tolerance / 100
  if density < (target : Int) - band then .under
  else if (target : Int) + band < density then .over
  else .within

/-- A side's verdict: the first that applies of R140, to whose chapter R45 leaves the verdicts (log 33). `recipe` is
the record's recipe, `none` for NONE. -/
def verdict (recipe : Option Recipe) (area : Nat) (density : Int) : Verdict :=
  match recipe with
  | none => .noTarget
  | some r =>
    if area = 0 then .noArea
    else match r.target with
      | none => .noTarget
      | some target => windowVerdict target r.tolerance density

/-- One side of an exit record (R138, R139, R140). -/
def exitSide (recipe : Option Recipe) (area forward reverse : Nat) : ExitSide :=
  let net : Int := (forward : Int) - reverse
  let density := netDensity net area
  ⟨forward, reverse, net, density, verdict recipe area density⟩

/-- The exit record of a record that leaves the track (R138). -/
def State.exitRecord (s : State) (r : TrackRecord) : ExitRecord where
  panelId := r.panelId
  entry := r.entry
  recipe := r.recipe
  effectiveLength := s.effective r
  unannounced := r.unannounced
  lengthMismatch := r.lengthMismatch
  provisionalLength := r.provisionalLength
  estimatedA := r.account.estimatedA
  estimatedB := r.account.estimatedB
  interrupted := r.account.interrupted
  lossBefore := false
  cause := match r.state with | .departing cause => cause | _ => .passed
  sideA := exitSide (s.recipeOf r) r.areaA r.account.forwardA r.account.reverseA
  sideB := exitSide (s.recipeOf r) r.areaB r.account.forwardB r.account.reverseB
  holdDwell := r.account.holdDwell

/-- The exit list after an arrival (R38). -/
def joinExits (e : ExitRecord) (l : List ExitRecord) : List ExitRecord :=
  if l.length < Config.exitCapacity then l ++ [e] else l.tail ++ [{ e with lossBefore := true }]

/-- An exit record arrives: it joins the list, an EXIT notice is raised, and EXIT_HIGH is set where the
count goes from 11 to 12 (R38, R39). -/
def State.exitArrives (s : State) (e : ExitRecord) : State :=
  let after := ({ s with exits := joinExits e s.exits }).raise .exit
  if s.exits.length + 1 = Config.exitHighAt then
    after.changeLineStop fun l => { l with exitHigh := true }
  else after

/-- A record leaves the track: its exit record is built, it is removed, and the exit record joins the
list (R37, R138). -/
def State.leaveTrack (s : State) (entry : Nat) : State :=
  match s.find entry with
  | none => s
  | some r =>
    ({ s with track := s.track.filter fun t => t.entry ≠ entry }).exitArrives (s.exitRecord r)

/-- The record leaves where it is DEPARTING with an in-flight count of 0 (R33, R34, R36). -/
def State.leaveIfDone (s : State) (entry : Nat) : State :=
  match s.find entry with
  | none => s
  | some r => if r.departing && decide (r.inFlight = 0) then s.leaveTrack entry else s

end Sys2Proof.Machine
end

