-- ==== Sys2Proof/Machine/Monitor.lean ====
section
/-! DEFINITION. The Process Monitor's samples and counting, and the anode counters (spec/10). -/

namespace Sys2Proof.Machine

/-- The figures an accounting hands on (R137, R174). -/
structure AccountingSample where
  estimated : Bool
  kind : PeriodKind
  forward : Nat
  clamped : Bool
  contributors : Nat
  totalArea : Nat
  averageForward : Nat
  peakVoltage : Nat
deriving DecidableEq, Repr

/-- A sample (R174). -/
inductive Sample
  | accounting (f : AccountingSample)
  | alignEntry
deriving DecidableEq, Repr

/-- A selector names a channel (R173). -/
def Selector.names : Selector → Chan → Bool
  | .all, _ => true
  | .sideA, c => decide (c.val < 20)
  | .sideB, c => decide (20 ≤ c.val)
  | .one n, c => decide (c.val = n)

/-- 1 or 0 as an increment. -/
def unit (b : Bool) : Nat := b.toNat

/-- The BAND event's raw increment (R176). -/
def bandIncrement (low high : Nat) (f : AccountingSample) : Nat :=
  if f.totalArea = 0 then 0
  else
    let density := f.forward * 1000 / f.totalArea
    unit (decide (low ≤ density) && decide (density ≤ high))

/-- The difference of two figures, without sign. -/
def difference (a b : Nat) : Nat := (a - b) + (b - a)

/-- The raw increment of an accounting sample (R175, R176). -/
def MonitorProgram.accountingIncrement (p : MonitorProgram) (f : AccountingSample) : Nat :=
  match p.event with
  | .periods => 1
  | .clamped => unit f.clamped
  | .deviation => if f.estimated then 0 else difference f.averageForward f.forward
  | .voltage => if f.estimated then 0 else f.peakVoltage
  | .coverage => f.contributors
  | .aligns => 0
  | .zeros => unit (decide (f.kind = .zero))
  | .estimates => unit f.estimated
  | .band => bandIncrement p.bandLow p.bandHigh f

/-- The raw increment of a sample, `none` where a counter of this event does not take it (R174). -/
def MonitorProgram.increment (p : MonitorProgram) : Sample → Option Nat
  | .accounting f => some (p.accountingIncrement f)
  | .alignEntry => if p.event = .aligns then some 1 else none

/-- The condition of a raw increment, for a threshold of 1 or more (R177). -/
def MonitorProgram.condition (p : MonitorProgram) (raw : Nat) : Bool :=
  if p.invert then decide (raw < p.threshold) else decide (p.threshold ≤ raw)

/-- The rise of the count for a raw increment (R177). -/
def Counter.rise (k : Counter) (c : Chan) (raw : Nat) : Nat :=
  if k.program.threshold = 0 then raw
  else if k.program.edge then unit (k.program.condition raw && !k.history[c])
  else unit (k.program.condition raw)

/-- A rise carries the count above its 32 bits (R178). -/
def Counter.wraps (k : Counter) (c : Chan) (raw : Nat) : Bool :=
  decide (Config.count32Max < k.count + k.rise c raw)

/-- A counter counts a raw increment of a channel (R177, R178). -/
def Counter.take (k : Counter) (c : Chan) (raw : Nat) : Counter :=
  { k with
    count := if k.wraps c raw then k.count + k.rise c raw - (Config.count32Max + 1)
      else k.count + k.rise c raw
    overflow := k.overflow || k.wraps c raw
    history := if k.program.threshold = 0 then k.history
      else k.history.set c (k.program.condition raw) }

/-- What a counter makes of a sample of a channel (R174, R177). -/
def Counter.sample (k : Counter) (c : Chan) (x : Sample) : Counter :=
  match k.program.selector.names c, k.program.increment x with
  | true, some raw => k.take c raw
  | _, _ => k

/-- The sample sets the flag of a notifying counter whose flag was clear (R178). -/
def Counter.freezes (k : Counter) (c : Chan) (x : Sample) : Bool :=
  k.program.notify && !k.overflow && (k.sample c x).overflow

/-- A vector with a function applied to each item, in a form the kernel computes with. -/
def mapVec {n : Nat} {α : Type} (f : α → α) (v : Vector α n) : Vector α n :=
  ⟨⟨v.toList.map f⟩, by simp⟩

/-- One sample, taken by all counters it reaches together; the freeze takes effect after it; a frozen
monitor drops it (R174, R178). The place of the MONITOR notice among others of the same event is log 14. -/
def State.sample (s : State) (c : Chan) (x : Sample) : State :=
  if s.monitor.frozen then s
  else
    let freezes := s.monitor.counters.toList.any fun k => k.freezes c x
    let after := { s with monitor := ⟨mapVec (fun k => k.sample c x) s.monitor.counters, freezes⟩ }
    if freezes then after.raise .monitor else after

/-- An addition that stops at a greatest value (R126, R132, R135, R182). -/
def saturate (limit n : Nat) : Nat := min limit n

/-- The anode counters of a channel rise by a period's charges, saturating (R182). -/
def State.anodeCount (s : State) (c : Chan) (forward reverse : Nat) : State :=
  let p := s.anodes[c]
  let risen : AnodePair :=
    ⟨saturate Config.anodeMax (p.forward + forward), saturate Config.anodeMax (p.reverse + reverse)⟩
  { s with anodes := s.anodes.set c risen }

end Sys2Proof.Machine
end

