-- ==== Sys2Proof/Machine/Accounting.lean ====
section
/-! DEFINITION. The accounting of a period (spec/07): charge, distribution, flags, in-flight counts,
departures, and what is handed to the monitor and the anode counters. -/

namespace Sys2Proof.Machine

/-- A contributor's share of a charge before the remainder (R131, item 1). -/
def share (charge sum weight : Nat) : Nat := if sum = 0 then 0 else charge * weight / sum

/-- The remainder of the division among weights (R131, item 2); nothing is divided where the sum is 0
(item 3). -/
def remainder (charge sum : Nat) (weights : List Nat) : Nat :=
  if sum = 0 then 0 else charge - (weights.map (share charge sum)).sum

/-- What a contributor is credited in one direction: its share, and the remainder where it is the
governor (R131). -/
def credit (charge sum : Nat) (weights : List Nat) (weight : Nat) (governs : Bool) : Nat :=
  share charge sum weight + if governs then remainder charge sum weights else 0

/-- Add a period's credits to the accumulators of a panel side, saturating (R132). -/
def Account.add (a : Account) (side : Side) (forward reverse : Nat) : Account :=
  match side with
  | .a => { a with
      forwardA := saturate Config.chargeMax (a.forwardA + forward)
      reverseA := saturate Config.chargeMax (a.reverseA + reverse) }
  | .b => { a with
      forwardB := saturate Config.chargeMax (a.forwardB + forward)
      reverseB := saturate Config.chargeMax (a.reverseB + reverse) }

/-- Set a panel side's ESTIMATED flag (R133). -/
def Account.markEstimated (a : Account) : Side → Account
  | .a => { a with estimatedA := true }
  | .b => { a with estimatedB := true }

/-- The charges of a period, forward and reverse: from its report where one was used and the channel
was not STALE at the close (R129), else estimated (R130). -/
def periodCharge (record : PeriodRecord) (note : CloseNote) (report : Option PeriodReport) : Nat × Nat :=
  match report, note.stale with
  | some r, false => (r.averageForward * r.forwardMs, r.averageReverse * r.reverseMs)
  | _, _ => (record.forward * note.elapsedForward, record.reverse * note.elapsedReverse)

/-- The period is accounted from an estimate (R130). -/
def isEstimated (note : CloseNote) (report : Option PeriodReport) : Bool := report.isNone || note.stale

/-- Credit one contributor (R131, R132), set its flags (R133) and lower its in-flight count (R134). -/
def creditRecord (record : PeriodRecord) (note : CloseNote) (estimated : Bool) (charge : Nat × Nat)
    (p : Contributor) (r : TrackRecord) : TrackRecord :=
  let governs := decide (p.entry = record.governor)
  let side := r.facing record.channel
  let forward := credit charge.1 record.forwardSum (record.contributors.map (·.forwardWeight)) p.forwardWeight governs
  let reverse := credit charge.2 record.reverseSum (record.contributors.map (·.reverseWeight)) p.reverseWeight governs
  let a := r.account.add side forward reverse
  let a := if estimated && decide (record.kind = .normal) then a.markEstimated side else a
  let a := if note.truncated then { a with interrupted := true } else a
  { r with account := a, inFlight := r.inFlight - 1 }

/-- Steps 2 and 3 of R134 for every contributor on the track. -/
def State.creditAll (s : State) (record : PeriodRecord) (note : CloseNote) (estimated : Bool)
    (charge : Nat × Nat) : State :=
  { s with track := s.track.map fun r =>
      match record.contributors.find? fun p => p.entry = r.entry with
      | some p => creditRecord record note estimated charge p r
      | none => r }

/-- The figures handed to the Process Monitor (R137). -/
def accountingSample (record : PeriodRecord) (note : CloseNote) (report : Option PeriodReport) :
    AccountingSample where
  estimated := isEstimated note report
  kind := record.kind
  forward := record.forward
  clamped := record.clamped
  contributors := record.contributors.length
  totalArea := record.totalArea
  averageForward := if isEstimated note report then 0 else (report.map (·.averageForward)).getD 0
  peakVoltage := if isEstimated note report then 0 else (report.map (·.peakVoltage)).getD 0

/-- The accounting of a period (R127, R134, R137): credits, counts, the departures it completes in
track order, then the monitor's sample and the anode counters. So an EXIT notice, with its LINE_STOP, is raised
before a MONITOR notice of the same accounting (log 14). -/
def State.account (s : State) (record : PeriodRecord) (note : CloseNote) (report : Option PeriodReport) :
    State :=
  let charge := periodCharge record note report
  let s := s.creditAll record note (isEstimated note report) charge
  let s := record.contributors.foldl (fun s p => s.leaveIfDone p.entry) s
  let s := s.sample record.channel (.accounting (accountingSample record note report))
  s.anodeCount record.channel charge.1 charge.2

end Sys2Proof.Machine
end

