-- ==== Sys2Proof/Machine/Allocation.lean ====
section
/-! DEFINITION. The Allocation Engine (spec/05): contributors, weights, sums, percentage, rounding and
clamp, put together in the period record. -/

namespace Sys2Proof.Machine

/-- A contribution after hold scaling (R88): floor of the contribution times the hold fraction over
100 in HOLD, the contribution itself otherwise. -/
def scaleHold (held : Bool) (fraction contribution : Nat) : Nat :=
  if held then contribution * fraction / 100 else contribution

/-- The entry of the contributor list for a record (R86, R87, R88). A record whose recipe or stage is
missing, which no run reaches (R50, R51), weighs nothing (log 23). -/
def State.contributor (s : State) (c : Chan) (r : TrackRecord) : Contributor :=
  let area := s.coveredArea c r
  match s.recipeOf r, s.segment c with
  | some rec, some seg =>
    match stageAt seg.midpoint rec.stages with
    | some st =>
      let held := decide (s.mode = .hold)
      ⟨r.entry, area, scaleHold held rec.holdFraction (st.forwardDensity * area),
        scaleHold held rec.holdFraction (st.reverseDensity * area)⟩
    | none => ⟨r.entry, area, 0, 0⟩
  | _, _ => ⟨r.entry, area, 0, 0⟩

/-- The scaled sum of a direction, rounded to deciamps with halves upward (R90, R91). -/
def roundedSum (sum percentage : Nat) : Nat := (sum * percentage / 100 + 500) / 1000

/-- The period record of a period that starts under a governor (R84 to R94). -/
def State.allocate (s : State) (c : Chan) (governor : Nat) (timing : Timing) (kind : PeriodKind) :
    PeriodRecord :=
  let list := (s.candidates c).map (s.contributor c)
  let wf := (list.map (·.forwardWeight)).sum
  let wr := (list.map (·.reverseWeight)).sum
  let pct := percentageAt (s.rampOf governor) (s.chan c).index
  let forwardLimit := ((s.segment c).map (·.forwardLimit)).getD 0
  let reverseLimit := ((s.segment c).map (·.reverseLimit)).getD 0
  let forward := roundedSum wf pct
  let reverse := if timing.rev = 0 then 0 else roundedSum wr pct
  { channel := c
    kind := kind
    governor := governor
    timing := timing
    percentage := if kind = .normal then some pct else none
    holdApplied := decide (s.mode = .hold)
    contributors := list
    forwardSum := wf
    reverseSum := wr
    totalArea := (list.map (·.area)).sum
    forward := if kind = .normal then min forward forwardLimit else 0
    reverse := if kind = .normal then min reverse reverseLimit else 0
    clamped := decide (kind = .normal) && (decide (forwardLimit < forward) || decide (reverseLimit < reverse)) }

/-- Raise the in-flight contribution count of every contributor by one (R35, R94). -/
def State.raiseCounts (s : State) (list : List Contributor) : State :=
  { s with track := s.track.map fun r =>
      if list.any (fun p => p.entry = r.entry) then { r with inFlight := r.inFlight + 1 } else r }

end Sys2Proof.Machine
end

