-- ==== Sys2Proof/Machine/Channels.lean ====
section
/-! DEFINITION. What moves a channel: the arming arbiter (R109), the entries into READY, DORMANT and
FAULTED (R98, R112, R118), runs, periods, ALIGN and drains (R63 to R75), truncation (R116) and the
zero-offset obligation (R76 to R80). Each is written once; the meanings call them. -/

namespace Sys2Proof.Machine

/-! ### Reading -/

/-- The channel is in the scope of an input's DROP (R164). -/
def InterlockConfig.inScope (k : InterlockConfig) (c : Chan) : Bool :=
  match sideOf c with
  | .a => k.sideA && within k.first k.last c.val
  | .b => k.sideB && within k.first k.last (c.val - 20)

/-- The input holds the channel in the scope of its latched DROP (R164). -/
def Interlock.drops (i : Interlock) (c : Chan) : Bool :=
  i.latched && i.config.drop && i.config.inScope c

/-- The channel is inhibited by an interlock DROP (R164). -/
def State.inhibited (s : State) (c : Chan) : Bool := s.interlocks.toList.any fun i => i.drops c

/-- The state is ARMING. -/
def ChannelState.isArming : ChannelState → Bool
  | .arming _ => true
  | _ => false

/-- The state is FAULTED. -/
def ChannelState.isFaulted : ChannelState → Bool
  | .faulted _ => true
  | _ => false

/-! ### The arming arbiter -/

/-- Some channel of the group is ARMING. -/
def State.armingIn (s : State) (g : BusGroup) : Bool :=
  Chan.all.any fun c => decide (s.busGroup c = some g) && (s.chan c).state.isArming

/-- The group's time since its last grant is none, or has reached its arming spacing (R109). -/
def State.spaced (s : State) (g : BusGroup) : Bool :=
  (s.group g).sinceGrant.all fun t => decide (s.prof.spacing[g] ≤ t)

/-- The channel a group's arbiter would grant: the oldest queued one out of contactor rest, where the
conditions of R109 hold. -/
def State.grantee (s : State) (g : BusGroup) : Option Chan :=
  if s.mode.active && !s.armingIn g && s.spaced g then
    (s.group g).queue.find? fun c => (s.chan c).rest.isNone
  else none

/-- A grant (R109, R110): out of the queue, ARMING with its timer, contactor closed by an Arm Order. -/
def State.grant (s : State) (g : BusGroup) (c : Chan) : State :=
  let s := s.updGroup g fun q => { queue := q.queue.filter (· ≠ c), sinceGrant := some 0 }
  let s := s.updChan c fun ch =>
    { ch with state := .arming Config.armingMs, contactorClosed := true, missing := 0, forward := 0, reverse := 0 }
  s.order c .arm

/-- The arbiter looks at its group (R109). -/
def State.arbiter (s : State) (g : BusGroup) : State :=
  match s.grantee g with
  | some c => s.grant g c
  | none => s

/-- The arbiter of a channel's group looks. -/
def State.arbiterOf (s : State) (c : Chan) : State :=
  match s.busGroup c with
  | some g => s.arbiter g
  | none => s

/-- The channel leaves its arming queue (R108). -/
def State.dequeue (s : State) (c : Chan) : State :=
  { s with groups := mapVec (fun q => { q with queue := q.queue.filter (· ≠ c) }) s.groups }

/-- The channel is queued (R108). -/
def State.queued (s : State) (c : Chan) : Bool := s.groups.toList.any fun q => decide (c ∈ q.queue)

/-! ### Closing and truncating a period -/

/-- The elapsed forward and reverse ms of a period closed before its end (R128). -/
def elapsed (p : InFlight) : Nat × Nat :=
  let t := p.record.timing
  match p.interval with
  | .fwd => (t.fwd - p.remaining, 0)
  | .rest1 => (t.fwd, 0)
  | .rev => (t.fwd, t.rev - p.remaining)
  | .rest2 => (t.fwd, t.rev)

/-- The close note of a period (R128). -/
def closeNote (p : InFlight) (truncated stale : Bool) : CloseNote :=
  if truncated then ⟨true, (elapsed p).1, (elapsed p).2, stale⟩
  else ⟨false, p.record.timing.fwd, p.record.timing.rev, stale⟩

/-- The period in flight closes and its report window opens (R103, R116). -/
def Channel.closed (truncated : Bool) (ch : Channel) : Channel :=
  match ch.period with
  | .delivering p =>
    { ch with
      period := .idle
      windows := ch.windows ++
        [⟨p.tag, Config.windowMs, .period p.record (closeNote p truncated ch.stale) p.zeroRequest⟩] }
  | _ => ch

/-- The setpoints become zero (R93, R99). -/
def Channel.zeroed (ch : Channel) : Channel := { ch with forward := 0, reverse := 0 }

/-- Truncation (R116): Stop Order, close, setpoints zero; a channel with no period in flight has
nothing to truncate. -/
def State.truncate (s : State) (c : Chan) : State :=
  match (s.chan c).period with
  | .delivering p => (s.order c (.stop p.tag)).updChan c fun ch => (ch.closed true).zeroed
  | _ => s

/-! ### Entries into DORMANT and FAULTED -/

/-- The period state on entry into DORMANT or FAULTED (R61). -/
def Channel.periodCleared (ch : Channel) : Channel :=
  { ch with period := .idle, index := 0, zero := .none, stale := false, zeroTimer := none, retry := none }

/-- Entry into DORMANT from a closed contactor (R98, R112): Disarm Order, contactor rest started; the
end of an ARMING is an occasion for the arbiter (R109). -/
def State.toDormant (s : State) (c : Chan) : State :=
  let wasArming := (s.chan c).state.isArming
  let rest := s.prof.contactorRest
  let s := (s.order c .disarm).updChan c fun ch =>
    { ch.periodCleared.zeroed with state := .dormant, contactorClosed := false, rest := some rest }
  if wasArming then s.arbiterOf c else s

/-- Entry into FAULTED (R118): a period in flight is truncated first (R116), a Disarm Order follows
where the contactor is closed, and a channel already FAULTED takes no second fault. -/
def State.toFaulted (s : State) (c : Chan) (cause : FaultCause) : State :=
  if (s.chan c).state.isFaulted then s
  else
    let wasArming := (s.chan c).state.isArming
    let s := s.truncate c
    let s := if (s.chan c).contactorClosed then s.order c .disarm else s
    let s := (s.dequeue c).updChan c fun ch =>
      { ch.periodCleared.zeroed with
        state := .faulted cause, contactorClosed := false, missing := 0, rest := none }
    let s := s.raise .channelFault
    if wasArming then s.arbiterOf c else s

/-! ### Runs, ALIGN and READY -/

/-- The channel enters ALIGN towards a record: setpoints zero, and an ALIGN-entry sample (R65, R93,
R174). -/
def State.toAlign (s : State) (c : Chan) (governor : Nat) : State :=
  (s.updChan c fun ch => { ch.zeroed with period := .align governor }).sample c .alignEntry

/-- The channel may start a run: READY in RUN or HOLD, not inhibited, no lone Zero Order outstanding
(R63). -/
def State.mayStart (s : State) (c : Chan) : Bool :=
  decide ((s.chan c).state = .ready) && (decide (s.mode = .run) || decide (s.mode = .hold)) &&
  !s.inhibited c && !(s.chan c).loneZero

/-- A start occasion of a channel (R63): where it may start and the governor rule finds a governor,
a run starts in ALIGN with the ramp index at step 0 and the retry wait stopped (R71, R80). -/
def State.startOccasion (s : State) (c : Chan) : State :=
  if s.mayStart c then
    match s.governorRule c with
    | some g => (s.updChan c fun ch => { ch with state := .running, index := 0, retry := none }).toAlign c g
    | none => s
  else s

/-- A start occasion for every READY channel. -/
def State.startOccasions (s : State) : State := s.forChans fun c s => s.startOccasion c

/-- A READY channel whose status is DUE, with no attempt outstanding and its retry wait stopped, sends
a lone Zero Order (R80, R119). -/
def State.loneZeroIfDue (s : State) (c : Chan) : State :=
  let ch := s.chan c
  if ch.state = .ready ∧ ch.zero = .due ∧ ch.retry = none ∧ ch.loneZero = false then
    (s.order c (.zero ch.tag)).updChan c fun ch =>
      { ch with tag := (ch.tag + 1) % 256, zero := .attempting, loneZero := true }
  else s

/-- Entry into READY: no period, setpoints zero; a lone Zero Order falls due first where the status is
DUE, and the entry is a start occasion (R63, R80, R110). -/
def State.toReady (s : State) (c : Chan) : State :=
  let s := s.updChan c fun ch => { ch.zeroed with state := .ready, period := .idle }
  (s.loneZeroIfDue c).startOccasion c

/-! ### Periods -/

/-- The recipe's rests leave a module no 2 ms to sample in (R78). -/
def Timing.noRest (t : Timing) : Bool := decide (t.rest1 < 2) && decide (t.rest2 < 2)

/-- The index after the start of a period (R64, R70, R74): a NORMAL period of a RUNNING channel raises
it by one up to 16, of a DRAINING channel lowers it by one; a ZERO period leaves it. -/
def indexAfter (kind : PeriodKind) (state : ChannelState) (index : Int) : Int :=
  match kind, state with
  | .zero, _ => index
  | .normal, .draining _ => index - 1
  | .normal, _ => min (index + 1) Config.rampSteps

/-- A period starts under a governor (R64, R78, R94, R101). A governor whose recipe is missing, which no
run reaches (R50, R62), starts none: the channel goes to READY (log 23). -/
def State.startPeriod (s : State) (c : Chan) (governor : Nat) : State :=
  match (s.find governor).bind s.recipeOf with
  | none => s.toReady c
  | some rec =>
    let ch := s.chan c
    let due := decide (ch.zero = .due)
    let kind := if due && rec.timing.noRest then PeriodKind.zero else .normal
    let record := s.allocate c governor rec.timing kind
    let s := s.raiseCounts record.contributors
    let s := s.order c (.period ch.tag record.forward record.reverse rec.timing due)
    s.updChan c fun ch =>
      { ch with
        period := .delivering ⟨record, ch.tag, due, .fwd, rec.timing.fwd⟩
        timing := rec.timing
        forward := record.forward
        reverse := record.reverse
        tag := (ch.tag + 1) % 256
        zero := if due then .attempting else ch.zero
        index := indexAfter kind ch.state ch.index }

/-- The governor rule is applied and its outcome taken (R65): the next period under the governor of the
period that ended, ALIGN towards another record, or READY. `ended` is `none` where no period ended
(R66, R67). -/
def State.takeRule (s : State) (c : Chan) (ended : Option Nat) : State :=
  match s.governorRule c with
  | none => s.toReady c
  | some g => if ended = some g then s.startPeriod c g else s.toAlign c g

/-- Every channel in ALIGN towards a record that is DEPARTING applies the rule at once (R67). -/
def State.realign (s : State) : State :=
  s.forChans fun c s =>
    match (s.chan c).period with
    | .align g => if (s.find g).any (·.departing) then s.takeRule c none else s
    | _ => s

/-! ### Drains -/

/-- The number of steps of the table of the record that governs the period in flight (R72). -/
def State.drainSteps (s : State) (c : Chan) : Nat :=
  match (s.chan c).period with
  | .delivering p => (s.rampOf p.record.governor).length
  | _ => 0

/-- READY at the end of a drain that leaves no number to be read as the ramp index: a DROP has discarded
the drain index (R73), or it stands at -1 or -2, which no ramp index does (R61, R74). The ramp index left is
open (log 7). -/
def State.drainToReady (s : State) (c : Chan) : State :=
  let (k, s) := s.takeFree Config.openRampIndex
  (s.updChan c fun ch => { ch with index := k.val }).toReady c

/-- A drain goes to its destination (R74, R115). In READY the one stored number, until now the drain index,
is the ramp index (R61), where it is one. -/
def State.drainEnds (s : State) (c : Chan) : Destination → State
  | .ready => if (s.chan c).index < 0 then s.drainToReady c else s.toReady c
  | .dormant => s.toDormant c

/-- A drain is begun on a RUNNING channel (R72): with a period in flight it becomes DRAINING with the
drain index; in ALIGN it goes to its destination at once. -/
def State.beginDrain (s : State) (c : Chan) (d : Destination) : State :=
  match (s.chan c).period with
  | .delivering _ =>
    let n := s.drainSteps c
    s.updChan c fun ch => { ch with state := .draining d, index := min ch.index n - 2 }
  | _ =>
    match d with
    | .ready => s.toReady c
    | .dormant => s.toDormant c

/-- A drain is cancelled (R75): RUNNING again, with the ramp index two above the drain index. -/
def State.cancelDrain (s : State) (c : Chan) : State :=
  s.updChan c fun ch => { ch with state := .running, index := ch.index + 2 }

/-- The next period of a DRAINING channel, or the end of its drain (R74). -/
def State.stepDrain (s : State) (c : Chan) (d : Destination) (ended : Nat) : State :=
  if (s.chan c).index < 0 then s.drainEnds c d
  else if s.governorRule c = some ended then s.startPeriod c ended
  else s.drainEnds c d

/-! ### The zero-offset outcome -/

/-- An attempt's outcome (R79, R80). `lone` marks that of a lone Zero Order. A status that is not
ATTEMPTING (the channel has entered DORMANT or FAULTED) is unchanged by it. -/
def State.zeroOutcome (s : State) (c : Chan) (lone valid : Bool) : State :=
  let attempting := decide ((s.chan c).zero = .attempting)
  let interval := s.prof.zeroInterval * 1000
  let s := s.updChan c fun ch =>
    let ch := if lone then { ch with loneZero := false } else ch
    if !attempting then ch
    else if valid then { ch with zero := .valid, zeroTimer := some interval, stale := false }
    else { ch with
      zero := .due, stale := true
      retry := if lone && decide (ch.state = .ready) then some Config.retryMs else ch.retry }
  let s := s.loneZeroIfDue c
  if lone then s.startOccasion c else s

end Sys2Proof.Machine
end

