-- ==== Sys2Proof/Machine/Reports.lean ====
section
/-! DEFINITION. Period reports and report windows (R101 to R105, R117), arm reports and the arming
timer (R110, R111). -/

namespace Sys2Proof.Machine

/-- A report shows that the module answers: the missing-report count returns to 0 (R103, R104). -/
def State.heard (s : State) (c : Chan) : State := s.updChan c fun ch => { ch with missing := 0 }

/-- The zero value of a used report with zero-valid set is kept (R99). -/
def State.keepZero (s : State) (c : Chan) (r : PeriodReport) : State :=
  if r.zeroValid then s.updChan c fun ch => { ch with lastZero := some r.zeroValue } else s

/-- A used report's fault code is acted on (R117). -/
def State.reportFault (s : State) (c : Chan) (r : PeriodReport) : State :=
  if r.faultCode = 0 then s else s.toFaulted c (.moduleFault r.faultCode)

/-- What a used report, or an empty close, does for its order beyond the counts (R103, R105): the
accounting of a period, and the outcome of a zero request. -/
def State.settleWindow (s : State) (c : Chan) (w : Window) (report : Option PeriodReport) : State :=
  let valid := report.any (·.zeroValid)
  match w.kind with
  | .zeroOrder => s.zeroOutcome c true valid
  | .period record note zeroRequest =>
    let s := s.account record note report
    if zeroRequest then s.zeroOutcome c false valid else s

/-- A window leaves the open ones. -/
def State.closeWindow (s : State) (c : Chan) (w : Window) : State :=
  s.updChan c fun ch => { ch with windows := ch.windows.erase w }

/-- A report is used in its window (R103). -/
def State.useReport (s : State) (c : Chan) (w : Window) (r : PeriodReport) : State :=
  let s := ((s.closeWindow c w).heard c).keepZero c r
  (s.settleWindow c w (some r)).reportFault c r

/-- The module's own early stop (R117): the period in flight closes as truncated, the report is used
for it at once, no Stop Order is sent, and the channel is FAULTED. -/
def State.earlyStop (s : State) (c : Chan) (p : InFlight) (r : PeriodReport) : State :=
  let note := closeNote p true (s.chan c).stale
  let s := s.updChan c fun ch => { ch.zeroed with period := .idle }
  let s := (s.heard c).keepZero c r
  let s := s.account p.record note (some r)
  let s := if p.zeroRequest then s.zeroOutcome c false r.zeroValid else s
  s.reportFault c r

/-- The open window of a tag. -/
def Channel.windowOf (ch : Channel) (tag : Nat) : Option Window := ch.windows.find? fun w => w.tag = tag

/-- A period report arrives (R101, R103, R104, R117): nothing from an absent module; used where its
tag has an open window; the early stop where it names the period in flight with a fault code; else
discarded, which shows all the same that the module answers. -/
def State.takeReport (s : State) (c : Chan) (r : PeriodReport) : State :=
  if (s.chan c).state = .faulted .moduleAbsent then s
  else
    match (s.chan c).windowOf r.tag with
    | some w => s.useReport c w r
    | none =>
      match (s.chan c).period with
      | .delivering p => if p.tag = r.tag ∧ r.faultCode ≠ 0 then s.earlyStop c p r else s.heard c
      | _ => s.heard c

/-- A window has closed empty (R105, R118): the missing-report count of a channel that is not FAULTED
rises, and a count that would reach 3 faults it. -/
def State.missed (s : State) (c : Chan) : State :=
  if (s.chan c).state.isFaulted then s
  else if (s.chan c).missing + 1 = Config.silentAt then s.toFaulted c .moduleSilent
  else s.updChan c fun ch => { ch with missing := ch.missing + 1 }

/-- The oldest open window closes with no report used (R105; log 19). -/
def State.windowCloses (s : State) (c : Chan) : State :=
  match (s.chan c).windows with
  | [] => s
  | w :: _ => ((s.closeWindow c w).settleWindow c w none).missed c

/-- An arm report (R101, R110, R111): matched to the Arm Order of an ARMING it ends it, in READY with the zero
status DUE, or in FAULTED. For a channel not ARMING, and before that Arm Order is sent (log 36), no order
awaits it: it is discarded and shows only that the module answers. -/
def State.takeArmReport (s : State) (c : Chan) (code : Nat) : State :=
  if (s.chan c).state.isArming && !s.unsent c .arm then
    if code = 0 then
      let s := s.updChan c fun ch => { ch with state := .ready, zero := .due, stale := false }
      (s.toReady c).arbiterOf c
    else s.toFaulted c (.moduleFault code)
  else if (s.chan c).state = .faulted .moduleAbsent then s
  else s.heard c

end Sys2Proof.Machine
end

