-- ==== Sys2Proof/Machine/Modes.lean ====
section
/-! DEFINITION. The line mode and the hold-cause set (spec/08 R149 to R158): the entries into RUN,
HOLD, STANDBY and OFFLINE, and the adding and removing of hold causes. -/

namespace Sys2Proof.Machine

/-- The stall timer is restarted with the profile's stall time (R14). -/
def State.restartStall (s : State) : State :=
  { s with conveyor := { s.conveyor with stall := .running s.prof.stallTime } }

/-- Change every channel that is RUNNING. -/
def Channel.whenRunning (f : Channel → Channel) (ch : Channel) : Channel :=
  if ch.state = .running then f ch else ch

/-- Entry into RUN from OFFLINE (R16, R150). -/
def State.offlineToRun (s : State) : State :=
  { s with
    mode := .run
    conveyor :=
      { remainder := 0, backlash := 0, accepted := s.pins.eye, debounce := none,
        stall := .running s.prof.stallTime } }

/-- Entry into RUN from HOLD (R150): the stall timer restarts, and the ramp index of every RUNNING
channel restarts at step 0 (R71). -/
def State.holdToRun (s : State) : State :=
  let s := ({ s with mode := .run }).restartStall
  { s with channels := mapVec (Channel.whenRunning fun ch => { ch with index := 0 }) s.channels }

/-- Entry into RUN from STANDBY (R150): the stall timer restarts, drains to READY are cancelled (R75),
and every READY channel has a start occasion (R63). -/
def State.standbyToRun (s : State) : State :=
  let s := ({ s with mode := .run }).restartStall
  let s := s.forChans fun c s => if (s.chan c).state = .draining .ready then s.cancelDrain c else s
  s.startOccasions

/-- Entry into HOLD from RUN (R151): every READY channel has a start occasion. -/
def State.runToHold (s : State) (causes : HoldCauses) : State :=
  ({ s with mode := .hold, holdCauses := causes }).startOccasions

/-- Entry into STANDBY (R152): the hold-cause set is emptied, and every RUNNING channel begins a drain
to READY, in ALIGN ending it at once (R72). -/
def State.toStandby (s : State) : State :=
  let s := { s with mode := .standby, holdCauses := HoldCauses.none }
  s.forChans fun c s => if (s.chan c).state = .running then s.beginDrain c .ready else s

/-- Entry into OFFLINE (R153): the hold-cause set and the arming queues are emptied, every time since
last grant is none (R122), and the stall timer is STOPPED (R14). -/
def State.toOffline (s : State) : State :=
  { s with
    mode := .offline
    holdCauses := HoldCauses.none
    conveyor := { s.conveyor with stall := .stopped }
    groups := mapVec (fun _ => ⟨[], none⟩) s.groups }

/-- A hold cause is added by an event that is not a request (R154, R155, R157): in RUN the line enters
HOLD with a LINE_MODE notice (R158), in HOLD the set grows, elsewhere nothing is added. A MONITOR notice that
an ALIGN entry of a run started then raises (R151, R178) comes before that LINE_MODE notice (log 14). -/
def State.addHoldCause (s : State) (f : HoldCauses → HoldCauses) : State :=
  match s.mode with
  | .run => (s.runToHold (f s.holdCauses)).raise .lineMode
  | .hold => { s with holdCauses := f s.holdCauses }
  | _ => s

/-- STALL is removed by an advance event (R155): where it was the last cause the line returns to RUN
with a LINE_MODE notice (R158). -/
def State.removeStall (s : State) : State :=
  if s.holdCauses.stall then
    let causes := { s.holdCauses with stall := false }
    let s := { s with holdCauses := causes }
    if causes.isEmpty then s.holdToRun.raise .lineMode else s
  else s

/-- Some segment record of either side is defined (R149). -/
def State.anySegment (s : State) : Bool := s.segments.toList.any (·.isSome)

/-- Some interlock input whose actions include HOLD is latched (R149, R157). -/
def State.holdLatched (s : State) : Bool := s.interlocks.toList.any fun i => i.latched && i.config.hold

/-- Some interlock input whose actions include STOP is latched (R168). -/
def State.stopLatched (s : State) : Bool := s.interlocks.toList.any fun i => i.latched && i.config.stop

/-- Some channel is ARMING, READY, RUNNING or DRAINING (R149). -/
def State.anyArmed (s : State) : Bool :=
  s.channels.toList.any fun ch =>
    match ch.state with
    | .dormant | .faulted _ => false
    | .arming _ | .ready | .running | .draining _ => true

/-- SetMode RUN (R149, R150, R156): the result code and the state after. -/
def State.setModeRun (s : State) : ResultCode × State :=
  match s.mode with
  | .offline =>
    if s.profile.isNone || !s.anySegment then (.notConfigured, s)
    else if s.holdLatched then (.stillActive, s)
    else (.ok, s.offlineToRun)
  | .run => (.ok, s)
  | .hold =>
    if s.holdCauses.interlock then (.stillActive, s)
    else
      let causes := { s.holdCauses with command := false }
      let s := { s with holdCauses := causes }
      (.ok, if causes.isEmpty then s.holdToRun else s)
  | .standby => if s.holdLatched then (.stillActive, s) else (.ok, s.standbyToRun)
  | .boot => (.booting, s)

/-- SetMode HOLD (R149, R151, R156). -/
def State.setModeHold (s : State) : ResultCode × State :=
  match s.mode with
  | .run => (.ok, s.runToHold { s.holdCauses with command := true })
  | .hold => (.ok, { s with holdCauses := { s.holdCauses with command := true } })
  | .offline | .standby => (.wrongMode, s)
  | .boot => (.booting, s)

/-- SetMode STANDBY (R149, R152). -/
def State.setModeStandby (s : State) : ResultCode × State :=
  match s.mode with
  | .run | .hold => (.ok, s.toStandby)
  | .standby => (.ok, s)
  | .offline => (.wrongMode, s)
  | .boot => (.booting, s)

/-- SetMode OFFLINE (R149, R153). -/
def State.setModeOffline (s : State) : ResultCode × State :=
  match s.mode with
  | .offline => (.ok, s)
  | .run | .hold | .standby =>
    if !s.track.isEmpty then (.trackNotEmpty, s)
    else if s.anyArmed then (.channelsArmed, s)
    else (.ok, s.toOffline)
  | .boot => (.booting, s)

end Sys2Proof.Machine
end

