-- ==== Sys2Proof/Machine/Tracking.lean ====
section
/-! DEFINITION. The Conveyor Tracker (spec/01 R8 to R16) and the Panel Tracker's binding,
measurement, advance and departure (spec/02 R23 to R36). -/

namespace Sys2Proof.Machine

/-! ### Encoder phases -/

/-- The two encoder phases (R8). -/
structure Phases where
  a : Level
  b : Level
deriving DecidableEq, Repr

/-- The direction of a pulse. -/
inductive PulseDirection | forward | reverse
deriving DecidableEq, Repr

/-- The pulse a change of the phases is (R8; log 21): a change of one phase with the other steady, forward or reverse
by the order of the phases; `aLeads` is that order, fixed by the encoder's mounting: phase A changes
before phase B in forward travel. No change, and a change of both together, is no pulse. -/
def pulseOf (aLeads : Bool) (before after : Phases) : Option PulseDirection :=
  let direction (leads : Bool) : PulseDirection := if leads = aLeads then .forward else .reverse
  if before.a ≠ after.a ∧ before.b = after.b then some (direction (decide (after.a ≠ after.b)))
  else if before.a = after.a ∧ before.b ≠ after.b then some (direction (decide (after.a = after.b)))
  else none

/-! ### Binding and measuring -/

/-- The phase clock of a record bound with a recipe (R58); none for recipe NONE. -/
def State.newClock (s : State) (recipe : Option Nat) : Option PhaseClock :=
  (recipe.bind s.recipe).map fun r => ⟨.fwd, r.timing.fwd, 0⟩

/-- The entry number after one (R20). -/
def nextEntryAfter (n : Nat) : Nat := if n = 65535 then 1 else n + 1

/-- The record made from a staging entry (R23). -/
def State.boundRecord (s : State) (e : StagingEntry) : TrackRecord where
  entry := s.nextEntry
  panelId := e.panelId
  recipe := some e.recipe
  announced := e.announced
  areaA := e.areaA
  areaB := e.areaB
  flipped := e.flipped
  position := s.prof.eye
  measured := none
  state := .entering
  unannounced := false
  lengthMismatch := false
  provisionalLength := false
  inFlight := 0
  clock := s.newClock (some e.recipe)
  account := .zero

/-- The record of an unannounced panel, from the profile's fallback (R24, R52). -/
def State.unannouncedRecord (s : State) : TrackRecord where
  entry := s.nextEntry
  panelId := 0
  recipe := s.prof.fallback
  announced := none
  areaA := s.prof.fallbackAreaA
  areaB := s.prof.fallbackAreaB
  flipped := false
  position := s.prof.eye
  measured := none
  state := .entering
  unannounced := true
  lengthMismatch := false
  provisionalLength := false
  inFlight := 0
  clock := s.newClock s.prof.fallback
  account := .zero

/-- A tracking cause is set and its TRACKING notice raised; a LINE_STOP notice follows behind it (R170). -/
def State.trackingCause (s : State) (f : LineStopCauses → LineStopCauses) : State :=
  (s.raise .tracking).changeLineStop f

/-- An accepted rising edge (R23, R24, R25): binds the head of the staging queue, or an unannounced
record, and gives every READY channel a start occasion; or finds the track full. -/
def State.risingEdge (s : State) : State :=
  if Config.trackCapacity ≤ s.track.length then
    s.trackingCause fun l => { l with trackFull := true }
  else
    let bound := match s.staging with
      | e :: rest => { s with staging := rest, track := s.track ++ [s.boundRecord e] }
      | [] => { s with track := s.track ++ [s.unannouncedRecord] }
    ({ bound with nextEntry := nextEntryAfter s.nextEntry }).startOccasions

/-- The measurement of an ENTERING record (R26). -/
def measure (eye tolerance : Nat) (r : TrackRecord) : TrackRecord :=
  let m := r.position - eye
  { r with
    measured := some m
    lengthMismatch := r.lengthMismatch || r.announced.any fun a => decide (tolerance < difference m a)
    state := .onLine }

/-- An accepted falling edge applies to the ENTERING record, and is ignored where there is none (R26). -/
def State.fallingEdge (s : State) : State :=
  { s with track := s.track.map fun r =>
      if r.state = .entering then measure s.prof.eye s.prof.tolerance r else r }

/-! ### The eye filter -/

/-- The conditions of an accepted edge (R12). -/
def State.edgeAccepted (s : State) : Bool :=
  s.mode.active && decide (s.conveyor.backlash = 0) &&
  (s.conveyor.debounce.all fun d => decide (d = Config.debounceMm)) &&
  decide (s.pins.eye ≠ s.conveyor.accepted)

/-- The eye filter examines the eye, and delivers the edge it accepts (R12, R13). -/
def State.examineEye (s : State) : State :=
  if s.edgeAccepted then
    let s := { s with conveyor := { s.conveyor with accepted := s.pins.eye, debounce := some 0 } }
    match s.pins.eye with
    | .high => s.risingEdge
    | .low => s.fallingEdge
  else s

/-- A change of level at the eye (R13): the filter examines the eye as it now stands. An unchanged level
is no change (log 26). -/
def State.eyeChanges (s : State) (l : Level) : State :=
  if s.pins.eye = l then s else ({ s with pins := { s.pins with eye := l } }).examineEye

/-! ### Departure -/

/-- A record begins departure (R28, R33, R34). -/
def TrackRecord.depart (cause : DepartureCause) (r : TrackRecord) : TrackRecord :=
  { r with
    state := .departing cause
    provisionalLength := r.provisionalLength || decide (r.state = .entering) }

/-- A record not yet DEPARTING has passed out of the cell (R33). -/
def State.passedOut (s : State) (r : TrackRecord) : Bool :=
  !r.departing &&
  (decide (s.prof.lineLength + s.effective r ≤ r.position) ||
   decide (s.prof.lineLength + Config.overrunMm ≤ r.position))

/-- RemovePanel's action on the record named (R34): a record already DEPARTING keeps its state and
cause; channels awaiting it apply the governor rule (R67); then it leaves at once with nothing in flight. No rule
orders these two: the governor rule, whose ALIGN entry may raise MONITOR, comes before the leaving and its EXIT
(log 39). -/
def State.removeRecord (s : State) (r : TrackRecord) : State :=
  if r.departing then s
  else ((s.updRecord r.entry (TrackRecord.depart .removed)).realign).leaveIfDone r.entry

/-! ### Advance events -/

/-- The records after a millimetre (R29). `ahead` is the position of the next older record where that
record was not moved. -/
def moveTrack (limit : Nat) (ahead : Option Nat) : List TrackRecord → List TrackRecord
  | [] => []
  | r :: rest =>
    if limit ≤ r.position ∨ ahead = some (r.position + 1) then
      r :: moveTrack limit (some r.position) rest
    else { r with position := r.position + 1 } :: moveTrack limit none rest

/-- An ENTERING record is judged eye-stuck (R27). -/
def State.eyeStuck (s : State) (r : TrackRecord) : Bool :=
  decide (r.state = .entering) &&
  decide (s.prof.eye + Config.overrunMm + s.prof.tolerance < r.position)

/-- The eye-stuck judgement (R27). -/
def State.judgeEyeStuck (s : State) : State :=
  if s.track.any s.eyeStuck then
    ({ s with track := s.track.map fun r =>
        if s.eyeStuck r then { r with state := .onLine, provisionalLength := true } else r }).trackingCause
      fun l => { l with eyeStuck := true }
  else s

/-- The departures of an advance event (R33), the channels that awaited a departing record (R67), and
the records that leave at once, oldest first. -/
def State.judgeDepartures (s : State) : State :=
  let leaving := (s.track.filter s.passedOut).map (·.entry)
  let s := { s with track := s.track.map fun r => if s.passedOut r then r.depart .passed else r }
  leaving.foldl State.leaveIfDone s.realign

/-- The debounce travel after an advance event (R12). -/
def debounceAfter (d : Option Nat) : Option Nat := d.map fun n => if n < Config.debounceMm then n + 1 else n

/-- Every record moves its millimetre, or is withheld (R29). -/
def State.moveRecords (s : State) : State :=
  { s with track := moveTrack (s.prof.lineLength + Config.overrunMm) none s.track }

/-- Change the Conveyor Tracker. -/
def State.updConveyor (s : State) (f : Conveyor → Conveyor) : State := { s with conveyor := f s.conveyor }

/-- The eye filter at an advance event: the debounce travel grows, and the eye is examined where it
reaches 3 (R12, R13). -/
def State.growDebounce (s : State) : State :=
  let after := s.updConveyor fun v => { v with debounce := debounceAfter v.debounce }
  if s.conveyor.debounce = some 2 then after.examineEye else after

/-- An advance event (R11, in the order it lists; log 17): the Panel Tracker moves the records and
judges eye-stuck and departures, Phase Timing looks at READY channels, the stall timer restarts and
STALL is removed (R15), and the eye filter's travel grows. -/
def State.advance (s : State) : State :=
  let tracked := s.moveRecords.judgeEyeStuck.judgeDepartures.startOccasions
  tracked.restartStall.removeStall.growDebounce

/-! ### Pulses -/

/-- The saturation value of the backlash count (R10). -/
def State.backlashLimit (s : State) : Nat := Config.reverseLimitMm * s.prof.pulsesPerMm

/-- A forward pulse (R8, R9). -/
def State.takeForwardPulse (s : State) : State :=
  if !s.mode.active then s
  else if 0 < s.conveyor.backlash then
    let after := s.updConveyor fun v => { v with backlash := v.backlash - 1 }
    if s.conveyor.backlash = 1 then after.examineEye else after
  else if s.conveyor.remainder + 1 = s.prof.pulsesPerMm then
    (s.updConveyor fun v => { v with remainder := 0 }).advance
  else s.updConveyor fun v => { v with remainder := v.remainder + 1 }

/-- A reverse pulse (R8, R10). -/
def State.takeReversePulse (s : State) : State :=
  if !s.mode.active || decide (s.backlashLimit ≤ s.conveyor.backlash) then s
  else
    let after := s.updConveyor fun v => { v with backlash := v.backlash + 1 }
    if s.conveyor.backlash + 1 = s.backlashLimit then
      after.trackingCause fun l => { l with reverseLimit := true }
    else after

/-- A change of the encoder phases (R8): the pulse it is, if any, is taken. The rows FORWARD_PULSE and
REVERSE_PULSE are these pulses (log 21). -/
def State.takePhases (s : State) (aLeads : Bool) (before after : Phases) : State :=
  match pulseOf aLeads before after with
  | some .forward => s.takeForwardPulse
  | some .reverse => s.takeReversePulse
  | none => s

/-- The stall timer runs out (R15). -/
def State.stallExpires (s : State) : State :=
  match s.conveyor.stall with
  | .running _ =>
    let s := s.updConveyor fun v => { v with stall := .expired }
    match s.mode with
    | .run => s.addHoldCause fun h => { h with stall := true }
    | _ => s
  | _ => s

end Sys2Proof.Machine
end

