-- ==== Sys2Proof/Machine/Clocks.lean ====
section
/-! DEFINITION. What happens when a clock or a timer runs out: phase clocks (R59), channel intervals
and periods (R64 to R66, R74), the zero timer and the retry wait (R76, R80), contactor rest (R112),
arming spacing (R109), hold dwell (R135). A command of this kind is the running out itself, whatever
time the state still shows (log 1). -/

namespace Sys2Proof.Machine

/-! ### Phase clocks -/

/-- A running phase clock with the timing it runs through (R58, R60). -/
def State.runningClock (s : State) (r : TrackRecord) : Option (PhaseClock × Timing) :=
  if r.departing then none
  else
    match r.clock, s.recipeOf r with
    | some k, some rec => some (k, rec.timing)
    | _, _ => none

/-- The boundary event at a channel whose ALIGN awaits the record (R66): a period starts under a record
that still covers; otherwise the governor rule is applied. -/
def State.alignEnds (s : State) (c : Chan) (entry : Nat) : State :=
  if (s.find entry).any fun r => decide (0 < s.covered c r) then s.startPeriod c entry
  else s.takeRule c none

/-- The period count after a boundary (R58). -/
def periodsAfter (n : Nat) : Nat := if n = Config.count32Max then 0 else n + 1

/-- A phase boundary (R59): the clock begins its next period, and each channel awaiting the record in
ALIGN takes the boundary event. -/
def State.passBoundary (s : State) (entry : Nat) (k : PhaseClock) (t : Timing) : State :=
  let s := s.updRecord entry fun r => { r with clock := some ⟨.fwd, t.fwd, periodsAfter k.periods⟩ }
  s.forChans fun c s => if (s.chan c).period = .align entry then s.alignEnds c entry else s

/-- The current interval of a phase clock runs out (R59): the next interval of non-zero length, or a
boundary at the end of the last. -/
def State.phaseIntervalEnds (s : State) (entry : Nat) : State :=
  match (s.find entry).bind s.runningClock with
  | none => s
  | some (k, t) =>
    match t.next? k.interval with
    | some i => s.updRecord entry fun r => { r with clock := some ⟨i, t.length i, k.periods⟩ }
    | none => s.passBoundary entry k t

/-- A phase clock ends its last interval of non-zero length (R59). In an earlier interval no boundary
can come, and nothing changes (log 18). -/
def State.phaseBoundaryComes (s : State) (entry : Nat) : State :=
  match (s.find entry).bind s.runningClock with
  | none => s
  | some (k, t) => if t.next? k.interval = none then s.passBoundary entry k t else s

/-! ### Channel periods -/

/-- The period of a RUNNING or DRAINING channel ends (R65, R74): its window opens, and the governor
rule or the drain decides what follows. -/
def State.endPeriod (s : State) (c : Chan) (p : InFlight) : State :=
  let s := s.updChan c (Channel.closed false)
  match (s.chan c).state with
  | .draining d => s.stepDrain c d p.record.governor
  | _ => s.takeRule c (some p.record.governor)

/-- A channel's current interval runs out (R64): the next interval of non-zero length of the timing in
force, or the end of the period. -/
def State.channelIntervalEnds (s : State) (c : Chan) : State :=
  match (s.chan c).period with
  | .delivering p =>
    match (s.chan c).timing.next? p.interval with
    | some i =>
      s.updChan c fun ch =>
        { ch with period := .delivering { p with interval := i, remaining := ch.timing.length i } }
    | none => s.endPeriod c p
  | _ => s

/-- A channel period ends (R65). In an interval before the last its end cannot come, and nothing
changes (log 18). -/
def State.periodEnds (s : State) (c : Chan) : State :=
  match (s.chan c).period with
  | .delivering p => if (s.chan c).timing.next? p.interval = none then s.endPeriod c p else s
  | _ => s

/-! ### Timers of a channel and of a group -/

/-- The zero timer runs out (R76): the status becomes DUE, and a READY channel sends a lone Zero Order
(R80). -/
def State.zeroTimerEnds (s : State) (c : Chan) : State :=
  if (s.chan c).zeroTimer.isSome then
    (s.updChan c fun ch => { ch with zeroTimer := none, zero := .due }).loneZeroIfDue c
  else s

/-- The lone-zero retry wait runs out (R80). -/
def State.retryEnds (s : State) (c : Chan) : State :=
  if (s.chan c).retry.isSome then
    (s.updChan c fun ch => { ch with retry := none }).loneZeroIfDue c
  else s

/-- The arming timer runs out (R111). -/
def State.armingExpires (s : State) (c : Chan) : State :=
  if (s.chan c).state.isArming then s.toFaulted c .armTimeout else s

/-- The contactor rest timer runs out (R112): an occasion for the arbiter where the channel is queued. -/
def State.restEnds (s : State) (c : Chan) : State :=
  if (s.chan c).rest.isSome then
    let s := s.updChan c fun ch => { ch with rest := none }
    if s.queued c then s.arbiterOf c else s
  else s

/-- A group's time since its last grant reaches its spacing (R109; log 25). -/
def State.spacingReached (s : State) (g : BusGroup) : State :=
  if (s.group g).sinceGrant.isSome then
    let spacing := s.prof.spacing[g]
    (s.updGroup g fun q => { q with sinceGrant := q.sinceGrant.map (max spacing) }).arbiter g
  else s

/-! ### Hold dwell -/

/-- A record gathers a millisecond of hold dwell (R135). -/
def TrackRecord.dwell (r : TrackRecord) : TrackRecord :=
  { r with account := { r.account with holdDwell := saturate Config.count32Max (r.account.holdDwell + 1) } }

/-- A millisecond passes for the hold dwell: in HOLD, every record on the track gathers it (R135). -/
def State.holdMillisecond (s : State) : State :=
  if s.mode = .hold then { s with track := s.track.map TrackRecord.dwell } else s

end Sys2Proof.Machine
end

