-- ==== Sys2Proof/Machine/Interlocks.lean ====
section
/-! DEFINITION. The Interlock Unit (spec/09): latching, the DROP, HOLD and STOP actions, and the
clearing of a latch. -/

namespace Sys2Proof.Machine

/-- The input is active: its present level equals its active level (R160). -/
def Interlock.active (i : Interlock) : Bool := decide (i.level = i.config.activeLevel)

/-- The effect of a DROP on a channel not already inhibited (R165). A RUNNING channel in ALIGN has nothing to
stop and keeps its ramp index; entering READY with its zero status DUE, it sends its lone Zero Order at once, as
every READY channel does (R80, R82; log 35). -/
def State.dropChannel (s : State) (c : Chan) : State :=
  match (s.chan c).state with
  | .running => (s.truncate c).toReady c
  | .draining .ready => (s.truncate c).drainToReady c
  | .draining .dormant => (s.truncate c).toDormant c
  | .dormant | .arming _ | .ready | .faulted _ => s

/-- An input latches (R162): the latch is set, an INTERLOCK notice is raised, and the actions are
applied in the order of R160: DROP (R165), HOLD (R157), STOP (R168) (log 14, log 16). -/
def State.latch (s : State) (i : Input) : State :=
  let k := (s.interlock i).config
  let newly := Chan.all.filter fun c => k.drop && k.inScope c && !s.inhibited c
  let s := (s.updInterlock i fun x => { x with latched := true }).raise .interlock
  let s := s.forList newly fun c s => s.dropChannel c
  let s := if k.hold then s.addHoldCause fun h => { h with interlock := true } else s
  if k.stop then s.changeLineStop fun l => { l with interlock := true } else s

/-- The end of a channel's inhibition (R166): a READY channel has its ramp index restarted and a start
occasion. -/
def State.inhibitionEnds (s : State) (c : Chan) : State :=
  if (s.chan c).state = .ready then
    (s.updChan c fun ch => { ch with index := 0 }).startOccasion c
  else s

/-- The last HOLD latch is cleared with INTERLOCK present: INTERLOCK turns into COMMAND (R157). -/
def State.interlockToCommand (s : State) : State :=
  if s.holdCauses.interlock then
    { s with holdCauses := { s.holdCauses with interlock := false, command := true } }
  else s

/-- The clearing of a latch, with its effects (R163, R166, R168). -/
def State.unlatch (s : State) (i : Input) : State :=
  let k := (s.interlock i).config
  let before := s
  let s := s.updInterlock i fun x => { x with latched := false }
  let freed := Chan.all.filter fun c => before.inhibited c && !s.inhibited c
  let s := s.forList freed fun c s => s.inhibitionEnds c
  let s := if k.hold && !s.holdLatched then s.interlockToCommand else s
  if k.stop && !s.stopLatched then s.changeLineStop fun l => { l with interlock := false } else s

/-- A LEVEL input that is enabled and active with its latch clear latches (R162). -/
def State.latchIfLevel (s : State) (i : Input) : State :=
  let x := s.interlock i
  if x.config.enabled && decide (x.config.sense = .level) && x.active && !x.latched then s.latch i else s

/-- The Unit follows a change of an input's level (R160, R162): an enabled input with its latch clear
latches where it has become active, whatever its sense. -/
def State.followLevel (s : State) (i : Input) (l : Level) : State :=
  let changed := decide ((s.interlock i).level ≠ l)
  let s := s.updInterlock i fun x => { x with level := l }
  let x := s.interlock i
  if changed && x.config.enabled && x.active && !x.latched then s.latch i else s

/-- A change at an interlock input (R162). While the reset line is held and during BOOT the Unit
discards it (R145, R160); the level at the pin is what the Unit takes at the end of BOOT. -/
def State.interlockChanges (s : State) (i : Input) (l : Level) : State :=
  let s := { s with pins := { s.pins with interlocks := s.pins.interlocks.set i l } }
  if s.mode = .boot then s else s.followLevel i l

/-- SetInterlock (R161): its checks, the clearing that disabling a latched input brings, and the
latching of an active LEVEL input. `carried` is `none` where a coded field held no defined code. -/
def State.setInterlock (s : State) (n : Nat) (carried : Option InterlockConfig) : ResultCode × State :=
  match inputOf? n, carried with
  | some i, some k =>
    if !interlockOk n k then (.badValue, s)
    else if (s.interlock i).latched && k.enabled then (.inUse, s)
    else
      let s := if (s.interlock i).latched then s.unlatch i else s
      (.ok, (s.updInterlock i fun x => { x with config := k }).latchIfLevel i)
  | _, _ => (.badValue, s)

/-- AckInterlock (R163). -/
def State.ackInterlock (s : State) (n : Nat) : ResultCode × State :=
  match inputOf? n with
  | none => (.badValue, s)
  | some i =>
    let x := s.interlock i
    if !x.latched then (.ok, s)
    else if decide (x.config.sense = .level) && x.active then (.stillActive, s)
    else (.ok, s.unlatch i)

end Sys2Proof.Machine
end

