-- ==== Sys2Proof/Machine/Requests.lean ====
section
/-! DEFINITION. The requests of the line link: what each owner checks and does, and what its reply
carries (R3 to R195, each at its request). -/

namespace Sys2Proof.Machine

/-- The operations of ControlMonitor (R180). -/
inductive MonitorOperation | freeze | unfreeze | resetCounts | clearOverflow
deriving DecidableEq, Repr

/-- The modes SetMode can ask for (R149). -/
inductive RequestedMode | offline | run | hold | standby
deriving DecidableEq, Repr

/-- A request as its owner receives it, one constructor for each request kind of R199. An operand is an
`Option` where its layout has coded fields: `none` says that one of them held no defined code, which
the owner refuses BAD_VALUE (R190). -/
inductive Request
  | setProfile (profile : Profile)
  | setSegment (target : Option (Side × Nat × Option Segment))
  | setLimits (channel forward reverse : Nat)
  | setRecipe (number : Nat) (recipe : Recipe)
  | clearRecipe (number : Nat)
  | setRamp (table : Nat) (steps : List Nat)
  | setMode (mode : Option RequestedMode)
  | restart
  | armChannels (channels : List Nat)
  | disarmChannels (channels : List Nat)
  | clearFault (channels : List Nat)
  | announcePanel (panel : Option StagingEntry)
  | withdrawPanel (id : Nat)
  | removePanel (name : Option PanelName)
  | queryPanel (name : Option PanelName)
  | collectExit
  | setInterlock (input : Nat) (config : Option InterlockConfig)
  | ackInterlock (input : Nat)
  | clearLineStop
  | setMonitor (counter : Nat) (program : Option MonitorProgram)
  | controlMonitor (operation : Option MonitorOperation)
  | readMonitor
  | readAnode (channel : Nat)
  | setAnode (channel forward reverse : Nat)
  | queryChannel (channel firstContributor : Nat)
  | queryLine
deriving DecidableEq, Repr

/-- What the taking of a request gives: the result code, the reply's result payload, and the state
after. -/
structure Served where
  code : ResultCode
  payload : ReplyPayload
  state : State

/-- A refusal of a request: it changes nothing (each owner's chapter). -/
def refuse (s : State) (code : ResultCode) : Served := ⟨code, .nothing, s⟩

/-- A taken request whose reply carries nothing but OK (R191). -/
def taken (s : State) : Served := ⟨.ok, .nothing, s⟩

/-! ### Configuration -/

/-- SetProfile (R3). -/
def serveSetProfile (p : Profile) (s : State) : Served :=
  if s.mode ≠ .offline then refuse s .wrongMode
  else if s.profileOk p then taken { s with profile := some p }
  else refuse s .badValue

/-- SetSegment (R6). -/
def serveSetSegment (target : Option (Side × Nat × Option Segment)) (s : State) : Served :=
  if s.mode ≠ .offline then refuse s .wrongMode
  else
    match s.profile, target with
    | none, _ => refuse s .notConfigured
    | some _, none => refuse s .badValue
    | some p, some (side, index, record) =>
      match segmentChan? side index, record with
      | none, _ => refuse s .badValue
      | some c, none => taken { s with segments := s.segments.set c none }
      | some c, some r =>
        if r.inRange p.lineLength && !s.segmentClash c r then
          taken { s with segments := s.segments.set c (some r) }
        else refuse s .badValue

/-- SetLimits (R7). -/
def serveSetLimits (channel forward reverse : Nat) (s : State) : Served :=
  match chanOf? channel with
  | none => refuse s .badValue
  | some c =>
    match s.segment c with
    | none => refuse s .badValue
    | some r =>
      if limitsInRange forward reverse then
        let limited := { r with forwardLimit := forward, reverseLimit := reverse }
        taken { s with segments := s.segments.set c (some limited) }
      else refuse s .badValue

/-- Put a recipe record in place, defined or undefined. -/
def State.putRecipe (s : State) (n : Nat) (r : Option Recipe) : State :=
  if h : n < 16 then { s with recipes := s.recipes.set n r } else s

/-- SetRecipe (R47). -/
def serveSetRecipe (n : Nat) (r : Recipe) (s : State) : Served :=
  if 15 < n || !r.valid then refuse s .badValue
  else if s.inUse n then refuse s .inUse
  else taken (s.putRecipe n (some r))

/-- ClearRecipe (R50). -/
def serveClearRecipe (n : Nat) (s : State) : Served :=
  if 15 < n then refuse s .badValue
  else if (s.recipe n).isNone then refuse s .notFound
  else if s.inUse n then refuse s .inUse
  else taken (s.putRecipe n none)

/-- SetRamp (R54). -/
def serveSetRamp (table : Nat) (steps : List Nat) (s : State) : Served :=
  if s.mode ≠ .offline then refuse s .wrongMode
  else if h : table < 4 then
    if rampValid steps then taken { s with ramps := s.ramps.set table steps } else refuse s .badValue
  else refuse s .badValue

/-! ### Modes -/

/-- SetMode's reply carries the mode and the hold-cause set after the request where it is taken (R149,
R191). -/
def modeServed (result : ResultCode × State) : Served :=
  match result with
  | (.ok, s) => ⟨.ok, .mode s.mode s.holdCauses, s⟩
  | (code, s) => refuse s code

/-- SetMode (R149). -/
def serveSetMode (mode : Option RequestedMode) (s : State) : Served :=
  match mode with
  | none => refuse s .badValue
  | some .offline => modeServed s.setModeOffline
  | some .run => modeServed s.setModeRun
  | some .hold => modeServed s.setModeHold
  | some .standby => modeServed s.setModeStandby

/-- Restart (R146): taken in OFFLINE, or with the track empty; its reset follows its reply. -/
def serveRestart (s : State) : Served :=
  if s.mode = .offline || s.track.isEmpty then taken s else refuse s .wrongMode

/-! ### Channels -/

/-- A refused channel list: the reply carries the first failing channel (R191). -/
def refuseList (s : State) (code : ResultCode) (failing : Option Nat) : Served := ⟨code, .failing failing, s⟩

/-- ArmChannels on one channel (R107). -/
def State.armChannel (s : State) (c : Chan) : State :=
  match (s.chan c).state with
  | .dormant =>
    if s.queued c then s
    else
      match s.busGroup c with
      | some g => (s.updGroup g fun q => { q with queue := q.queue ++ [c] }).arbiter g
      | none => s
  | .draining .dormant => s.cancelDrain c
  | .draining .ready | .arming _ | .ready | .running | .faulted _ => s

/-- A channel number that ArmChannels refuses BAD_VALUE: outside 0..39, or its segment undefined (R106). -/
def State.unarmable (s : State) (n : Nat) : Bool := !(chanOf? n).any fun c => (s.segment c).isSome

/-- The number names a FAULTED channel. -/
def State.namesFaulted (s : State) (n : Nat) : Bool := (chanOf? n).any fun c => (s.chan c).state.isFaulted

/-- ArmChannels (R106). -/
def serveArmChannels (l : List Nat) (s : State) : Served :=
  if s.mode = .offline then refuse s .wrongMode
  else
    match firstFailing s.unarmable l, firstFailing s.namesFaulted l with
    | some f, _ => refuseList s .badValue f
    | none, some f => refuseList s .channelState f
    | none, none => taken (s.forList (listChans l) fun c s => s.armChannel c)

/-- DisarmChannels on one channel (R113). -/
def State.disarmChannel (s : State) (c : Chan) : State :=
  match (s.chan c).state with
  | .dormant => s.dequeue c
  | .arming _ | .ready => s.toDormant c
  | .running => s.beginDrain c .dormant
  | .draining _ => s.updChan c fun ch => { ch with state := .draining .dormant }
  | .faulted _ => s

/-- The number lies outside 0..39. -/
def notChannel (n : Nat) : Bool := (chanOf? n).isNone

/-- DisarmChannels (R113). Its refusal carries no channel (R191). -/
def serveDisarmChannels (l : List Nat) (s : State) : Served :=
  match firstFailing notChannel l with
  | some _ => refuse s .badValue
  | none => taken (s.forList (listChans l) fun c s => s.disarmChannel c)

/-- The contactor rest that ClearFault starts (R112): the profile's, and open where the profile is
absent (log 8). -/
def State.clearedRest (s : State) : Option Nat × State :=
  match s.profile with
  | some p => (some p.contactorRest, s)
  | none =>
    let (k, s) := s.takeFree Config.openContactorRest
    (k.map (·.val), s)

/-- ClearFault on one channel (R114). -/
def State.clearFaultOf (s : State) (c : Chan) : State :=
  let (rest, s) := s.clearedRest
  s.updChan c fun ch => { ch with state := .dormant, rest := rest }

/-- The number names a channel that is not FAULTED. -/
def State.namesSound (s : State) (n : Nat) : Bool := (chanOf? n).any fun c => !(s.chan c).state.isFaulted

/-- ClearFault (R114). -/
def serveClearFault (l : List Nat) (s : State) : Served :=
  match firstFailing notChannel l, firstFailing s.namesSound l with
  | some f, _ => refuseList s .badValue f
  | none, some f => refuseList s .channelState f
  | none, none => taken (s.forList (listChans l) fun c s => s.clearFaultOf c)

/-- The place of an item in a list, counted from 1 (R108). -/
def placeIn [DecidableEq α] (a : α) : List α → Option Nat
  | [] => none
  | b :: rest => if a = b then some 1 else (placeIn a rest).map (· + 1)

/-- The record a channel's period state names: its governor, or the record awaited (R61). -/
def Period.governor : Period → Option Nat
  | .idle => none
  | .align g => some g
  | .delivering p => some p.record.governor

/-- The contributors from a place on, at most 8 (R124). -/
def contributorPage (first : Nat) (l : List Contributor) : List Contributor := (l.drop (first - 1)).take 8

/-- The contributors of the period in flight. -/
def Period.contributors : Period → List Contributor
  | .delivering p => p.record.contributors
  | _ => []

/-- The period as reported, its contributor list cut to a page (R124). -/
def Period.paged (first : Nat) : Period → Period
  | .delivering p =>
    .delivering { p with record := { p.record with contributors := contributorPage first p.record.contributors } }
  | p => p

/-- What QueryChannel reports (R124). A channel whose segment record is undefined is in no bus group (R5), and its
group's time since the last grant is reported absent (log 40). -/
def State.channelView (s : State) (c : Chan) (first : Nat) : ChannelView :=
  let ch := s.chan c
  { state := ch.state
    contactorClosed := ch.contactorClosed
    missing := ch.missing
    queuePlace := s.groups.toList.findSome? fun q => placeIn c q.queue
    rest := ch.rest
    sinceGrant := (s.busGroup c).bind fun g => (s.group g).sinceGrant
    inhibited := s.inhibited c
    forward := ch.forward
    reverse := ch.reverse
    lastZero := ch.lastZero
    segment := s.segment c
    period := ch.period.paged first
    timing := ch.timing
    index := ch.index
    zero := ch.zero
    stale := ch.stale
    zeroTimer := ch.zeroTimer
    retry := ch.retry
    clock := (ch.period.governor.bind s.find).bind (·.clock)
    contributors := ch.period.contributors.length
    windows := ch.windows.length }

/-- QueryChannel (R124). -/
def serveQueryChannel (n first : Nat) (s : State) : Served :=
  match chanOf? n with
  | some c => if within 1 32 first then ⟨.ok, .channel (s.channelView c first), s⟩ else refuse s .badValue
  | none => refuse s .badValue

/-! ### Panels -/

/-- AnnouncePanel (R21). -/
def serveAnnouncePanel (panel : Option StagingEntry) (s : State) : Served :=
  match panel with
  | none => refuse s .badValue
  | some e =>
    if !s.entryOk e then refuse s .badValue
    else if s.idHeld e.panelId then refuse s .duplicateId
    else if Config.stagingCapacity ≤ s.staging.length then refuse s .full
    else taken { s with staging := s.staging ++ [e] }

/-- WithdrawPanel (R22). -/
def serveWithdrawPanel (id : Nat) (s : State) : Served :=
  if id = 0 then refuse s .badValue
  else if s.staging.any fun e => e.panelId = id then
    taken { s with staging := s.staging.filter fun e => e.panelId ≠ id }
  else refuse s .notFound

/-- RemovePanel (R34). -/
def serveRemovePanel (name : Option PanelName) (s : State) : Served :=
  match name with
  | none => refuse s .badValue
  | some n =>
    if !n.valid then refuse s .badValue
    else
      match s.named n with
      | none => refuse s .notFound
      | some r => taken (s.removeRecord r)

/-- The staging entry that a name finds, with its place from 1 (R40). -/
def State.stagedView (s : State) : PanelName → Option PanelView
  | .byId n => (s.staging.find? fun e => e.panelId = n).map fun e =>
      .staged ((placeIn n (s.staging.map (·.panelId))).getD 0) e
  | .byEntry _ => none

/-- What QueryPanel finds: by id the staging queue, then the track; by entry number the track (R40). -/
def State.panelView (s : State) (name : PanelName) : Option PanelView :=
  (s.stagedView name).orElse fun _ => (s.named name).map fun r => .track r (s.effective r)

/-- QueryPanel (R40). -/
def serveQueryPanel (name : Option PanelName) (s : State) : Served :=
  match name with
  | none => refuse s .badValue
  | some n =>
    if !n.valid then refuse s .badValue
    else
      match s.panelView n with
      | none => refuse s .notFound
      | some v => ⟨.ok, .panel v, s⟩

/-- CollectExit (R141): the head of the exit list; EXIT_HIGH is cleared where the count goes from 12 to
11 (R39). -/
def serveCollectExit (s : State) : Served :=
  match s.exits with
  | [] => refuse s .empty
  | e :: rest =>
    let collected := { s with exits := rest }
    ⟨.ok, .exit e,
      if s.exits.length = Config.exitHighAt then collected.changeLineStop fun l => { l with exitHigh := false }
      else collected⟩

/-! ### Interlocks and the line stop -/

/-- A result that carries nothing. -/
def plainServed (result : ResultCode × State) : Served := ⟨result.1, .nothing, result.2⟩

/-- SetInterlock (R161). -/
def serveSetInterlock (n : Nat) (config : Option InterlockConfig) (s : State) : Served :=
  plainServed (s.setInterlock n config)

/-- AckInterlock (R163). -/
def serveAckInterlock (n : Nat) (s : State) : Served := plainServed (s.ackInterlock n)

/-- The cause set without the latched causes (R171). -/
def LineStopCauses.unlatched (l : LineStopCauses) : LineStopCauses :=
  { l with trackFull := false, eyeStuck := false, reverseLimit := false }

/-- ClearLineStop (R171). -/
def serveClearLineStop (s : State) : Served :=
  let s := s.changeLineStop LineStopCauses.unlatched
  ⟨.ok, .lineStop s.lineStop, s⟩

/-! ### Process Monitor and anode counters -/

/-- SetMonitor (R179). -/
def serveSetMonitor (n : Nat) (program : Option MonitorProgram) (s : State) : Served :=
  match counterOf? n, program with
  | some k, some p =>
    if !monitorOk n p then refuse s .badValue
    else if s.monitor.frozen then refuse s .stillActive
    else taken { s with monitor := { s.monitor with counters := s.monitor.counters.set k (.cleared p) } }
  | _, _ => refuse s .badValue

/-- Change every counter of the monitor. -/
def State.updCounters (s : State) (f : Counter → Counter) : State :=
  { s with monitor := { s.monitor with counters := mapVec f s.monitor.counters } }

/-- RESET_COUNTS on a counter (R180). -/
def Counter.countReset (k : Counter) : Counter := { k with count := 0, history := .replicate 40 false }

/-- ControlMonitor (R180). -/
def serveControlMonitor (operation : Option MonitorOperation) (s : State) : Served :=
  match operation with
  | none => refuse s .badValue
  | some .freeze => taken { s with monitor := { s.monitor with frozen := true } }
  | some .unfreeze => taken { s with monitor := { s.monitor with frozen := false } }
  | some .resetCounts =>
    if s.monitor.frozen then refuse s .stillActive else taken (s.updCounters Counter.countReset)
  | some .clearOverflow =>
    if s.monitor.frozen then refuse s .stillActive
    else taken (s.updCounters fun k => { k with overflow := false })

/-- ReadMonitor (R181). -/
def serveReadMonitor (s : State) : Served :=
  ⟨.ok, .monitor s.monitor.frozen
    (s.monitor.counters.toList.map fun k => ⟨k.program, k.count, k.overflow⟩), s⟩

/-- ReadAnode (R183). -/
def serveReadAnode (n : Nat) (s : State) : Served :=
  match chanOf? n with
  | some c => ⟨.ok, .anode s.anodes[c], s⟩
  | none => refuse s .badValue

/-- SetAnode (R183). -/
def serveSetAnode (n forward reverse : Nat) (s : State) : Served :=
  match chanOf? n with
  | some c => taken { s with anodes := s.anodes.set c ⟨forward, reverse⟩ }
  | none => refuse s .badValue

/-! ### The line -/

/-- What QueryLine reports (R195). -/
def State.lineView (s : State) : LineView where
  mode := s.mode
  holdCauses := s.holdCauses
  bootTimer := s.bootTimer
  profile := s.profile
  backlash := s.conveyor.backlash
  stallExpired := decide (s.conveyor.stall = .expired)
  staged := s.staging.length
  tracked := s.track.length
  exits := s.exits.length
  faulted := s.faultedCount
  recipes := (List.range 16).map fun n => ((s.recipe n).isSome, s.inUse n)
  ramps := s.ramps.toList
  interlocks := s.interlocks.toList
  lineStop := s.lineStop

/-- QueryLine (R195). -/
def serveQueryLine (s : State) : Served := ⟨.ok, .line s.lineView, s⟩

/-- A request reaches its owner (R189, R190). -/
def serve : Request → State → Served
  | .setProfile p => serveSetProfile p
  | .setSegment t => serveSetSegment t
  | .setLimits c f r => serveSetLimits c f r
  | .setRecipe n r => serveSetRecipe n r
  | .clearRecipe n => serveClearRecipe n
  | .setRamp t steps => serveSetRamp t steps
  | .setMode m => serveSetMode m
  | .restart => serveRestart
  | .armChannels l => serveArmChannels l
  | .disarmChannels l => serveDisarmChannels l
  | .clearFault l => serveClearFault l
  | .announcePanel e => serveAnnouncePanel e
  | .withdrawPanel id => serveWithdrawPanel id
  | .removePanel n => serveRemovePanel n
  | .queryPanel n => serveQueryPanel n
  | .collectExit => serveCollectExit
  | .setInterlock i k => serveSetInterlock i k
  | .ackInterlock i => serveAckInterlock i
  | .clearLineStop => serveClearLineStop
  | .setMonitor n p => serveSetMonitor n p
  | .controlMonitor op => serveControlMonitor op
  | .readMonitor => serveReadMonitor
  | .readAnode c => serveReadAnode c
  | .setAnode c f r => serveSetAnode c f r
  | .queryChannel c k => serveQueryChannel c k
  | .queryLine => serveQueryLine

end Sys2Proof.Machine
end

