-- ==== Sys2Proof/Machine/Layouts.lean ====
section
/-! DEFINITION. The bytes of the line link: the check (R187), the layouts of the requests (R190, R198,
R199; log 5), of the replies (R191; log 6) and of the notices (R193). A layout is a list of fields, each
a width in bytes and a value. -/

namespace Sys2Proof.Machine

/-! ### Fields -/

/-- A field of a layout: its width in bytes and its value. -/
structure Field where
  width : Nat
  value : Nat
deriving DecidableEq, Repr

/-- The bytes of an unsigned value, most significant first (R198). -/
def beBytes : Nat → Nat → List Byte
  | 0, _ => []
  | w + 1, n => BitVec.ofNat 8 (n / 256 ^ w) :: beBytes w n

/-- The value of bytes sent most significant first (R198). -/
def beNat (l : List Byte) : Nat := l.foldl (fun n b => n * 256 + b.toNat) 0

/-- The bytes of fields in their order. -/
def fieldBytes (l : List Field) : List Byte := l.flatMap fun f => beBytes f.width f.value

/-- The values that bytes give for fields of these widths. -/
def cutFields : List Nat → List Byte → List Nat
  | [], _ => []
  | w :: rest, l => beNat (l.take w) :: cutFields rest (l.drop w)

def one (n : Nat) : Field := ⟨1, n⟩
def two (n : Nat) : Field := ⟨2, n⟩
def four (n : Nat) : Field := ⟨4, n⟩
def six (n : Nat) : Field := ⟨6, n⟩
def eight (n : Nat) : Field := ⟨8, n⟩

/-- A field of values set or clear (R198). -/
def flag (b : Bool) : Field := one b.toNat

/-- A signed value as two's complement (R198). -/
def signed (width : Nat) (v : Int) : Field := ⟨width, (v % (256 ^ width : Nat)).toNat⟩

/-- A field that may be absent and has 0 outside its range (R198). -/
def orZero (f : Nat → Field) (v : Option Nat) : Field := f (v.getD 0)

/-- A field that may be absent and has 0 in its range: preceded by one byte (R198). -/
def marked (f : Nat → Field) (v : Option Nat) : List Field := [flag v.isSome, f (v.getD 0)]

/-- A recipe number that may be NONE (R198). -/
def recipeOrNone (r : Option Nat) : Field := one (r.getD 255)

/-! ### The check (R187) -/

/-- One place to the left, and the exclusive-or where the bit shifted out was 1. -/
def checkShift (r : BitVec 16) : BitVec 16 := if r.msb then (r <<< 1) ^^^ 0x1021#16 else r <<< 1

/-- One byte into the register. -/
def checkByte (r : BitVec 16) (b : Byte) : BitVec 16 :=
  (List.range 8).foldl (fun r _ => checkShift r) (r ^^^ (b.setWidth 16 <<< 8))

/-- The check over bytes in the order sent. -/
def checkOf (l : List Byte) : BitVec 16 := l.foldl checkByte 0xFFFF#16

/-- The two check bytes, high byte first. -/
def checkBytes (l : List Byte) : List Byte := beBytes 2 (checkOf l).toNat

/-- What the check of a body covers: the length byte and the body. -/
def checkedBytes (body : List Byte) : List Byte := BitVec.ofNat 8 body.length :: body

/-- The bytes of a whole frame (R199). -/
def Frame.bytes (f : Frame) : List Byte :=
  let body := f.kind :: f.payload
  0xC3#8 :: (checkedBytes body ++ checkBytes (checkedBytes body))

/-! ### Request kinds (R199) -/

/-- The request kinds. -/
inductive RequestKind
  | setProfile | setSegment | setLimits | setRecipe | clearRecipe | setRamp | setMode | restart
  | armChannels | disarmChannels | clearFault | announcePanel | withdrawPanel | removePanel
  | queryPanel | collectExit | setInterlock | ackInterlock | clearLineStop | setMonitor
  | controlMonitor | readMonitor | readAnode | setAnode | queryChannel | queryLine
deriving DecidableEq, Repr

/-- The kind byte. -/
def RequestKind.code : RequestKind → Nat
  | .setProfile => 0x01 | .setSegment => 0x02 | .setLimits => 0x03 | .setRecipe => 0x04
  | .clearRecipe => 0x05 | .setRamp => 0x06 | .setMode => 0x07 | .restart => 0x08
  | .armChannels => 0x09 | .disarmChannels => 0x0A | .clearFault => 0x0B | .announcePanel => 0x0C
  | .withdrawPanel => 0x0D | .removePanel => 0x0E | .queryPanel => 0x0F | .collectExit => 0x10
  | .setInterlock => 0x11 | .ackInterlock => 0x12 | .clearLineStop => 0x13 | .setMonitor => 0x14
  | .controlMonitor => 0x15 | .readMonitor => 0x16 | .readAnode => 0x17 | .setAnode => 0x18
  | .queryChannel => 0x19 | .queryLine => 0x1A

/-- The kinds in the order of their codes, which run from 0x01. -/
def RequestKind.all : List RequestKind :=
  [.setProfile, .setSegment, .setLimits, .setRecipe, .clearRecipe, .setRamp, .setMode, .restart,
    .armChannels, .disarmChannels, .clearFault, .announcePanel, .withdrawPanel, .removePanel,
    .queryPanel, .collectExit, .setInterlock, .ackInterlock, .clearLineStop, .setMonitor,
    .controlMonitor, .readMonitor, .readAnode, .setAnode, .queryChannel, .queryLine]

/-- The request kind of a kind byte, `none` where it is no request kind. -/
def requestKind? (b : Byte) : Option RequestKind := RequestKind.all.find? fun k => k.code = b.toNat

/-- The kind of a request. -/
def Request.kind : Request → RequestKind
  | .setProfile _ => .setProfile
  | .setSegment _ => .setSegment
  | .setLimits .. => .setLimits
  | .setRecipe .. => .setRecipe
  | .clearRecipe _ => .clearRecipe
  | .setRamp .. => .setRamp
  | .setMode _ => .setMode
  | .restart => .restart
  | .armChannels _ => .armChannels
  | .disarmChannels _ => .disarmChannels
  | .clearFault _ => .clearFault
  | .announcePanel _ => .announcePanel
  | .withdrawPanel _ => .withdrawPanel
  | .removePanel _ => .removePanel
  | .queryPanel _ => .queryPanel
  | .collectExit => .collectExit
  | .setInterlock .. => .setInterlock
  | .ackInterlock _ => .ackInterlock
  | .clearLineStop => .clearLineStop
  | .setMonitor .. => .setMonitor
  | .controlMonitor _ => .controlMonitor
  | .readMonitor => .readMonitor
  | .readAnode _ => .readAnode
  | .setAnode .. => .setAnode
  | .queryChannel .. => .queryChannel
  | .queryLine => .queryLine

/-! ### The layouts of requests, as widths -/

/-- A list layout: the fixed part, a count byte and that many items (R190). -/
def listWidths (fixed item : List Nat) (payload : List Byte) : List Nat :=
  let count := ((payload.drop fixed.sum).head?.map (·.toNat)).getD 0
  fixed ++ 1 :: (List.replicate count item).flatten

/-- The widths of the fields of a kind's layout, for a payload whose count bytes say how many items a
list has. -/
def RequestKind.widths (payload : List Byte) : RequestKind → List Nat
  | .setProfile => [2, 2, 1, 2, 2, 1, 1, 2, 2, 2, 2, 2, 2, 2, 2]
  | .setSegment => [1, 1, 1, 2, 2, 2, 2, 1]
  | .setLimits => [1, 2, 2]
  | .setRecipe => listWidths [1, 2, 1, 1, 1, 1, 1, 4, 1] [2, 2, 2] payload
  | .setRamp => listWidths [1] [1] payload
  | .armChannels | .disarmChannels | .clearFault => listWidths [] [1] payload
  | .announcePanel => [4, 1, 2, 2, 2, 1]
  | .withdrawPanel => [4]
  | .removePanel | .queryPanel => [1, 4]
  | .setInterlock => [1, 1, 1, 1, 1, 1, 1, 1]
  | .setMonitor => [1, 1, 1, 1, 2, 1, 1, 1, 2, 2]
  | .setMode | .clearRecipe | .ackInterlock | .controlMonitor | .readAnode => [1]
  | .setAnode => [1, 8, 8]
  | .queryChannel => [1, 1]
  | .restart | .collectExit | .clearLineStop | .readMonitor | .queryLine => []

/-! ### Coded fields of requests -/

/-- A number for which 0 stands for absence. -/
def nonZero? (n : Nat) : Option Nat := if n = 0 then none else some n

def Side.code : Side → Nat
  | .a => 0
  | .b => 1

def side? : Nat → Option Side
  | 0 => some .a
  | 1 => some .b
  | _ => none

/-- A level of an input: HIGH, LOW, the place in the list of R160, for the active level (log 5) and for the
present one (log 6). -/
def Level.code : Level → Nat
  | .high => 0
  | .low => 1

def activeLevel? : Nat → Option Level
  | 0 => some .high
  | 1 => some .low
  | _ => none

/-- Sense: EDGE, LEVEL, in the order of R160. -/
def Sense.code : Sense → Nat
  | .edge => 0
  | .level => 1

def sense? : Nat → Option Sense
  | 0 => some .edge
  | 1 => some .level
  | _ => none

/-- The monitor's events in the order of R173. -/
def monitorEvents : List MonitorEvent :=
  [.periods, .clamped, .deviation, .voltage, .coverage, .aligns, .zeros, .estimates, .band]

def MonitorEvent.code : MonitorEvent → Nat
  | .periods => 0 | .clamped => 1 | .deviation => 2 | .voltage => 3 | .coverage => 4
  | .aligns => 5 | .zeros => 6 | .estimates => 7 | .band => 8

/-- The selector's code, and the channel, 0 where the selector is not ONE (R173; log 5). -/
def Selector.code : Selector → Nat
  | .all => 0 | .sideA => 1 | .sideB => 2 | .one _ => 3

def Selector.channel : Selector → Nat
  | .one c => c
  | _ => 0

def selector? (code channel : Nat) : Option Selector :=
  match code with
  | 0 => some .all
  | 1 => some .sideA
  | 2 => some .sideB
  | 3 => some (.one channel)
  | _ => none

/-- The modes of SetMode (R198). -/
def RequestedMode.code : RequestedMode → Nat
  | .offline => 0 | .run => 1 | .hold => 2 | .standby => 3

def requestedMode? : Nat → Option RequestedMode
  | 0 => some .offline
  | 1 => some .run
  | 2 => some .hold
  | 3 => some .standby
  | _ => none

/-- The operations of ControlMonitor, in the order of R180. -/
def MonitorOperation.code : MonitorOperation → Nat
  | .freeze => 0 | .unfreeze => 1 | .resetCounts => 2 | .clearOverflow => 3

def monitorOperation? : Nat → Option MonitorOperation
  | 0 => some .freeze
  | 1 => some .unfreeze
  | 2 => some .resetCounts
  | 3 => some .clearOverflow
  | _ => none

/-! ### Records of requests as fields -/

def Profile.fields (p : Profile) : List Field :=
  [two p.lineLength, two p.eye, one p.pulsesPerMm, two p.stallTime, two p.nominalLength,
    one p.tolerance, recipeOrNone p.fallback, two p.fallbackAreaA, two p.fallbackAreaB,
    two p.zeroInterval, two p.spacing[0], two p.spacing[1], two p.spacing[2], two p.spacing[3],
    two p.contactorRest]

def Segment.fields (r : Segment) : List Field :=
  [two r.start, two r.length, two r.forwardLimit, two r.reverseLimit, one r.group]

/-- A segment record or its absence, its fields then sent as 0 (R198). -/
def segmentFields (r : Option Segment) : List Field :=
  flag r.isSome :: (r.getD ⟨0, 0, 0, 0, 0⟩).fields

def Stage.fields (st : Stage) : List Field :=
  [two st.start, two st.forwardDensity, two st.reverseDensity]

def Timing.fields (t : Timing) : List Field := [two t.fwd, one t.rest1, one t.rev, one t.rest2]

def Recipe.fields (r : Recipe) : List Field :=
  r.timing.fields ++
  [one r.rampTable, one r.holdFraction, orZero four r.target, one r.tolerance, one r.stages.length] ++
  r.stages.flatMap Stage.fields

def StagingEntry.fields (e : StagingEntry) : List Field :=
  [four e.panelId, one e.recipe, orZero two e.announced, two e.areaA, two e.areaB, flag e.flipped]

def PanelName.fields : PanelName → List Field
  | .byId n => [one 0, four n]
  | .byEntry n => [one 1, four n]

def InterlockConfig.fields (k : InterlockConfig) : List Field :=
  [flag k.enabled, one k.activeLevel.code, one k.sense.code, one k.actions, one k.sideMask,
    one k.first, one k.last]

def MonitorProgram.fields (p : MonitorProgram) : List Field :=
  [one p.event.code, one p.selector.code, one p.selector.channel, two p.threshold, flag p.invert,
    flag p.edge, flag p.notify, two p.bandLow, two p.bandHigh]

/-- A list of bytes with its count. -/
def byteList (l : List Nat) : List Field := one l.length :: l.map one

/-- Fields that hold no defined code. -/
def undefinedFields (widths : List Nat) : List Field := widths.map fun w => ⟨w, 256 ^ w - 1⟩

/-- The fields of a request's payload (R198, R199). A request whose coded field holds no defined code is
written with every coded field at its greatest value. -/
def Request.fields : Request → List Field
  | .setProfile p => p.fields
  | .setSegment (some (side, index, record)) => one side.code :: one index :: segmentFields record
  | .setSegment none => undefinedFields [1, 1, 1, 2, 2, 2, 2, 1]
  | .setLimits c f r => [one c, two f, two r]
  | .setRecipe n r => one n :: r.fields
  | .clearRecipe n => [one n]
  | .setRamp t steps => one t :: byteList steps
  | .setMode (some m) => [one m.code]
  | .setMode none => undefinedFields [1]
  | .restart => []
  | .armChannels l => byteList l
  | .disarmChannels l => byteList l
  | .clearFault l => byteList l
  | .announcePanel (some e) => e.fields
  | .announcePanel none => undefinedFields [4, 1, 2, 2, 2, 1]
  | .withdrawPanel id => [four id]
  | .removePanel (some n) => n.fields
  | .removePanel none => undefinedFields [1, 4]
  | .queryPanel (some n) => n.fields
  | .queryPanel none => undefinedFields [1, 4]
  | .collectExit => []
  | .setInterlock i (some k) => one i :: k.fields
  | .setInterlock i none => one i :: undefinedFields [1, 1, 1, 1, 1, 1, 1]
  | .ackInterlock i => [one i]
  | .clearLineStop => []
  | .setMonitor n (some p) => one n :: p.fields
  | .setMonitor n none => one n :: undefinedFields [1, 1, 1, 2, 1, 1, 1, 2, 2]
  | .controlMonitor (some o) => [one o.code]
  | .controlMonitor none => undefinedFields [1]
  | .readMonitor => []
  | .readAnode c => [one c]
  | .setAnode c f r => [one c, eight f, eight r]
  | .queryChannel c k => [one c, one k]
  | .queryLine => []

/-- A request as a frame. -/
def Request.frame (r : Request) : Frame := ⟨BitVec.ofNat 8 r.kind.code, fieldBytes r.fields⟩

/-! ### Reading a request -/

def readProfile : List Nat → Option Profile
  | [l, e, ppm, stall, nominal, tol, fallback, areaA, areaB, interval, s0, s1, s2, s3, rest] =>
    some ⟨l, e, ppm, stall, nominal, tol, if fallback = 255 then none else some fallback, areaA,
      areaB, interval, #v[s0, s1, s2, s3], rest⟩
  | _ => none

/-- The side, index and record of a SetSegment, `none` where a coded field holds no defined code. -/
def readSegment : List Nat → Option (Option (Side × Nat × Option Segment))
  | [side, index, define, start, length, forward, reverse, group] =>
    some <| match side? side, flagOf? define with
      | some sd, some true => some (sd, index, some ⟨start, length, forward, reverse, group⟩)
      | some sd, some false => some (sd, index, none)
      | _, _ => none
  | _ => none

def readStages : List Nat → List Stage
  | a :: f :: r :: rest => ⟨a, f, r⟩ :: readStages rest
  | _ => []

def readRecipe : List Nat → Option Recipe
  | fwd :: rest1 :: rev :: rest2 :: ramp :: hold :: target :: tol :: _ :: stages =>
    some ⟨⟨fwd, rest1, rev, rest2⟩, ramp, hold, nonZero? target, tol, readStages stages⟩
  | _ => none

def readEntry : List Nat → Option (Option StagingEntry)
  | [id, recipe, length, areaA, areaB, flags] =>
    some <| (flagOf? flags).map fun flipped => ⟨id, recipe, nonZero? length, areaA, areaB, flipped⟩
  | _ => none

def readName : List Nat → Option (Option PanelName)
  | [by', n] =>
    some <| match by' with
      | 0 => some (.byId n)
      | 1 => some (.byEntry n)
      | _ => none
  | _ => none

def readInterlock : List Nat → Option (Option InterlockConfig)
  | [enabled, level, sense, actions, mask, first, last] =>
    some <| match flagOf? enabled, activeLevel? level, sense? sense with
      | some en, some lv, some sn =>
        if actions < 8 ∧ mask < 4 then
          some ⟨en, lv, sn, bitOf actions 0, bitOf actions 1, bitOf actions 2, bitOf mask 0, bitOf mask 1,
            first, last⟩
        else none
      | _, _, _ => none
  | _ => none

def readProgram : List Nat → Option (Option MonitorProgram)
  | [event, selector, channel, threshold, invert, edge, notify, low, high] =>
    some <| match monitorEvents[event]?, selector? selector channel, flagOf? invert, flagOf? edge,
        flagOf? notify with
      | some ev, some sel, some inv, some ed, some no => some ⟨ev, sel, threshold, inv, ed, no, low, high⟩
      | _, _, _, _, _ => none
  | _ => none

/-- The request that a kind's field values spell, `none` where they are not as many as its layout has. -/
def readRequest : RequestKind → List Nat → Option Request
  | .setProfile, l => (readProfile l).map .setProfile
  | .setSegment, l => (readSegment l).map .setSegment
  | .setLimits, [c, f, r] => some (.setLimits c f r)
  | .setRecipe, n :: l => (readRecipe l).map (.setRecipe n)
  | .clearRecipe, [n] => some (.clearRecipe n)
  | .setRamp, t :: _ :: steps => some (.setRamp t steps)
  | .setMode, [m] => some (.setMode (requestedMode? m))
  | .restart, _ => some .restart
  | .armChannels, _ :: l => some (.armChannels l)
  | .disarmChannels, _ :: l => some (.disarmChannels l)
  | .clearFault, _ :: l => some (.clearFault l)
  | .announcePanel, l => (readEntry l).map .announcePanel
  | .withdrawPanel, [id] => some (.withdrawPanel id)
  | .removePanel, l => (readName l).map .removePanel
  | .queryPanel, l => (readName l).map .queryPanel
  | .collectExit, _ => some .collectExit
  | .setInterlock, i :: l => (readInterlock l).map (.setInterlock i)
  | .ackInterlock, [i] => some (.ackInterlock i)
  | .clearLineStop, _ => some .clearLineStop
  | .setMonitor, n :: l => (readProgram l).map (.setMonitor n)
  | .controlMonitor, [o] => some (.controlMonitor (monitorOperation? o))
  | .readMonitor, _ => some .readMonitor
  | .readAnode, [c] => some (.readAnode c)
  | .setAnode, [c, f, r] => some (.setAnode c f r)
  | .queryChannel, [c, k] => some (.queryChannel c k)
  | .queryLine, _ => some .queryLine
  | _, _ => none

/-- The first two checks of R190, and the request that passes them. -/
def Frame.parse (f : Frame) : Except ResultCode Request :=
  match requestKind? f.kind with
  | none => .error .badKind
  | some k =>
    if f.payload.length = (k.widths f.payload).sum then
      match readRequest k (cutFields (k.widths f.payload) f.payload) with
      | some r => .ok r
      | none => .error .badLength
    else .error .badLength

/-! ### Replies (R191; log 6) -/

def Verdict.field (v : Verdict) : Field := one v.code

def ExitSide.fields (x : ExitSide) : List Field :=
  [six x.forward, six x.reverse, signed 8 x.net, signed 4 x.density, x.verdict.field]

def DepartureCause.code : DepartureCause → Nat
  | .passed => 0
  | .removed => 1

/-- The exit record's 66 bytes (R199). -/
def ExitRecord.fields (e : ExitRecord) : List Field :=
  [four e.panelId, two e.entry, recipeOrNone e.recipe, two e.effectiveLength, two e.flags,
    one e.cause.code] ++ e.sideA.fields ++ e.sideB.fields ++ [four e.holdDwell]

/-- An input as QueryLine reports it. Its present level has the code of its active level, the place in the one
list of levels that R160 gives (log 6). -/
def Interlock.fields (x : Interlock) : List Field :=
  x.config.fields ++ [flag x.latched, one x.level.code]

/-- QueryLine's items, in the order of R195. -/
def LineView.fields (v : LineView) : List Field :=
  [one v.mode.code, one v.holdCauses.code] ++ marked two v.bootTimer ++
  (match v.profile with
   | some p => flag true :: p.fields
   | none => [flag false]) ++
  [four v.backlash, flag v.stallExpired, one v.staged, one v.tracked, one v.exits, one v.faulted] ++
  (v.recipes.flatMap fun r => [flag r.1, flag r.2]) ++ v.ramps.flatMap byteList ++
  v.interlocks.flatMap Interlock.fields ++ [one v.lineStop.code]

/-- The channel states 0 DORMANT to 5 FAULTED (R198). -/
def ChannelState.code : ChannelState → Nat
  | .dormant => 0 | .arming _ => 1 | .ready => 2 | .running => 3 | .draining _ => 4 | .faulted _ => 5

def ChannelState.faultCode? : ChannelState → Option Nat
  | .faulted (.moduleFault _) => some 0
  | .faulted .moduleSilent => some 1
  | .faulted .armTimeout => some 2
  | .faulted .moduleAbsent => some 3
  | _ => none

def ChannelState.moduleCode? : ChannelState → Option Nat
  | .faulted (.moduleFault n) => some n
  | _ => none

def ChannelState.armingTimer : ChannelState → Option Nat
  | .arming t => some t
  | _ => none

def ChannelState.destination? : ChannelState → Option Nat
  | .draining .ready => some 0
  | .draining .dormant => some 1
  | _ => none

def Interval.code : Interval → Nat
  | .fwd => 0 | .rest1 => 1 | .rev => 2 | .rest2 => 3

/-- The period kind: NONE, ALIGN, NORMAL, ZERO (R61). -/
def Period.code : Period → Nat
  | .idle => 0
  | .align _ => 1
  | .delivering p => match p.record.kind with
    | .normal => 2
    | .zero => 3

def Period.flight : Period → Option InFlight
  | .delivering p => some p
  | _ => none

def ZeroStatus.code : ZeroStatus → Nat
  | .none => 0 | .valid => 1 | .due => 2 | .attempting => 3

/-- The stored index read as ramp index (READY, RUNNING) or as drain index (DRAINING) (R61). -/
def rampIndex? (st : ChannelState) (index : Int) : Option Nat :=
  match st with
  | .ready | .running => some index.toNat
  | _ => none

def drainIndex? (st : ChannelState) (index : Int) : Option Int :=
  match st with
  | .draining _ => some index
  | _ => none

/-- A period state's fields, in the order of R61. -/
def ChannelView.periodFields (v : ChannelView) : List Field :=
  [one v.period.code, orZero two v.period.governor] ++
  marked one (v.period.flight.map fun p => p.interval.code) ++
  marked two (v.period.flight.map fun p => p.remaining) ++
  v.timing.fields ++
  marked one (rampIndex? v.state v.index) ++
  [flag (drainIndex? v.state v.index).isSome, signed 1 ((drainIndex? v.state v.index).getD 0)] ++
  marked one v.state.destination? ++ [one v.zero.code, flag v.stale] ++ marked four v.zeroTimer ++
  marked two v.retry

def PhaseClock.fields (k : PhaseClock) : List Field := [one k.interval.code, two k.remaining, four k.periods]

def Contributor.fields (p : Contributor) : List Field :=
  [two p.entry, two p.area, four p.forwardWeight, four p.reverseWeight]

/-- The kind of a period record, the place in the list of R94: NORMAL or ZERO (log 6). -/
def PeriodKind.code : PeriodKind → Nat
  | .normal => 0 | .zero => 1

/-- The period record's fields, in the order of R97, with the number of its contributors. -/
def PeriodRecord.fields (count : Nat) (r : PeriodRecord) : List Field :=
  [two r.governor, one r.kind.code, orZero one r.percentage,
    flag r.holdApplied, one count] ++ r.contributors.flatMap Contributor.fields ++
  [four r.forwardSum, four r.reverseSum, four r.totalArea, two r.forward, two r.reverse, flag r.clamped]

/-- QueryChannel's items, in the order of R124. -/
def ChannelView.fields (v : ChannelView) : List Field :=
  one v.state.code :: marked one v.state.faultCode? ++
  [orZero one v.state.moduleCode?, flag v.contactorClosed, one v.missing, orZero one v.queuePlace] ++
  marked two v.state.armingTimer ++ marked two v.rest ++ marked four v.sinceGrant ++
  [flag v.inhibited, two v.forward, two v.reverse, flag v.lastZero.isSome, signed 2 (v.lastZero.getD 0)] ++
  segmentFields v.segment ++ v.periodFields ++
  (flag v.clock.isSome :: (v.clock.getD ⟨.fwd, 0, 0⟩).fields) ++
  (match v.period.flight with
   | some p => flag true :: p.record.fields v.contributors
   | none => [flag false]) ++
  [one v.windows]

def RecordState.code : RecordState → Nat
  | .entering => 0 | .onLine => 1 | .departing _ => 2

def RecordState.cause? : RecordState → Option Nat
  | .departing c => some c.code
  | _ => none

/-- A track record's fields, in the order of R19, R40 and R126. The tracking flags are one byte of bits, and the
accounting flags another (log 6). -/
def TrackRecord.fields (effective : Nat) (r : TrackRecord) : List Field :=
  [two r.entry, four r.panelId, recipeOrNone r.recipe, one r.state.code] ++ marked one r.state.cause? ++
  [two r.position, orZero two r.measured, two effective, one r.trackingFlags, one r.account.flags,
    two r.inFlight, six r.account.forwardA, six r.account.reverseA, six r.account.forwardB,
    six r.account.reverseB, four r.account.holdDwell]

/-- QueryPanel's items, in the order of R40: the location STAGED or TRACK, then the fields. -/
def PanelView.fields : PanelView → List Field
  | .staged place e => one 0 :: one place :: e.fields
  | .track r effective => one 1 :: r.fields effective

def CounterView.fields (k : CounterView) : List Field :=
  k.program.fields ++ [four k.count, flag k.overflow]

/-- The result payload's fields. -/
def ReplyPayload.fields : ReplyPayload → List Field
  | .nothing => []
  | .failing c => [one (c.getD 255)]
  | .mode m causes => [one m.code, one causes.code]
  | .lineStop l => [one l.code]
  | .exit e => e.fields
  | .panel v => v.fields
  | .channel v => v.fields
  | .line v => v.fields
  | .monitor frozen l => flag frozen :: l.flatMap CounterView.fields
  | .anode p => [eight p.forward, eight p.reverse]

/-- A reply as a frame: the kind echoed, the result code, the result payload (R191). -/
def Reply.frame (r : Reply) : Frame := ⟨r.kind, fieldBytes (one r.code.code :: r.payload.fields)⟩

/-- A notice as a frame (R193). -/
def noticeFrame (k : NoticeKind) (x : Snapshot) : Frame :=
  ⟨BitVec.ofNat 8 k.code,
    fieldBytes [one x.mode.code, one x.lineStop.code, one x.exits, one x.faulted, one (bits x.latches)]⟩

/-- The frame in transmission, as bytes on the line link. -/
def Transmitter.bytes : Transmitter → List Byte
  | .idle => []
  | .reply r => r.frame.bytes
  | .notice k x => (noticeFrame k x).bytes

end Sys2Proof.Machine
end

