-- ==== Sys2Proof/Machine/Resets.lean ====
section
/-! DEFINITION. The three kinds of reset (R144 to R146), BOOT (R147) and its end (R148, R121). -/

namespace Sys2Proof.Machine

/-- What every kind of reset does (R16, R41, R83, R125, R142, R143, R172, R185, R196): the values each
chapter gives "after power-on, reset line or Restart". The configuration (Line Profile, segment and
recipe records, ramp tables, interlock configurations, monitor programs) and the anode counters stay as
they stand. Until BOOT begins the boot timer is stopped, no order is on the module link, and the link's bit rate
is the one it had, the strap not being read yet (R145, R186; logs 13, 38). -/
def State.cleared (s : State) : State where
  pins := s.pins
  mode := .boot
  holdCauses := HoldCauses.none
  bootTimer := none
  profile := s.profile
  segments := s.segments
  recipes := s.recipes
  ramps := s.ramps
  conveyor := .afterReset
  staging := []
  track := []
  exits := []
  nextEntry := 1
  channels := .replicate 40 .afterReset
  groups := .replicate 4 ⟨[], none⟩
  interlocks := mapVec (fun x => ⟨x.config, false, .low⟩) s.interlocks
  lineStop := LineStopCauses.none
  monitor := ⟨mapVec (fun k => .cleared k.program) s.monitor.counters, false⟩
  anodes := s.anodes
  link := .afterReset s.link.rate
  moduleLink := ⟨none, [], []⟩
  freeCount := s.freeCount
  pending := s.pending

/-- What a power-on reset clears besides (R2, R5, R57, R160, R173, R182). -/
def State.configurationCleared (s : State) : State :=
  { s with
    profile := none
    segments := .replicate 40 none
    recipes := .replicate 16 none
    ramps := defaultRamps
    interlocks := .replicate 8 ⟨defaultInterlockConfig, false, .low⟩
    monitor := ⟨.replicate 8 (.cleared defaultProgram), false⟩
    anodes := .replicate 40 ⟨0, 0⟩ }

/-- BOOT begins (R121, R143, R186): the boot timer starts, the strap is read, and each module is sent a
Disarm Order and then a Presence Poll. -/
def State.bootBegins (s : State) : State :=
  { s with
    bootTimer := some Config.bootMs
    link := { s.link with rate := s.pins.strap }
    moduleLink := { s.moduleLink with outbox := bootOrders } }

/-- The strap as a command finds it (R186; log 12). -/
def State.strapped (s : State) (strap : BitRate) : State := { s with pins := { s.pins with strap := strap } }

/-- A power-on reset (R144). BOOT begins unless the reset line is held, which keeps the part in reset
(R145), the link's bit rate then as before (log 38). -/
def State.powersOn (s : State) : State :=
  let s := s.cleared.configurationCleared
  if s.pins.resetHeld then s else s.bootBegins

/-- The reset line becomes active (R145): held in reset until its release. -/
def State.resetHolds (s : State) : State :=
  let s := s.cleared
  { s with pins := { s.pins with resetHeld := true } }

/-- The reset line is released (R145): BOOT begins. -/
def State.resetReleases (s : State) : State :=
  let s := s.cleared
  ({ s with pins := { s.pins with resetHeld := false } }).bootBegins

/-- The reset of a taken Restart (R146). -/
def State.restarts (s : State) : State := s.cleared.bootBegins

/-- The reply in transmission is that of a taken Restart (R146). -/
def State.restartDue (s : State) : Bool :=
  match s.link.tx, s.link.inHand with
  | .reply _, some h => h.restarts
  | _, _ => false

/-- The end of BOOT at a channel (R121): without a presence reply it is FAULTED with MODULE_ABSENT. -/
def Channel.settled (ch : Channel) : Channel :=
  if ch.present then ch else { ch with state := .faulted .moduleAbsent }

/-- The interlock inputs take the levels at the pins (R160). -/
def State.takeLevels (s : State) : State :=
  Input.all.foldl (fun s i => s.updInterlock i fun x => { x with level := s.pins.interlocks[i] }) s

/-- BOOT ends (R148), in the order it lists: the channels are settled, the mode becomes OFFLINE, a
LINE_MODE notice is raised, and the interlock levels are taken, active LEVEL inputs latching. -/
def State.bootEnds (s : State) : State :=
  if s.bootTimer.isSome then
    let s := { s with bootTimer := none, channels := mapVec Channel.settled s.channels, mode := .offline }
    let s := (s.raise .lineMode).takeLevels
    Input.all.foldl (fun s i => s.latchIfLevel i) s
  else s

/-- A presence reply (R101, R121): noted during BOOT where the channel's Presence Poll has been sent (log 36);
discarded before that, after BOOT, and while the reset line is held. -/
def State.takePresence (s : State) (c : Chan) : State :=
  if s.bootTimer.isSome && !s.unsent c .presencePoll then s.updChan c fun ch => { ch with present := true } else s

end Sys2Proof.Machine
end

