-- ==== Sys2Proof/Machine/Link.lean ====
section
/-! DEFINITION. The Line Link (spec/11): the receiver (R188), the taking of requests (R189, R190), the
end of a transmission (R194, R146), and the module link's end of an order (R100). -/

namespace Sys2Proof.Machine

/-- Change the Line Link. -/
def State.updLink (s : State) (f : LineLink → LineLink) : State := { s with link := f s.link }

/-! ### Taking -/

/-- The frame becomes the request in hand, with its reply (R189, R191). -/
def State.putInHand (s : State) (f : Frame) (code : ResultCode) (payload : ReplyPayload) (restarts : Bool) :
    State :=
  s.updLink fun l => { l with inHand := some ⟨f, ⟨f.kind, code, payload⟩, restarts⟩ }

/-- A request whose frame passes the first two checks of R190 is taken: BOOTING in BOOT for anything but
QueryLine, else its owner acts, and the reply is built from the state after (R189). -/
def State.takeRequest (s : State) (f : Frame) (r : Request) : State :=
  if s.mode = .boot ∧ r ≠ .queryLine then s.putInHand f .booting .nothing false
  else
    let v := serve r s
    v.state.putInHand f v.code v.payload (decide (r = .restart ∧ v.code = .ok))

/-- A frame is taken (R189, R190). -/
def State.takeFrame (s : State) (f : Frame) : State :=
  match f.parse with
  | .error code => s.putInHand f code .nothing false
  | .ok r => s.takeRequest f r

/-- What a complete frame meets (R189): it is taken where nothing is in hand, waits in an empty hold
buffer, and is discarded at a full one. `take` is its taking. While the reset line is held no frame is
taken (R145). The receiver returns to HUNT (R188). -/
def State.meet (s : State) (f : Frame) (take : State → State) : State :=
  if s.pins.resetHeld then s
  else
    let s := s.updLink fun l => { l with receiver := .hunt, gap := 0 }
    match s.link.inHand, s.link.held with
    | none, _ => take s
    | some _, none => s.updLink fun l => { l with held := some f }
    | some _, some _ => s

/-- A complete frame is handed on (R188, R189). -/
def State.arrive (s : State) (f : Frame) : State := s.meet f fun s => s.takeFrame f

/-- A request arrives: its frame is handed on, and its taking is the request's (log 4). -/
def State.arriveRequest (s : State) (r : Request) : State :=
  s.meet r.frame fun s => s.takeRequest r.frame r

/-! ### The receiver -/

/-- The receiver moves, and the gap is measured from this byte. -/
def State.receive (s : State) (r : Receiver) : State := s.updLink fun l => { l with receiver := r, gap := 0 }

/-- The second check byte (R188): the frame is handed on where the check agrees, discarded otherwise. -/
def State.checkEnds (s : State) (body : List Byte) (first second : Byte) : State :=
  match body with
  | kind :: payload =>
    if checkBytes (checkedBytes body) = [first, second] then s.arrive ⟨kind, payload⟩ else s.receive .hunt
  | [] => s.receive .hunt

/-- The receiver as a byte finds it: after a gap of more than 5 ms the frame being received is discarded, and
the byte is examined in HUNT (R188). -/
def LineLink.listening (l : LineLink) : Receiver := if Config.gapMs < l.gap then .hunt else l.receiver

/-- A received byte acts according to the receiver's state (R188). -/
def State.takeByte (s : State) (b : Byte) : State :=
  if s.pins.resetHeld then s
  else
    match s.link.listening with
    | .hunt => s.receive (if b = 0xC3#8 then .length else .hunt)
    | .length => s.receive (if within 1 240 b.toNat then .body b.toNat [] else .hunt)
    | .body n stored =>
      let stored := stored ++ [b]
      s.receive (if stored.length = n then .check stored none else .body n stored)
    | .check body none => s.receive (.check body (some b))
    | .check body (some first) => s.checkEnds body first b

/-- The frame being received is discarded and the receiver returns to HUNT: a gap of more than 5 ms, or
a framing error (R186, R188). In HUNT there is nothing to discard. -/
def State.dropFrame (s : State) : State := s.receive .hunt

/-! ### The transmitter -/

/-- The reply in transmission has been sent: the request is no longer in hand, and the held frame, if
any, is taken (R189, R194). -/
def State.replySent (s : State) : State :=
  let after := s.updLink fun l => { l with tx := .idle, inHand := none, held := none }
  match s.link.held with
  | some f => after.takeFrame f
  | none => after

/-- The last byte of the frame in transmission has been sent (R189, R194); after the reply of a taken
Restart the reset takes effect (R146; log 12). -/
def State.transmitted (s : State) : State :=
  match s.link.tx with
  | .idle => s
  | .notice _ _ => s.updLink fun l => { l with tx := .idle }
  | .reply _ => if s.restartDue then s.restarts else s.replySent

/-! ### The module link -/

/-- The order being sent has been sent: the link is free for the one that has waited longest (R100). -/
def State.orderSent (s : State) : State :=
  { s with moduleLink := { s.moduleLink with sending := none } }

end Sys2Proof.Machine
end

