-- ==== Sys2Proof/Machine/Events.lean ====
section
/-! DEFINITION. The meanings of the rows that are no requests: resets, conveyor and eye, clocks,
modules, plant, and the bytes and frames of the line link. -/

namespace Sys2Proof.Machine

/-- A command's outcome: the state it leaves, settled: its orders reach the module link, and both links
start what waits (R100, R194). -/
def done (s : State) : Host.Outcome State Fault Refusal := .next (settle s)

/-- POWER_ON (R144): a power-on reset, with the strap as it then stands (R186). -/
def execPowerOn (strap : BitRate) (s : State) : Host.Outcome State Fault Refusal :=
  done ((s.strapped strap).powersOn)

/-- RESET_LINE_ACTIVE (R145). -/
def execResetLineActive (s : State) : Host.Outcome State Fault Refusal :=
  done (s.resetHolds)

/-- RESET_LINE_RELEASE (R145). A line that is not held is not released, and nothing changes (log 1). -/
def execResetLineRelease (strap : BitRate) (s : State) : Host.Outcome State Fault Refusal :=
  done (if s.pins.resetHeld then (s.strapped strap).resetReleases else s)

/-- RESTART_TAKES_EFFECT (R146): the last byte of a taken Restart's reply has been sent. Where no such
reply is in transmission the event cannot occur, and nothing changes (log 1, log 12). -/
def execRestartTakesEffect (strap : BitRate) (s : State) : Host.Outcome State Fault Refusal :=
  done (if s.restartDue then (s.strapped strap).restarts else s)

/-- BOOT_END (R148). -/
def execBootEnd (s : State) : Host.Outcome State Fault Refusal :=
  done (s.bootEnds)

/-- PRESENCE_REPLY (R121). -/
def execPresenceReply (c : Chan) (s : State) : Host.Outcome State Fault Refusal :=
  done (s.takePresence c)

/-- FORWARD_PULSE (R9). -/
def execForwardPulse (s : State) : Host.Outcome State Fault Refusal :=
  done (s.takeForwardPulse)

/-- REVERSE_PULSE (R10). -/
def execReversePulse (s : State) : Host.Outcome State Fault Refusal :=
  done (s.takeReversePulse)

/-- EYE_CHANGE (R13). -/
def execEyeChange (level : Level) (s : State) : Host.Outcome State Fault Refusal :=
  done (s.eyeChanges level)

/-- STALL_TIMER_EXPIRY (R15). -/
def execStallTimerExpiry (s : State) : Host.Outcome State Fault Refusal :=
  done (s.stallExpires)

/-- PHASE_INTERVAL_END (R59). -/
def execPhaseIntervalEnd (entry : Nat) (s : State) : Host.Outcome State Fault Refusal :=
  done (s.phaseIntervalEnds entry)

/-- PHASE_BOUNDARY (R59). -/
def execPhaseBoundary (entry : Nat) (s : State) : Host.Outcome State Fault Refusal :=
  done (s.phaseBoundaryComes entry)

/-- CHANNEL_INTERVAL_END (R64). -/
def execChannelIntervalEnd (c : Chan) (s : State) : Host.Outcome State Fault Refusal :=
  done (s.channelIntervalEnds c)

/-- PERIOD_END (R65). -/
def execPeriodEnd (c : Chan) (s : State) : Host.Outcome State Fault Refusal :=
  done (s.periodEnds c)

/-- ZERO_TIMER_EXPIRY (R76). -/
def execZeroTimerExpiry (c : Chan) (s : State) : Host.Outcome State Fault Refusal :=
  done (s.zeroTimerEnds c)

/-- LONE_ZERO_RETRY_EXPIRY (R80). -/
def execLoneZeroRetryExpiry (c : Chan) (s : State) : Host.Outcome State Fault Refusal :=
  done (s.retryEnds c)

/-- PERIOD_REPORT (R103). -/
def execPeriodReport (c : Chan) (report : PeriodReport) (s : State) : Host.Outcome State Fault Refusal :=
  done (s.takeReport c report)

/-- REPORT_WINDOW_CLOSE (R105; log 19). -/
def execReportWindowClose (c : Chan) (s : State) : Host.Outcome State Fault Refusal :=
  done (s.windowCloses c)

/-- ARM_REPORT (R110). -/
def execArmReport (c : Chan) (faultCode : Nat) (s : State) : Host.Outcome State Fault Refusal :=
  done (s.takeArmReport c faultCode)

/-- ARMING_TIMEOUT (R111). -/
def execArmingTimeout (c : Chan) (s : State) : Host.Outcome State Fault Refusal :=
  done (s.armingExpires c)

/-- CONTACTOR_REST_END (R112). -/
def execContactorRestEnd (c : Chan) (s : State) : Host.Outcome State Fault Refusal :=
  done (s.restEnds c)

/-- ARMING_SPACING_REACHED (R109; log 25). -/
def execArmingSpacingReached (g : BusGroup) (s : State) : Host.Outcome State Fault Refusal :=
  done (s.spacingReached g)

/-- INTERLOCK_INPUT_CHANGE (R162). -/
def execInterlockInputChange (i : Input) (level : Level) (s : State) : Host.Outcome State Fault Refusal :=
  done (s.interlockChanges i level)

/-- HOLD_DWELL_MILLISECOND (R135; log 27). -/
def execHoldDwellMillisecond (s : State) : Host.Outcome State Fault Refusal :=
  done (s.holdMillisecond)

/-- FRAME_RECEIVED (R189). -/
def execFrameReceived (kind : Byte) (payload : List Byte) (s : State) : Host.Outcome State Fault Refusal :=
  done (s.arrive ⟨kind, payload⟩)

/-- RECEIVED_BYTE (R188). -/
def execReceivedByte (value : Byte) (s : State) : Host.Outcome State Fault Refusal :=
  done (s.takeByte value)

/-- INTER_BYTE_GAP (R188). -/
def execInterByteGap (s : State) : Host.Outcome State Fault Refusal :=
  done (s.dropFrame)

/-- FRAMING_ERROR (R186, R188). -/
def execFramingError (s : State) : Host.Outcome State Fault Refusal :=
  done (s.dropFrame)

/-- TRANSMIT_COMPLETE (R194). -/
def execTransmitComplete (s : State) : Host.Outcome State Fault Refusal :=
  done (s.transmitted)

/-- BAD_KIND (R190): the arrival of a frame whose kind byte is no request kind, without payload. With a
request kind the event cannot occur, and nothing changes (log 1). -/
def execBadKind (kind : Byte) (s : State) : Host.Outcome State Fault Refusal :=
  done (if (requestKind? kind).isNone then s.arrive ⟨kind, []⟩ else s)

/-- MODULE_ORDER_SENT (R100). -/
def execModuleOrderSent (s : State) : Host.Outcome State Fault Refusal :=
  done (s.orderSent)

end Sys2Proof.Machine
end

