-- ==== Sys2Proof/Machine/RequestCommands.lean ====
section
/-! DEFINITION. The meanings of the request rows: the arrival of that request on the line link
(log 4). What each owner does at the taking stands in Requests.lean. -/

namespace Sys2Proof.Machine

/-- SET_PROFILE (R3). -/
def execSetProfile (profile : Profile) (s : State) : Host.Outcome State Fault Refusal :=
  done (s.arriveRequest (.setProfile profile))

/-- SET_SEGMENT (R6). -/
def execSetSegment (side : Side) (index : Nat) (record : Option Segment) (s : State) : Host.Outcome State Fault Refusal :=
  done (s.arriveRequest (.setSegment (some (side, index, record))))

/-- SET_LIMITS (R7). -/
def execSetLimits (channel forward reverse : Nat) (s : State) : Host.Outcome State Fault Refusal :=
  done (s.arriveRequest (.setLimits channel forward reverse))

/-- SET_RECIPE (R47). -/
def execSetRecipe (number : Nat) (recipe : Recipe) (s : State) : Host.Outcome State Fault Refusal :=
  done (s.arriveRequest (.setRecipe number recipe))

/-- CLEAR_RECIPE (R50). -/
def execClearRecipe (number : Nat) (s : State) : Host.Outcome State Fault Refusal :=
  done (s.arriveRequest (.clearRecipe number))

/-- SET_RAMP (R54). -/
def execSetRamp (table : Nat) (steps : List Nat) (s : State) : Host.Outcome State Fault Refusal :=
  done (s.arriveRequest (.setRamp table steps))

/-- SET_MODE_RUN (R149, R150, R156). -/
def execSetModeRun (s : State) : Host.Outcome State Fault Refusal :=
  done (s.arriveRequest (.setMode (some .run)))

/-- SET_MODE_HOLD (R149, R151, R156). -/
def execSetModeHold (s : State) : Host.Outcome State Fault Refusal :=
  done (s.arriveRequest (.setMode (some .hold)))

/-- SET_MODE_STANDBY (R149, R152). -/
def execSetModeStandby (s : State) : Host.Outcome State Fault Refusal :=
  done (s.arriveRequest (.setMode (some .standby)))

/-- SET_MODE_OFFLINE (R149, R153). -/
def execSetModeOffline (s : State) : Host.Outcome State Fault Refusal :=
  done (s.arriveRequest (.setMode (some .offline)))

/-- RESTART (R146). -/
def execRestart (s : State) : Host.Outcome State Fault Refusal :=
  done (s.arriveRequest .restart)

/-- ARM_CHANNELS (R106). -/
def execArmChannels (channels : List Nat) (s : State) : Host.Outcome State Fault Refusal :=
  done (s.arriveRequest (.armChannels channels))

/-- DISARM_CHANNELS (R113). -/
def execDisarmChannels (channels : List Nat) (s : State) : Host.Outcome State Fault Refusal :=
  done (s.arriveRequest (.disarmChannels channels))

/-- CLEAR_FAULT (R114). -/
def execClearFault (channels : List Nat) (s : State) : Host.Outcome State Fault Refusal :=
  done (s.arriveRequest (.clearFault channels))

/-- ANNOUNCE_PANEL (R21). -/
def execAnnouncePanel (panel : StagingEntry) (s : State) : Host.Outcome State Fault Refusal :=
  done (s.arriveRequest (.announcePanel (some panel)))

/-- WITHDRAW_PANEL (R22). -/
def execWithdrawPanel (id : Nat) (s : State) : Host.Outcome State Fault Refusal :=
  done (s.arriveRequest (.withdrawPanel id))

/-- REMOVE_PANEL (R34). -/
def execRemovePanel (name : PanelName) (s : State) : Host.Outcome State Fault Refusal :=
  done (s.arriveRequest (.removePanel (some name)))

/-- QUERY_PANEL (R40). -/
def execQueryPanel (name : PanelName) (s : State) : Host.Outcome State Fault Refusal :=
  done (s.arriveRequest (.queryPanel (some name)))

/-- COLLECT_EXIT (R141). -/
def execCollectExit (s : State) : Host.Outcome State Fault Refusal :=
  done (s.arriveRequest .collectExit)

/-- SET_INTERLOCK (R161). -/
def execSetInterlock (input : Nat) (config : InterlockConfig) (s : State) : Host.Outcome State Fault Refusal :=
  done (s.arriveRequest (.setInterlock input (some config)))

/-- ACK_INTERLOCK (R163). -/
def execAckInterlock (input : Nat) (s : State) : Host.Outcome State Fault Refusal :=
  done (s.arriveRequest (.ackInterlock input))

/-- CLEAR_LINE_STOP (R171). -/
def execClearLineStop (s : State) : Host.Outcome State Fault Refusal :=
  done (s.arriveRequest .clearLineStop)

/-- SET_MONITOR (R179). -/
def execSetMonitor (counter : Nat) (program : MonitorProgram) (s : State) : Host.Outcome State Fault Refusal :=
  done (s.arriveRequest (.setMonitor counter (some program)))

/-- FREEZE (R180). -/
def execFreeze (s : State) : Host.Outcome State Fault Refusal :=
  done (s.arriveRequest (.controlMonitor (some .freeze)))

/-- UNFREEZE (R180). -/
def execUnfreeze (s : State) : Host.Outcome State Fault Refusal :=
  done (s.arriveRequest (.controlMonitor (some .unfreeze)))

/-- RESET_COUNTS (R180). -/
def execResetCounts (s : State) : Host.Outcome State Fault Refusal :=
  done (s.arriveRequest (.controlMonitor (some .resetCounts)))

/-- CLEAR_OVERFLOW (R180). -/
def execClearOverflow (s : State) : Host.Outcome State Fault Refusal :=
  done (s.arriveRequest (.controlMonitor (some .clearOverflow)))

/-- READ_MONITOR (R181). -/
def execReadMonitor (s : State) : Host.Outcome State Fault Refusal :=
  done (s.arriveRequest .readMonitor)

/-- READ_ANODE (R183). -/
def execReadAnode (channel : Nat) (s : State) : Host.Outcome State Fault Refusal :=
  done (s.arriveRequest (.readAnode channel))

/-- SET_ANODE (R183). -/
def execSetAnode (channel forward reverse : Nat) (s : State) : Host.Outcome State Fault Refusal :=
  done (s.arriveRequest (.setAnode channel forward reverse))

/-- QUERY_CHANNEL (R124). -/
def execQueryChannel (channel firstContributor : Nat) (s : State) : Host.Outcome State Fault Refusal :=
  done (s.arriveRequest (.queryChannel channel firstContributor))

/-- QUERY_LINE (R195). -/
def execQueryLine (s : State) : Host.Outcome State Fault Refusal :=
  done (s.arriveRequest .queryLine)

end Sys2Proof.Machine
end

