-- ==== Sys2Proof/Machine/Dispatch.lean ====
section
/-! DEFINITION. One arm for every command: a direct call of its meaning. -/

namespace Sys2Proof.Machine

def exec (i : Instr) (s : State) : Host.Outcome State Fault Refusal :=
  match i with
  | .powerOn strap => Sys2Proof.Machine.execPowerOn strap s
  | .resetLineActive => Sys2Proof.Machine.execResetLineActive s
  | .resetLineRelease strap => Sys2Proof.Machine.execResetLineRelease strap s
  | .restartTakesEffect strap => Sys2Proof.Machine.execRestartTakesEffect strap s
  | .bootEnd => Sys2Proof.Machine.execBootEnd s
  | .presenceReply c => Sys2Proof.Machine.execPresenceReply c s
  | .forwardPulse => Sys2Proof.Machine.execForwardPulse s
  | .reversePulse => Sys2Proof.Machine.execReversePulse s
  | .eyeChange level => Sys2Proof.Machine.execEyeChange level s
  | .stallTimerExpiry => Sys2Proof.Machine.execStallTimerExpiry s
  | .phaseIntervalEnd entry => Sys2Proof.Machine.execPhaseIntervalEnd entry s
  | .phaseBoundary entry => Sys2Proof.Machine.execPhaseBoundary entry s
  | .channelIntervalEnd c => Sys2Proof.Machine.execChannelIntervalEnd c s
  | .periodEnd c => Sys2Proof.Machine.execPeriodEnd c s
  | .zeroTimerExpiry c => Sys2Proof.Machine.execZeroTimerExpiry c s
  | .loneZeroRetryExpiry c => Sys2Proof.Machine.execLoneZeroRetryExpiry c s
  | .periodReport c report => Sys2Proof.Machine.execPeriodReport c report s
  | .reportWindowClose c => Sys2Proof.Machine.execReportWindowClose c s
  | .armReport c faultCode => Sys2Proof.Machine.execArmReport c faultCode s
  | .armingTimeout c => Sys2Proof.Machine.execArmingTimeout c s
  | .contactorRestEnd c => Sys2Proof.Machine.execContactorRestEnd c s
  | .armingSpacingReached g => Sys2Proof.Machine.execArmingSpacingReached g s
  | .interlockInputChange input level => Sys2Proof.Machine.execInterlockInputChange input level s
  | .frameReceived kind payload => Sys2Proof.Machine.execFrameReceived kind payload s
  | .interByteGap => Sys2Proof.Machine.execInterByteGap s
  | .framingError => Sys2Proof.Machine.execFramingError s
  | .transmitComplete => Sys2Proof.Machine.execTransmitComplete s
  | .badKind kind => Sys2Proof.Machine.execBadKind kind s
  | .setProfile profile => Sys2Proof.Machine.execSetProfile profile s
  | .setSegment side index record => Sys2Proof.Machine.execSetSegment side index record s
  | .setLimits channel forward reverse => Sys2Proof.Machine.execSetLimits channel forward reverse s
  | .setRecipe number recipe => Sys2Proof.Machine.execSetRecipe number recipe s
  | .clearRecipe number => Sys2Proof.Machine.execClearRecipe number s
  | .setRamp table steps => Sys2Proof.Machine.execSetRamp table steps s
  | .setModeRun => Sys2Proof.Machine.execSetModeRun s
  | .setModeHold => Sys2Proof.Machine.execSetModeHold s
  | .setModeStandby => Sys2Proof.Machine.execSetModeStandby s
  | .setModeOffline => Sys2Proof.Machine.execSetModeOffline s
  | .restart => Sys2Proof.Machine.execRestart s
  | .armChannels channels => Sys2Proof.Machine.execArmChannels channels s
  | .disarmChannels channels => Sys2Proof.Machine.execDisarmChannels channels s
  | .clearFault channels => Sys2Proof.Machine.execClearFault channels s
  | .announcePanel panel => Sys2Proof.Machine.execAnnouncePanel panel s
  | .withdrawPanel id => Sys2Proof.Machine.execWithdrawPanel id s
  | .removePanel name => Sys2Proof.Machine.execRemovePanel name s
  | .queryPanel name => Sys2Proof.Machine.execQueryPanel name s
  | .collectExit => Sys2Proof.Machine.execCollectExit s
  | .setInterlock input config => Sys2Proof.Machine.execSetInterlock input config s
  | .ackInterlock input => Sys2Proof.Machine.execAckInterlock input s
  | .clearLineStop => Sys2Proof.Machine.execClearLineStop s
  | .setMonitor counter program => Sys2Proof.Machine.execSetMonitor counter program s
  | .freeze => Sys2Proof.Machine.execFreeze s
  | .unfreeze => Sys2Proof.Machine.execUnfreeze s
  | .resetCounts => Sys2Proof.Machine.execResetCounts s
  | .clearOverflow => Sys2Proof.Machine.execClearOverflow s
  | .readMonitor => Sys2Proof.Machine.execReadMonitor s
  | .readAnode channel => Sys2Proof.Machine.execReadAnode channel s
  | .setAnode channel forward reverse => Sys2Proof.Machine.execSetAnode channel forward reverse s
  | .queryChannel channel firstContributor => Sys2Proof.Machine.execQueryChannel channel firstContributor s
  | .queryLine => Sys2Proof.Machine.execQueryLine s
  | .receivedByte value => Sys2Proof.Machine.execReceivedByte value s
  | .moduleOrderSent => Sys2Proof.Machine.execModuleOrderSent s
  | .holdDwellMillisecond => Sys2Proof.Machine.execHoldDwellMillisecond s

end Sys2Proof.Machine
end

