-- ==== Sys2Proof/Machine/Time.lean ====
section
/-! DEFINITION. The passing of time (log 2): a millisecond of every timer, and the events that stand due,
as commands. An idle step is one or the other. -/

namespace Sys2Proof.Machine

/-! ### A millisecond -/

/-- A running timer counts down; a stopped one stays stopped. -/
def countDown (t : Option Nat) : Option Nat := t.map (· - 1)

/-- A running stall timer counts down (R14). -/
def StallTimer.tick : StallTimer → StallTimer
  | .running n => .running (n - 1)
  | t => t

/-- The arming timer counts down (R110). -/
def ChannelState.tick : ChannelState → ChannelState
  | .arming n => .arming (n - 1)
  | st => st

/-- The time remaining in a channel interval counts down (R64). -/
def Period.tick : Period → Period
  | .delivering p => .delivering { p with remaining := p.remaining - 1 }
  | p => p

/-- A report window's time counts down (R103). -/
def Window.tick (w : Window) : Window := { w with remaining := w.remaining - 1 }

/-- A millisecond of a channel's timers (R61, R99). -/
def Channel.tick (ch : Channel) : Channel :=
  { ch with
    state := ch.state.tick
    rest := countDown ch.rest
    windows := ch.windows.map Window.tick
    period := ch.period.tick
    zeroTimer := countDown ch.zeroTimer
    retry := countDown ch.retry }

/-- A millisecond of a phase clock; a DEPARTING record's clock has stopped (R59, R60). -/
def TrackRecord.tick (r : TrackRecord) : TrackRecord :=
  if r.departing then r
  else { r with clock := r.clock.map fun k => { k with remaining := k.remaining - 1 } }

/-- A millisecond of a group's time since its last grant (R109). -/
def Group.tick (q : Group) : Group := { q with sinceGrant := q.sinceGrant.map (· + 1) }

/-- A millisecond of the gap within a frame; HUNT has no gap limit (R188). -/
def LineLink.tick (l : LineLink) : LineLink :=
  match l.receiver with
  | .hunt => l
  | _ => { l with gap := l.gap + 1 }

/-- A millisecond passes for every timer. -/
def State.timersTick (s : State) : State :=
  { s with
    bootTimer := countDown s.bootTimer
    conveyor := { s.conveyor with stall := s.conveyor.stall.tick }
    track := s.track.map TrackRecord.tick
    channels := mapVec Channel.tick s.channels
    groups := mapVec Group.tick s.groups
    link := s.link.tick }

/-- A millisecond passes, with its hold dwell (R135; log 27). -/
def State.millisecond (s : State) : State := s.timersTick.holdMillisecond

/-! ### What stands due -/

/-- A command where its condition holds. -/
def whenDue (b : Bool) (c : Instr) : List Instr := if b then [c] else []

/-- A phase clock that has run out: an interval's end, or a boundary (R59). -/
def State.duePhase (s : State) (r : TrackRecord) : List Instr :=
  match s.runningClock r with
  | some (k, t) =>
    if k.remaining = 0 then
      match t.next? k.interval with
      | some _ => [.phaseIntervalEnd r.entry]
      | none => [.phaseBoundary r.entry]
    else []
  | none => []

/-- A channel interval that has run out: an interval's end, or the period's (R64, R65). -/
def duePeriod (c : Chan) (timing : Timing) : Period → List Instr
  | .delivering p =>
    if p.remaining = 0 then
      match timing.next? p.interval with
      | some _ => [.channelIntervalEnd c]
      | none => [.periodEnd c]
    else []
  | _ => []

/-- The arming timer has run out. -/
def ChannelState.armingDue : ChannelState → Bool
  | .arming n => n = 0
  | _ => false

/-- A channel's timers that have run out. -/
def Channel.due (c : Chan) (ch : Channel) : List Instr :=
  duePeriod c ch.timing ch.period ++
  whenDue (ch.windows.head?.any fun w => w.remaining = 0) (.reportWindowClose c) ++
  whenDue (decide (ch.zeroTimer = some 0)) (.zeroTimerExpiry c) ++
  whenDue (decide (ch.retry = some 0)) (.loneZeroRetryExpiry c) ++
  whenDue ch.state.armingDue (.armingTimeout c) ++
  whenDue (decide (ch.rest = some 0)) (.contactorRestEnd c)

/-- Every event that stands due: a timer at 0, a gap above its limit, a group whose spacing has been
reached with a channel to grant. -/
def State.due (s : State) : List Instr :=
  whenDue (decide (s.bootTimer = some 0)) .bootEnd ++
  whenDue (decide (s.conveyor.stall = .running 0)) .stallTimerExpiry ++
  s.track.flatMap s.duePhase ++
  (Chan.all.flatMap fun c => (s.chan c).due c) ++
  (BusGroup.all.flatMap fun g => whenDue (s.grantee g).isSome (.armingSpacingReached g)) ++
  whenDue (decide (Config.gapMs < s.link.gap)) .interByteGap

/-- What an idle step does (log 2, log 3): where nothing stands due, a millisecond passes (`none`);
where one event does, it happens; where several do, a free value says which happens first. -/
def State.idleChoice (s : State) : Option Instr × State :=
  match s.due with
  | [] => (none, s)
  | [c] => (some c, s)
  | c :: rest =>
    let (k, s) := s.takeFree Config.raceChoice
    (some (((c :: rest)[k % (rest.length + 1)]?).getD c), s)

end Sys2Proof.Machine
end

