-- ==== Sys2Proof/Machine/Step.lean ====
section
/-! DEFINITION. One step: the command at the front of the queue, or, with the queue empty, what time
brings (log 2). -/

namespace Sys2Proof.Machine

/-- A step: the command at the front of the queue is taken with the queue's rest; on an empty queue a
millisecond passes, or an event that stands due happens. -/
def step (s : State) : Host.Outcome State Fault Refusal :=
  match s.pending with
  | c :: rest => exec c { s with pending := rest }
  | [] =>
    match s.idleChoice with
    | (none, s) => .next s.millisecond
    | (some c, s) => exec c s

/-- The state with the command that a word spells put at the front of its queue; unchanged where the
word spells none. -/
def State.withFetchWord (s : State) (nbits w : Nat) : State :=
  match decodeTableWord nbits w with
  | some c => { s with pending := c :: s.pending }
  | none => s

end Sys2Proof.Machine
end

