-- ==== Sys2Proof/WellFormed.lean ====
section
/-! DEFINITION. Which commands can occur: a request's operands fit the widths of its layout (R198,
R199), a report's fields lie in the ranges of R102. Values in those widths that a request's owner
refuses (BAD_VALUE and the like) are well formed: they can be sent, and are answered. -/

namespace Sys2Proof.Machine

/-- A value of one, two, four or eight bytes (R198). -/
def fitsByte (n : Nat) : Bool := n < 256
def fitsWord (n : Nat) : Bool := n < 65536
def fitsLong (n : Nat) : Bool := n < 4294967296
def fitsEight (n : Nat) : Bool := n < 18446744073709551616

/-- A recipe number that may be NONE: 0xFF is NONE's own code (R198). -/
def fitsRecipeOrNone : Option Nat → Bool
  | none => true
  | some n => n < 255

/-- A value for whose absence 0 is sent (R198): present, it is not 0. -/
def fitsNonZero (limit : Nat) : Option Nat → Bool
  | none => true
  | some n => 0 < n && n < limit

/-- A list that carries its own count in a byte, within the longest body of 240 bytes (R187, R190):
the kind, `fixed` further bytes with the count among them, and `each` bytes for every item. -/
def fitsList (fixed each count : Nat) : Bool := 1 + fixed + each * count ≤ 240

def Profile.wf (p : Profile) : Bool :=
  fitsWord p.lineLength && fitsWord p.eye && fitsByte p.pulsesPerMm && fitsWord p.stallTime &&
  fitsWord p.nominalLength && fitsByte p.tolerance && fitsRecipeOrNone p.fallback &&
  fitsWord p.fallbackAreaA && fitsWord p.fallbackAreaB && fitsWord p.zeroInterval &&
  p.spacing.toList.all fitsWord && fitsWord p.contactorRest

def Segment.wf (r : Segment) : Bool :=
  fitsWord r.start && fitsWord r.length && fitsWord r.forwardLimit && fitsWord r.reverseLimit &&
  fitsByte r.group

def Stage.wf (st : Stage) : Bool :=
  fitsWord st.start && fitsWord st.forwardDensity && fitsWord st.reverseDensity

def Recipe.wf (r : Recipe) : Bool :=
  fitsWord r.timing.fwd && fitsByte r.timing.rest1 && fitsByte r.timing.rev &&
  fitsByte r.timing.rest2 && fitsByte r.rampTable && fitsByte r.holdFraction &&
  fitsNonZero 4294967296 r.target && fitsByte r.tolerance && r.stages.all Stage.wf &&
  fitsList 14 6 r.stages.length

def StagingEntry.wf (e : StagingEntry) : Bool :=
  fitsLong e.panelId && fitsByte e.recipe && fitsNonZero 65536 e.announced &&
  fitsWord e.areaA && fitsWord e.areaB

def PanelName.wf : PanelName → Bool
  | .byId n => fitsLong n
  | .byEntry n => fitsLong n

def InterlockConfig.wf (c : InterlockConfig) : Bool := fitsByte c.first && fitsByte c.last

/-- The channel of a selector has its byte in every layout; it is ONE's alone. -/
def Selector.wf : Selector → Bool
  | .one c => fitsByte c
  | _ => true

def MonitorProgram.wf (p : MonitorProgram) : Bool :=
  p.selector.wf && fitsWord p.threshold && fitsWord p.bandLow && fitsWord p.bandHigh

/-- The ranges of R102. -/
def PeriodReport.wf (r : PeriodReport) : Bool :=
  fitsByte r.tag && fitsWord r.averageForward && fitsWord r.averageReverse &&
  decide (r.forwardMs ≤ 500) && decide (r.reverseMs ≤ 50) && fitsWord r.peakVoltage &&
  decide (-32768 ≤ r.zeroValue) && decide (r.zeroValue ≤ 32767) && fitsByte r.faultCode

/-- The request kinds of R199 are 0x01 to 0x1A. -/
def isRequestKind (kind : Byte) : Bool := 1 ≤ kind.toNat && kind.toNat ≤ 26

end Sys2Proof.Machine

namespace Sys2Proof

open Machine

/-- The commands that can occur. -/
def Instr.wf : Instr → Bool
  | .powerOn _ | .resetLineActive | .resetLineRelease _ | .restartTakesEffect _ | .bootEnd
  | .presenceReply _ | .forwardPulse | .reversePulse | .eyeChange _ | .stallTimerExpiry => true
  | .phaseIntervalEnd entry | .phaseBoundary entry => 1 ≤ entry && fitsWord entry
  | .channelIntervalEnd _ | .periodEnd _ | .zeroTimerExpiry _ | .loneZeroRetryExpiry _ => true
  | .periodReport _ report => report.wf
  | .reportWindowClose _ => true
  | .armReport _ code => fitsByte code
  | .armingTimeout _ | .contactorRestEnd _ | .armingSpacingReached _
  | .interlockInputChange _ _ => true
  | .frameReceived _ payload => payload.length ≤ 239
  | .interByteGap | .framingError | .transmitComplete => true
  | .badKind kind => !isRequestKind kind
  | .setProfile p => p.wf
  | .setSegment _ index record => fitsByte index && record.all Segment.wf
  | .setLimits c f r => fitsByte c && fitsWord f && fitsWord r
  | .setRecipe n r => fitsByte n && r.wf
  | .clearRecipe n => fitsByte n
  | .setRamp t steps => fitsByte t && steps.all fitsByte && fitsList 2 1 steps.length
  | .setModeRun | .setModeHold | .setModeStandby | .setModeOffline | .restart => true
  | .armChannels l | .disarmChannels l | .clearFault l => l.all fitsByte && fitsList 1 1 l.length
  | .announcePanel e => e.wf
  | .withdrawPanel id => fitsLong id
  | .removePanel name | .queryPanel name => name.wf
  | .collectExit => true
  | .setInterlock i c => fitsByte i && c.wf
  | .ackInterlock i => fitsByte i
  | .clearLineStop => true
  | .setMonitor n p => fitsByte n && p.wf
  | .freeze | .unfreeze | .resetCounts | .clearOverflow | .readMonitor => true
  | .readAnode c => fitsByte c
  | .setAnode c f r => fitsByte c && fitsEight f && fitsEight r
  | .queryChannel c first => fitsByte c && fitsByte first
  | .queryLine | .receivedByte _ | .moduleOrderSent | .holdDwellMillisecond => true

end Sys2Proof
end

