-- ==== Sys2Proof/Safety.lean ====
section
/-! DEFINITION. The terms in which statements speak: what holds of every state a run reaches (the
invariants), when a request reaches its owner, and what the links look like after an event. Each is a
Bool, so that a concrete state can be asked. -/

namespace Sys2Proof.Machine

/-! ### Invariants -/

/-- What ends every command has been done: no order of an event is left over, an idle module link has
nothing waiting (R100), an idle transmitter has no reply and no notice waiting (R194). -/
def State.settled (s : State) : Bool :=
  s.moduleLink.outbox.isEmpty && (s.moduleLink.sending.isSome || s.moduleLink.waiting.isEmpty) &&
  (decide (s.link.tx ≠ .idle) || (s.link.inHand.isNone && s.link.notices.isEmpty))

/-- The receiver's store fits its state (R188). -/
def Receiver.fits : Receiver → Bool
  | .hunt | .length => true
  | .body n stored => within 1 240 n && decide (stored.length < n)
  | .check l _ => within 1 240 l.length

/-- The Line Link: settled; a frame is held only behind a request in hand (R189); no notice kind is
pending twice (R192); the receiver's store fits (R188); HUNT measures no gap (R188). -/
def State.linkInv (s : State) : Bool :=
  s.settled && (s.link.held.isNone || s.link.inHand.isSome) && decide s.link.notices.Nodup &&
  s.link.receiver.fits && (decide (s.link.receiver ≠ .hunt) || decide (s.link.gap = 0))

/-- The mode stands at HOLD exactly while the hold-cause set is not empty (R143, R154), and the boot
timer runs only in BOOT (R143). INTERLOCK stands in the line-stop cause set exactly while an input whose
actions include STOP is latched (R168), and in the hold-cause set only while one whose actions include HOLD
is (R157). -/
def State.holdInv (s : State) : Bool :=
  decide (decide (s.mode = .hold) = !s.holdCauses.isEmpty) &&
  (s.bootTimer.isNone || decide (s.mode = .boot)) &&
  decide (s.lineStop.interlock = s.stopLatched) && (!s.holdCauses.interlock || s.holdLatched)

/-- The capacities of the staging queue, the track and the exit list (R17, R18, R38), and EXIT_HIGH
exactly at 12 or more exit records (R39). Every recipe that a staging entry, a track record or the
profile's fallback names is defined (R48, R50). -/
def State.panelInv (s : State) : Bool :=
  decide (s.staging.length ≤ Config.stagingCapacity) && decide (s.track.length ≤ Config.trackCapacity) &&
  decide (s.exits.length ≤ Config.exitCapacity) &&
  decide (s.lineStop.exitHigh = decide (Config.exitHighAt ≤ s.exits.length)) &&
  (s.staging.all fun e => (s.recipe e.recipe).isSome) &&
  (s.track.all fun r => r.recipe.all fun n => (s.recipe n).isSome) &&
  s.profile.all fun p => p.fallback.all fun n => (s.recipe n).isSome

/-- The state is DORMANT or FAULTED. -/
def ChannelState.isOut : ChannelState → Bool
  | .dormant | .faulted _ => true
  | _ => false

/-- A channel: its contactor is open exactly while DORMANT or FAULTED (R98); its period kind fits its
state (R61); its timing in force is the record's of a period in flight (R61, R94); its setpoints are zero but in a
NORMAL period of RUNNING or DRAINING (R93, R99). -/
def Channel.ok (ch : Channel) : Bool :=
  decide (ch.contactorClosed = !ch.state.isOut) &&
  (match ch.state, ch.period with
   | .dormant, .idle | .arming _, .idle | .faulted _, .idle | .ready, .idle => true
   | .running, .align _ | .running, .delivering _ | .draining _, .delivering _ => true
   | _, _ => false) &&
  (match ch.period with
   | .delivering p => decide (ch.timing = p.record.timing) &&
      (decide (p.record.kind = .normal) || decide (ch.forward = 0 ∧ ch.reverse = 0))
   | _ => decide (ch.forward = 0 ∧ ch.reverse = 0))

/-- The channels in the arming queues of all groups, group by group. -/
def State.allQueued (s : State) : List Chan := s.groups.toList.flatMap (·.queue)

/-- The channels: each fits; no channel is queued twice, and a queued one is DORMANT (R108); in BOOT and
OFFLINE every channel is DORMANT or FAULTED and none is queued (R153); the boot timer runs only in
BOOT. -/
def State.channelInv (s : State) : Bool :=
  s.channels.toList.all Channel.ok && decide s.allQueued.Nodup &&
  (s.allQueued.all fun c => (s.chan c).state = .dormant) &&
  (s.mode.active || (s.channels.toList.all (·.state.isOut) && s.allQueued.isEmpty)) &&
  (s.bootTimer.isNone || decide (s.mode = .boot))

/-- The least distance behind the eye position at which the last record's leading edge stands (R12, R23): while
the accepted level is HIGH that record has come the debounce travel since its binding, and at LOW its fall was
accepted after a travel of 3 mm. -/
def Conveyor.travel (v : Conveyor) : Nat :=
  match v.accepted, v.debounce with
  | .high, some n => n
  | _, _ => 3

/-- The records stand in strict order of position (R18), the last at least the travel since its binding past the
eye, none more than 1 500 mm past the line's end (R29, R33); the debounce travel is at most 3 mm, and NONE only
while the track is empty (R12, R16). At most one record is ENTERING, and none unless the accepted level is HIGH
(R23, R26). Entry numbers lie in 1..65 535 (R19, R20). No panel id but 0 stands twice in the staging queue and
the track together, and none in the queue is 0 (R21). -/
def State.trackInv (s : State) : Bool :=
  decide ((s.track.map (·.position)).Pairwise (· > ·)) &&
  (s.track.all fun r => decide (s.prof.eye + s.conveyor.travel ≤ r.position) &&
    decide (r.position ≤ s.prof.lineLength + 1500)) &&
  (s.conveyor.debounce.all fun n => decide (n ≤ 3)) && (s.conveyor.debounce.isSome || s.track.isEmpty) &&
  decide ((s.track.filter fun r => r.state = .entering).length ≤
    if s.conveyor.accepted = .high then 1 else 0) &&
  within 1 65535 s.nextEntry && (s.track.all fun r => within 1 65535 r.entry) &&
  (s.staging.all fun e => decide (e.panelId ≠ 0)) &&
  decide ((s.staging.map (·.panelId) ++ (s.track.map (·.panelId)).filter (· ≠ 0)).Nodup)

/-- The profile's fields lie in their ranges (R2). In RUN, HOLD and STANDBY a profile is defined, the pulse
remainder is below pulses per mm, and the backlash count at most its saturation value (R9, R10); in BOOT and
OFFLINE the track is empty and the stall timer STOPPED (R14, R18, R153). The boot timer runs only in BOOT. -/
def State.conveyorInv (s : State) : Bool :=
  (s.profile.all Profile.inRange) &&
  (if s.mode.active then
    s.profile.isSome && decide (s.conveyor.remainder < s.prof.pulsesPerMm) &&
      decide (s.conveyor.backlash ≤ s.backlashLimit)
   else s.track.isEmpty && decide (s.conveyor.stall = .stopped)) &&
  (s.bootTimer.isNone || decide (s.mode = .boot))

/-! ### Requests -/

/-- A request that arrives now is taken and reaches its owner (R145, R189, R190): the reset line is not
held, nothing is in hand, the mode is not BOOT; and the links are settled. -/
def State.receptive (s : State) : Bool :=
  s.settled && !s.pins.resetHeld && s.link.inHand.isNone && decide (s.mode ≠ .boot)

/-- A request that arrives now is answered at once, in BOOT (R147, R189, R190). -/
def State.bootReceptive (s : State) : Bool :=
  s.settled && !s.pins.resetHeld && s.link.inHand.isNone && decide (s.mode = .boot)

/-- The Line Link after a frame has been taken and answered (R189, R191, R194): the frame in hand with its
reply, which an idle transmitter begins to send; the rest as it stood. -/
def LineLink.answered (l : LineLink) (f : Frame) (code : ResultCode) (payload : ReplyPayload) : LineLink :=
  { l with
    receiver := .hunt
    gap := 0
    inHand := some ⟨f, ⟨f.kind, code, payload⟩, false⟩
    tx := match l.tx with
      | .idle => .reply ⟨f.kind, code, payload⟩
      | t => t }

/-- The Line Link after notices have been raised in this order (R192, R193, R194): each kind joins where it
is not pending, and an idle transmitter begins to send the head with the snapshot. -/
def LineLink.raising (l : LineLink) (x : Snapshot) (ks : List NoticeKind) : LineLink :=
  let pending := ks.foldl (fun p k => joinNotices k p) l.notices
  match l.tx, pending with
  | .idle, k :: rest => { l with tx := .notice k x, notices := rest }
  | _, _ => { l with notices := pending }

/-- The module link after orders have fallen due (R100): they wait behind the orders before them, and an
idle link begins to send the first. -/
def ModuleLink.ordering (m : ModuleLink) (l : List Order) : ModuleLink :=
  match m.sending, m.waiting ++ l with
  | none, o :: rest => { m with sending := some o, waiting := rest }
  | _, all => { m with waiting := all }

/-- The notices that a LINE_STOP cause set brings where it goes from empty to not empty (R170). -/
def lineStopNotice (before after : LineStopCauses) : List NoticeKind :=
  if before.isEmpty && !after.isEmpty then [.lineStop] else []

/-- The notice that a sample brings where it freezes the monitor (R178). -/
def monitorNotice (before after : Monitor) : List NoticeKind :=
  if after.frozen && !before.frozen then [.monitor] else []

/-- The state after the orders of one event, the links until then as they stood: they join the module link, and
where an idle link begins with a Zero Order, that order's report window opens (R100, R103; log 9). -/
def State.sent (s : State) (l : List Order) : State :=
  let t := { s with moduleLink := s.moduleLink.ordering l }
  match s.moduleLink.sending, l with
  | none, ⟨c, .zero tag⟩ :: _ =>
    { t with
      channels := s.channels.set c
        { s.chan c with windows := (s.chan c).windows ++ [⟨tag, 20, .zeroOrder⟩] } }
  | _, _ => t

/-- The state after the notices of one event (R192, R193, R194). -/
def State.raised (s : State) (l : List NoticeKind) : State := { s with link := s.link.raising s.snapshot l }

/-! ### The parts of an event -/

/-- What an event, or a part of one, makes of a state: the state with both links as they stood, the orders that fall
due, and the notices it raises. -/
structure Effects where
  state : State
  orders : List Order
  notices : List NoticeKind
deriving DecidableEq, Repr

/-- Nothing falls due and nothing is raised. -/
def State.quiet (s : State) : Effects := ⟨s, [], []⟩

/-- One part of an event, then the next. -/
def Effects.andThen (e : Effects) (f : State → Effects) : Effects :=
  let x := f e.state
  ⟨x.state, e.orders ++ x.orders, e.notices ++ x.notices⟩

/-- The same for every member of a list, in list order. -/
def Effects.each (e : Effects) (l : List α) (f : α → State → Effects) : Effects :=
  l.foldl (fun e a => e.andThen (f a)) e

/-- The state after the orders of one event, those of different channels in increasing channel number and each
channel's in the order in which its rules gave them (R100). -/
def State.issued (s : State) (l : List Order) : State := s.sent (sortOrders l)

/-- The state after an event: its orders at the module link, its notices at the line link. -/
def Effects.ended (e : Effects) : State := (e.state.issued e.orders).raised e.notices

/-! ### What happens to a channel -/

/-- The orders to one channel. -/
def ordersTo (c : Chan) (l : List OrderBody) : List Order := l.map fun b => ⟨c, b⟩

/-- A lone Zero Order falls due on a READY channel whose status is DUE, with no attempt outstanding and its retry
wait stopped: it takes the tag, and the status is ATTEMPTING (R80, R101, R119; log 10). -/
def Channel.asking (ch : Channel) : Channel × List OrderBody :=
  if ch.state = .ready ∧ ch.zero = .due ∧ ch.retry = none ∧ ch.loneZero = false then
    ({ ch with tag := (ch.tag + 1) % 256, zero := .attempting, loneZero := true }, [.zero ch.tag])
  else (ch, [])

/-- READY, with no period and zero setpoints, and the lone Zero Order that then falls due (R61, R80, R93). -/
def Channel.readied (ch : Channel) : Channel × List OrderBody :=
  Channel.asking { ch with state := .ready, period := .idle, forward := 0, reverse := 0 }

/-- The period in flight stopped before its end: its Stop Order, and its report window open (R103, R116); as it
was where none is in flight. -/
def Channel.stopped (ch : Channel) : Channel × List OrderBody :=
  match ch.period with
  | .delivering p =>
    ({ ch with
      period := .idle
      windows := ch.windows ++ [⟨p.tag, 20, .period p.record (closeNote p true ch.stale) p.zeroRequest⟩] },
     [.stop p.tag])
  | _ => (ch, [])

/-- The period state and the setpoints at an entry into DORMANT or FAULTED (R61, R98, R118). -/
def Channel.blank (ch : Channel) : Channel :=
  { ch with
    contactorClosed := false
    forward := 0
    reverse := 0
    period := .idle
    index := 0
    zero := .none
    stale := false
    zeroTimer := none
    retry := none }

/-- DORMANT from a closed contactor: the period state cleared, the contactor rest started, and a Disarm Order
(R98, R112). -/
def Channel.retired (rest : Nat) (ch : Channel) : Channel × List OrderBody :=
  ({ ch.blank with state := .dormant, rest := some rest }, [.disarm])

/-- FAULTED (R118): a period in flight truncated (R116), the period state cleared, the missing-report count 0, the
timers stopped, and a Disarm Order where the contactor was closed. -/
def Channel.faulted (cause : FaultCause) (ch : Channel) : Channel × List OrderBody :=
  ({ ch.stopped.1.blank with state := .faulted cause, missing := 0, rest := none },
   ch.stopped.2 ++ if ch.contactorClosed then [.disarm] else [])

/-- The outcome of an attempt (R79, R80), `lone` that of a lone Zero Order; a status that is not ATTEMPTING stays as
it is. A READY channel that is DUE again with no wait running sends its next lone Zero Order. -/
def Channel.outcome (interval : Nat) (lone valid : Bool) (ch : Channel) : Channel × List OrderBody :=
  let ch := { ch with loneZero := ch.loneZero && !lone }
  if ch.zero ≠ .attempting then ch.asking
  else if valid then Channel.asking { ch with zero := .valid, zeroTimer := some interval, stale := false }
  else
    Channel.asking
      { ch with
        zero := .due
        stale := true
        retry := if lone && decide (ch.state = .ready) then some 1000 else ch.retry }

/-- What a latching DROP does to a channel of its scope that was not inhibited (R165, R73, R116): RUNNING or
DRAINING to READY it is READY, `k` its ramp index after a drain; DRAINING to DORMANT it is DORMANT. -/
def Channel.dropped (rest : Nat) (k : Int) (ch : Channel) : Channel × List OrderBody :=
  let (cut, stop) := ch.stopped
  match ch.state with
  | .running => (cut.readied.1, stop ++ cut.readied.2)
  | .draining .ready => ({ cut.readied.1 with index := k }, stop ++ cut.readied.2)
  | .draining .dormant => ((cut.retired rest).1, stop ++ (cut.retired rest).2)
  | _ => (ch, [])

/-- The governor of the run that a start occasion starts on a channel with the record `ch` (R62, R63). -/
def State.runStarts (s : State) (c : Chan) (ch : Channel) : Option Nat :=
  if ch.state = .ready ∧ (s.mode = .run ∨ s.mode = .hold) ∧ s.inhibited c = false ∧ ch.loneZero = false then
    s.governorRule c
  else none

/-- The record of a channel that a start occasion has looked at (R63, R71, R80): where a run starts, RUNNING in
ALIGN with zero setpoints, the ramp index 0, the retry wait stopped. -/
def State.looked (s : State) (c : Chan) (ch : Channel) : Channel :=
  match s.runStarts c ch with
  | some g =>
    { ch with state := .running, period := .align g, index := 0, retry := none, forward := 0, reverse := 0 }
  | none => ch

/-- The state after a start occasion of the channels in a list, in increasing order (R63, log 15): each run that
starts is an ALIGN-entry sample (R174). -/
def State.runsStarted (s : State) (l : List Chan) : State :=
  { s with
    channels := Vector.ofFn fun i : Fin 40 => if i ∈ l then s.looked i (s.chan i) else s.chan i
    monitor := ((l.filter fun c => (s.runStarts c (s.chan c)).isSome).foldl
      (fun t c => t.sample c .alignEntry) s).monitor }

/-- Channel `c` starts a period under the record `g` with this timing, its ramp or drain index then `index` where the
period is NORMAL (R64, R78, R94, R99, R100, R101): a zero request where the status is DUE, and a ZERO period where
neither rest is at least 2 ms; the Allocation Engine's record and setpoints; the tag counter's value; the in-flight
count of every contributor raised; a Period Order. -/
def State.begins (s : State) (c : Chan) (g : Nat) (timing : Timing) (index : Int) : Effects :=
  let ch := s.chan c
  let due := decide (ch.zero = .due)
  let kind : PeriodKind := if due = true ∧ timing.rest1 < 2 ∧ timing.rest2 < 2 then .zero else .normal
  let p := s.allocate c g timing kind
  ⟨{ s with
      track := s.track.map fun t =>
        if p.contributors.any fun q => q.entry = t.entry then { t with inFlight := t.inFlight + 1 } else t
      channels := s.channels.set c
        { ch with
          period := .delivering ⟨p, ch.tag, due, .fwd, timing.fwd⟩
          timing := timing
          forward := p.forward
          reverse := p.reverse
          tag := (ch.tag + 1) % 256
          zero := if due then .attempting else ch.zero
          index := if kind = .zero then ch.index else index } },
    [⟨c, .period ch.tag p.forward p.reverse timing due⟩], []⟩

/-- The state after channel `c` alone has started a period, its order at the module link. -/
def State.periodStarted (s : State) (c : Chan) (g : Nat) (timing : Timing) (index : Int) : State :=
  let e := s.begins c g timing index
  { e.state with moduleLink := s.moduleLink.ordering e.orders }

/-- The arbiter of a group may grant (R109): the line in RUN, HOLD or STANDBY, no channel of the group ARMING, the
time since its last grant none or at its arming spacing. -/
def State.mayGrant (s : State) (g : BusGroup) : Bool :=
  s.mode.active && (Chan.all.all fun d => decide (s.busGroup d ≠ some g) || !(s.chan d).state.isArming) &&
  (s.group g).sinceGrant.all fun t => decide (s.prof.spacing[g] ≤ t)

/-- The arbiter looks at its group (R109, R110): where it may grant, the oldest queued channel out of contactor rest
leaves the queue and is ARMING, its contactor closed by an Arm Order, and the time since the last grant is 0. -/
def State.arbitrated (s : State) (g : BusGroup) : Effects :=
  let q := s.group g
  match if s.mayGrant g then q.queue.find? fun c => (s.chan c).rest.isNone else none with
  | some c =>
    ⟨{ s with
        channels := s.channels.set c
          { s.chan c with
            state := .arming 2000
            contactorClosed := true
            missing := 0
            forward := 0
            reverse := 0 }
        groups := s.groups.set g ⟨q.queue.filter (· ≠ c), some 0⟩ }, [⟨c, .arm⟩], []⟩
  | none => s.quiet

/-- The arbiter of a channel's group looks. -/
def State.arbitratedFor (s : State) (c : Chan) : Effects :=
  match s.busGroup c with
  | some g => s.arbitrated g
  | none => s.quiet

/-- Channel `c`, until then with the record `ch`, becomes FAULTED (R118), and the end of an ARMING is an occasion of the
arbiter (R109); a channel already FAULTED takes no second fault. -/
def State.faultTaken (s : State) (c : Chan) (ch : Channel) (cause : FaultCause) : Effects :=
  if ch.state.isFaulted then State.quiet { s with channels := s.channels.set c ch }
  else
    let f := ch.faulted cause
    let t : State :=
      { s with
        channels := s.channels.set c f.1
        groups := s.groups.map fun q => { q with queue := q.queue.filter (· ≠ c) } }
    Effects.andThen ⟨t, ordersTo c f.2, [.channelFault]⟩ fun t =>
      if ch.state.isArming then t.arbitratedFor c else t.quiet

/-- A start occasion of the channels in a list, with the MONITOR notice that an ALIGN entry may raise (R63, R178). -/
def State.started (l : List Chan) (s : State) : Effects :=
  let t := s.runsStarted l
  ⟨t, [], monitorNotice s.monitor t.monitor⟩

/-- ArmChannels acts on a channel (R107, R75, R109). -/
def State.armed (c : Chan) (s : State) : Effects :=
  let ch := s.chan c
  match ch.state, s.busGroup c with
  | .dormant, some g =>
    if c ∈ s.allQueued then s.quiet
    else
      let q := s.group g
      State.arbitrated { s with groups := s.groups.set g { q with queue := q.queue ++ [c] } } g
  | .draining .dormant, _ =>
    State.quiet { s with channels := s.channels.set c { ch with state := .running, index := ch.index + 2 } }
  | _, _ => s.quiet

/-- DisarmChannels acts on a channel (R113, R111, R112, R72, R73). -/
def State.disarmed (c : Chan) (s : State) : Effects :=
  let ch := s.chan c
  let retires : Effects :=
    let x := ch.retired s.prof.contactorRest
    ⟨{ s with channels := s.channels.set c x.1 }, ordersTo c x.2, []⟩
  match ch.state, ch.period with
  | .dormant, _ =>
    State.quiet { s with groups := s.groups.map fun q => { q with queue := q.queue.filter (· ≠ c) } }
  | .arming _, _ => retires.andThen fun t => t.arbitratedFor c
  | .running, .delivering p =>
    State.quiet
      { s with
        channels := s.channels.set c
          { ch with
            state := .draining .dormant
            index := min ch.index (s.rampOf p.record.governor).length - 2 } }
  | .draining _, _ =>
    State.quiet { s with channels := s.channels.set c { ch with state := .draining .dormant } }
  | .faulted _, _ => s.quiet
  | .ready, _ | .running, _ => retires

/-! ### What happens to a record -/

/-- A record that is DEPARTING with nothing in flight leaves the track (R36, R37, R38, R39): its exit record joins the
exit list, at 16 in place of the head and with LOSS_BEFORE, an EXIT notice is raised, and EXIT_HIGH is set where the
count goes from 11 to 12, with LINE_STOP where the set was empty (R170). -/
def State.left (entry : Nat) (s : State) : Effects :=
  match s.find entry with
  | none => s.quiet
  | some r =>
    if r.departing ∧ r.inFlight = 0 then
      let x := s.exitRecord r
      let causes := if s.exits.length = 11 then { s.lineStop with exitHigh := true } else s.lineStop
      ⟨{ s with
          track := s.track.filter fun t => t.entry ≠ entry
          exits := if s.exits.length < 16 then s.exits ++ [x] else s.exits.tail ++ [{ x with lossBefore := true }]
          lineStop := causes }, [], .exit :: lineStopNotice s.lineStop causes⟩
    else s.quiet

/-- The governor rule is applied for a channel without a period in flight (R65, R66, R67): ALIGN towards the record it
finds, an ALIGN-entry sample (R174, R178); READY where it finds none, and the lone Zero Order that then falls due (R80). -/
def State.ruled (c : Chan) (s : State) : Effects :=
  match s.governorRule c with
  | some g =>
    let monitor := (s.sample c .alignEntry).monitor
    ⟨{ s with
        channels := s.channels.set c { s.chan c with period := .align g, forward := 0, reverse := 0 }
        monitor := monitor }, [], monitorNotice s.monitor monitor⟩
  | none =>
    let x := (s.chan c).readied
    ⟨{ s with channels := s.channels.set c x.1 }, ordersTo c x.2, []⟩

/-- A channel in ALIGN towards a record that is DEPARTING applies the governor rule at once (R67). -/
def State.reawaits (c : Chan) (s : State) : Effects :=
  match (s.chan c).period with
  | .align g => if (s.find g).any (·.departing) then s.ruled c else s.quiet
  | _ => s.quiet

/-- A period is accounted with a report, or without one (R127, R129, R130, R134, R137, R182): credited; the contributors
that are DEPARTING and then have nothing in flight leave, in the order of its list (R36); then it is sampled by the
monitor and counted by the anode counters, EXIT before MONITOR (log 14). -/
def State.accounted (p : PeriodRecord) (note : CloseNote) (report : Option PeriodReport) (s : State) : Effects :=
  let measured := report.filter fun _ => !note.stale
  let forward := match measured with
    | some r => r.averageForward * r.forwardMs
    | none => p.forward * note.elapsedForward
  let reverse := match measured with
    | some r => r.averageReverse * r.reverseMs
    | none => p.reverse * note.elapsedReverse
  let credited := s.creditAll p note measured.isNone (forward, reverse)
  (credited.quiet.each (p.contributors.map (·.entry)) State.left).andThen fun t =>
    let monitor := (t.sample p.channel (.accounting
      { estimated := measured.isNone
        kind := p.kind
        forward := p.forward
        clamped := p.clamped
        contributors := p.contributors.length
        totalArea := p.totalArea
        averageForward := (measured.map (·.averageForward)).getD 0
        peakVoltage := (measured.map (·.peakVoltage)).getD 0 })).monitor
    ⟨{ t with
        monitor := monitor
        anodes := t.anodes.set p.channel
          ⟨min 18446744073709551615 (t.anodes[p.channel].forward + forward),
            min 18446744073709551615 (t.anodes[p.channel].reverse + reverse)⟩ },
      [], monitorNotice t.monitor monitor⟩

/-! ### What happens at the eye and at an advance event -/

/-- An accepted rising edge (R20, R23, R24, R25): a record at the eye position, of the head of the staging queue or of
the fallback recipe and areas, and a start occasion of every READY channel; with 32 records TRACK_FULL alone. -/
def State.risen (s : State) : Effects :=
  if s.track.length < 32 then
    let clock (recipe : Option Nat) := (recipe.bind s.recipe).map fun r => PhaseClock.mk .fwd r.timing.fwd 0
    let (rest, record) := match s.staging with
      | e :: rest =>
        (rest, (⟨s.nextEntry, e.panelId, some e.recipe, e.announced, e.areaA, e.areaB, e.flipped, s.prof.eye, none,
          .entering, false, false, false, 0, clock (some e.recipe), .zero⟩ : TrackRecord))
      | [] =>
        ([], ⟨s.nextEntry, 0, s.prof.fallback, none, s.prof.fallbackAreaA, s.prof.fallbackAreaB, false, s.prof.eye,
          none, .entering, true, false, false, 0, clock s.prof.fallback, .zero⟩)
    State.started Chan.all
      { s with
        staging := rest
        track := s.track ++ [record]
        nextEntry := if s.nextEntry = 65535 then 1 else s.nextEntry + 1 }
  else
    let causes := { s.lineStop with trackFull := true }
    ⟨{ s with lineStop := causes }, [], .tracking :: lineStopNotice s.lineStop causes⟩

/-- An accepted falling edge measures the ENTERING record (R26). -/
def State.fallen (s : State) : Effects :=
  State.quiet
    { s with track := s.track.map fun r =>
        if r.state = .entering then
          { r with
            measured := some (r.position - s.prof.eye)
            lengthMismatch := r.lengthMismatch ||
              r.announced.any fun a =>
                decide (a + s.prof.tolerance < r.position - s.prof.eye) ||
                decide (r.position - s.prof.eye + s.prof.tolerance < a)
            state := .onLine }
        else r }

/-- The eye filter examines the eye, and delivers the edge it accepts (R12, R13). -/
def State.eyeSeen (s : State) : Effects :=
  if s.mode.active = true ∧ s.conveyor.backlash = 0 ∧
      (s.conveyor.debounce = none ∨ s.conveyor.debounce = some 3) ∧ s.pins.eye ≠ s.conveyor.accepted then
    let e : State := { s with conveyor := { s.conveyor with accepted := s.pins.eye, debounce := some 0 } }
    match s.pins.eye with
    | .high => e.risen
    | .low => e.fallen
  else s.quiet

/-- The eye-stuck judgement (R27): an ENTERING record more than 1 500 mm and the tolerance past the eye. -/
def State.stuckSeen (s : State) : Effects :=
  let stuck (r : TrackRecord) : Bool :=
    decide (r.state = .entering) && decide (s.prof.eye + 1500 + s.prof.tolerance < r.position)
  if s.track.any stuck then
    let causes := { s.lineStop with eyeStuck := true }
    ⟨{ s with
        track := s.track.map fun r => if stuck r then { r with state := .onLine, provisionalLength := true } else r
        lineStop := causes }, [], .tracking :: lineStopNotice s.lineStop causes⟩
  else s.quiet

/-- The departures of an advance event (R28, R33): a record whose trailing edge has reached the line's end, or whose
leading edge stands 1 500 mm past it, departs with cause PASSED; the channels that await one apply the governor rule
(R67); those with nothing in flight leave, oldest first. -/
def State.departed (s : State) : Effects :=
  let out (r : TrackRecord) : Bool :=
    !r.departing && (decide (s.prof.lineLength + s.effective r ≤ r.position) ||
      decide (s.prof.lineLength + 1500 ≤ r.position))
  let t : State :=
    { s with track := s.track.map fun r =>
        if out r then
          { r with
            state := .departing .passed
            provisionalLength := r.provisionalLength || decide (r.state = .entering) }
        else r }
  (t.quiet.each Chan.all State.reawaits).each ((s.track.filter out).map (·.entry)) State.left

/-- The stall timer restarts and STALL is removed (R14, R15, R155); where it was the last hold cause the line returns to
RUN, with a LINE_MODE notice (R158) and the ramp index of every RUNNING channel at 0 (R71). -/
def State.stallCleared (s : State) : Effects :=
  let t : State :=
    { s with
      conveyor := { s.conveyor with stall := .running s.prof.stallTime }
      holdCauses := { s.holdCauses with stall := false } }
  if s.holdCauses = ⟨true, false, false⟩ then
    ⟨{ t with
        mode := .run
        channels := s.channels.map fun ch => if ch.state = .running then { ch with index := 0 } else ch },
      [], [.lineMode]⟩
  else t.quiet

/-- The debounce travel grows up to 3, and the eye is examined where it reaches it (R12, R13). -/
def State.travelled (s : State) : Effects :=
  let t : State :=
    { s with conveyor := { s.conveyor with
      debounce := s.conveyor.debounce.map fun n => if n < 3 then n + 1 else n } }
  if s.conveyor.debounce = some 2 then t.eyeSeen else t.quiet

/-- An advance event (R11), in the order of log 17: every record moves (R29), the eye-stuck judgement, the departures, a
start occasion of every READY channel (R63), the stall timer and STALL, the debounce travel. -/
def State.advanced (s : State) : Effects :=
  let moved : State :=
    { s with
      track := moveTrack (s.prof.lineLength + 1500) none s.track
      conveyor := { s.conveyor with remainder := 0 } }
  (((moved.stuckSeen.andThen State.departed).andThen (State.started Chan.all)).andThen
    State.stallCleared).andThen State.travelled

/-! ### What happens at an interlock -/

/-- `t` is what the latching of input `i` makes of `s`, and `l` the notices it raises, which `t` does not hold yet
(R162). The latch is set; DROP acts on the channels of its scope that were not inhibited, with the drain indexes
discarded (R164, R165, R73; the ramp indexes then left are free, log 7); HOLD adds INTERLOCK in RUN and HOLD, and in RUN the line enters HOLD, a
start occasion of every READY channel (R151, R157); STOP adds INTERLOCK to the line-stop cause set (R168). The
notices stand in the order of log 14. -/
def State.Latches (s : State) (i : Input) (t : State) (l : List NoticeKind) : Prop :=
  let k := (s.interlock i).config
  let hit (c : Chan) : Bool := k.drop && k.inScope c && !s.inhibited c
  let holds := k.hold && decide (s.mode = .run)
  ∃ index : Chan → Fin 17,
    let dropped (c : Chan) : Channel × List OrderBody :=
      if hit c then (s.chan c).dropped s.prof.contactorRest (index c).val else (s.chan c, [])
    let u : State :=
      { s with
        interlocks := s.interlocks.set i { s.interlock i with latched := true }
        mode := if holds then .hold else s.mode
        holdCauses := { s.holdCauses with
          interlock := s.holdCauses.interlock ||
            (k.hold && (decide (s.mode = .run) || decide (s.mode = .hold))) }
        lineStop := { s.lineStop with interlock := s.lineStop.interlock || k.stop }
        channels := Vector.ofFn fun c : Fin 40 => (dropped c).1
        freeCount := s.freeCount +
          (Chan.all.filter fun c => hit c && decide ((s.chan c).state = .draining .ready)).length }
    let v := if holds then u.runsStarted Chan.all else u
    t = v.sent (Chan.all.flatMap fun c => ordersTo c (dropped c).2) ∧
    l = .interlock :: (monitorNotice s.monitor v.monitor ++ (if holds then [.lineMode] else []) ++
      lineStopNotice s.lineStop v.lineStop)

/-- The input is latched alone among those with an action (R157, R168). -/
def State.onlyLatch (s : State) (i : Input) (action : InterlockConfig → Bool) : Bool :=
  action (s.interlock i).config &&
  Input.all.all fun j => decide (j = i) || !((s.interlock j).latched && action (s.interlock j).config)

/-- The state after the latch of input `i` has been cleared, without its notices: the channels that were inhibited and
are no longer, where READY, have the ramp index 0 and a start occasion (R166); with the last HOLD latch INTERLOCK
turns into COMMAND (R157); with the last STOP latch INTERLOCK leaves the line-stop cause set (R168). -/
def State.unlatched (s : State) (i : Input) : State :=
  let clear : State := { s with interlocks := s.interlocks.set i { s.interlock i with latched := false } }
  let freed := Chan.all.filter fun c =>
    s.inhibited c && !clear.inhibited c && decide ((s.chan c).state = .ready)
  { clear with
    channels := Vector.ofFn fun c : Fin 40 => if c ∈ freed then { s.chan c with index := 0 } else s.chan c
    holdCauses := if s.onlyLatch i (·.hold) && s.holdCauses.interlock then
      { s.holdCauses with interlock := false, command := true } else s.holdCauses
    lineStop := if s.onlyLatch i (·.stop) then { s.lineStop with interlock := false } else s.lineStop
    }.runsStarted freed

/-! ### Requests, answered -/

/-- The link after the request `r` has been taken and answered. -/
def State.answer (s : State) (r : Request) (code : ResultCode) (payload : ReplyPayload) : LineLink :=
  s.link.answered r.frame code payload

/-- The state after the request `r` has been taken with code OK and this payload, its owner having raised these
notices: the reply goes before them (R191, R192, R194). -/
def State.replied (s : State) (r : Request) (payload : ReplyPayload) (l : List NoticeKind) : State :=
  { s with link :=
      { s.answer r .ok payload with notices := l.foldl (fun p k => joinNotices k p) s.link.notices } }

/-- The state after the request `r` has been taken with code OK and had these effects. -/
def Effects.answered (e : Effects) (r : Request) : State :=
  (e.state.issued e.orders).replied r .nothing e.notices

/-- The request that a request row is the arrival of, `none` for the other rows. -/
def requestOf : Instr → Option Request
  | .setProfile p => some (.setProfile p)
  | .setSegment side index record => some (.setSegment (some (side, index, record)))
  | .setLimits c f r => some (.setLimits c f r)
  | .setRecipe n r => some (.setRecipe n r)
  | .clearRecipe n => some (.clearRecipe n)
  | .setRamp t steps => some (.setRamp t steps)
  | .setModeRun => some (.setMode (some .run))
  | .setModeHold => some (.setMode (some .hold))
  | .setModeStandby => some (.setMode (some .standby))
  | .setModeOffline => some (.setMode (some .offline))
  | .restart => some .restart
  | .armChannels l => some (.armChannels l)
  | .disarmChannels l => some (.disarmChannels l)
  | .clearFault l => some (.clearFault l)
  | .announcePanel e => some (.announcePanel (some e))
  | .withdrawPanel id => some (.withdrawPanel id)
  | .removePanel n => some (.removePanel (some n))
  | .queryPanel n => some (.queryPanel (some n))
  | .collectExit => some .collectExit
  | .setInterlock i k => some (.setInterlock i (some k))
  | .ackInterlock i => some (.ackInterlock i)
  | .clearLineStop => some .clearLineStop
  | .setMonitor n p => some (.setMonitor n (some p))
  | .freeze => some (.controlMonitor (some .freeze))
  | .unfreeze => some (.controlMonitor (some .unfreeze))
  | .resetCounts => some (.controlMonitor (some .resetCounts))
  | .clearOverflow => some (.controlMonitor (some .clearOverflow))
  | .readMonitor => some .readMonitor
  | .readAnode c => some (.readAnode c)
  | .setAnode c f r => some (.setAnode c f r)
  | .queryChannel c k => some (.queryChannel c k)
  | .queryLine => some .queryLine
  | .powerOn _ | .resetLineActive | .resetLineRelease _ | .restartTakesEffect _ | .bootEnd
  | .presenceReply _ | .forwardPulse | .reversePulse | .eyeChange _ | .stallTimerExpiry
  | .phaseIntervalEnd _ | .phaseBoundary _ | .channelIntervalEnd _ | .periodEnd _
  | .zeroTimerExpiry _ | .loneZeroRetryExpiry _ | .periodReport _ _ | .reportWindowClose _
  | .armReport _ _ | .armingTimeout _ | .contactorRestEnd _ | .armingSpacingReached _
  | .interlockInputChange _ _ | .frameReceived _ _ | .interByteGap | .framingError
  | .transmitComplete | .badKind _ | .receivedByte _ | .moduleOrderSent | .holdDwellMillisecond => none

/-! ### What the line link carries (R198, R199) -/

/-- The bytes of fields, each a width in bytes and a value: most significant byte first, a value below 0 in two's
complement (R198). -/
def spelled (l : List (Nat × Int)) : List Byte :=
  l.flatMap fun x => (List.range x.1).reverse.map fun k => BitVec.ofInt 8 (x.2 / 256 ^ k)

/-- A field: its width in bytes and its value. -/
def item (width : Nat) (v : Int) : Nat × Int := (width, v)

/-- A field of values set or clear: 1 for set and 0 for clear (R198). -/
def setOrClear (b : Bool) : Nat × Int := item 1 (if b then 1 else 0)

/-- A set field: one bit per member, from the least significant bit in the order of the list (R198). -/
def members (l : List Bool) : Int := (l.zipIdx.map fun x => if x.1 then 2 ^ x.2 else 0).sum

/-- A field that may be absent and has 0 in its range: one byte, 1 where a value is present, before it (R198). -/
def optional (width : Nat) (v : Option Int) : List (Nat × Int) := [setOrClear v.isSome, item width (v.getD 0)]

/-- The four intervals of a timing (R42, R61). -/
def Timing.items (t : Timing) : List (Nat × Int) := [item 2 t.fwd, item 1 t.rest1, item 1 t.rev, item 1 t.rest2]

/-- The profile's fields, in the order of R2. -/
def Profile.items (p : Profile) : List (Nat × Int) :=
  [item 2 p.lineLength, item 2 p.eye, item 1 p.pulsesPerMm, item 2 p.stallTime, item 2 p.nominalLength,
    item 1 p.tolerance, item 1 (p.fallback.getD 255), item 2 p.fallbackAreaA, item 2 p.fallbackAreaB,
    item 2 p.zeroInterval, item 2 p.spacing[0], item 2 p.spacing[1], item 2 p.spacing[2], item 2 p.spacing[3],
    item 2 p.contactorRest]

/-- A segment record or its absence, in the order of R5. -/
def segmentItems (r : Option Segment) : List (Nat × Int) :=
  match r with
  | some g =>
    [item 1 1, item 2 g.start, item 2 g.length, item 2 g.forwardLimit, item 2 g.reverseLimit, item 1 g.group]
  | none => [item 1 0, item 2 0, item 2 0, item 2 0, item 2 0, item 1 0]

/-- A staging entry: the AnnouncePanel payload of R199. -/
def StagingEntry.items (e : StagingEntry) : List (Nat × Int) :=
  [item 4 e.panelId, item 1 e.recipe, item 2 (e.announced.getD 0), item 2 e.areaA, item 2 e.areaB,
    setOrClear e.flipped]

/-- The configuration record of an input, in the order of R160. -/
def InterlockConfig.items (k : InterlockConfig) : List (Nat × Int) :=
  [setOrClear k.enabled, item 1 ([Level.high, .low].idxOf k.activeLevel),
    item 1 ([Sense.edge, .level].idxOf k.sense), item 1 (members [k.drop, k.hold, k.stop]),
    item 1 (members [k.sideA, k.sideB]), item 1 k.first, item 1 k.last]

/-- A counter's program, in the order of R173; the channel of a selector other than ONE is sent as 0. -/
def MonitorProgram.items (p : MonitorProgram) : List (Nat × Int) :=
  let selector : Int × Int := match p.selector with
    | .all => (0, 0)
    | .sideA => (1, 0)
    | .sideB => (2, 0)
    | .one c => (3, c)
  [item 1 ([MonitorEvent.periods, .clamped, .deviation, .voltage, .coverage, .aligns, .zeros, .estimates, .band].idxOf
      p.event), item 1 selector.1, item 1 selector.2, item 2 p.threshold, setOrClear p.invert, setOrClear p.edge,
    setOrClear p.notify, item 2 p.bandLow, item 2 p.bandHigh]

/-- A panel named by id or by entry number (R198). -/
def PanelName.items : PanelName → List (Nat × Int)
  | .byId n => [item 1 0, item 4 n]
  | .byEntry n => [item 1 1, item 4 n]

/-- A list of one-byte items behind its count (R190). -/
def counted (l : List Nat) : List (Nat × Int) := item 1 l.length :: l.map fun n => item 1 n

/-- The kind and the payload of a request row's frame (R199; log 5), `none` for the rows that are no requests. -/
def requestItems : Instr → Option (Nat × List (Nat × Int))
  | .setProfile p => some (0x01, p.items)
  | .setSegment side index record =>
    some (0x02, [item 1 ([Side.a, .b].idxOf side), item 1 index] ++ segmentItems record)
  | .setLimits c f r => some (0x03, [item 1 c, item 2 f, item 2 r])
  | .setRecipe n r => some (0x04, item 1 n :: (r.timing.items ++
      [item 1 r.rampTable, item 1 r.holdFraction, item 4 (r.target.getD 0), item 1 r.tolerance,
        item 1 r.stages.length] ++
      r.stages.flatMap fun st => [item 2 st.start, item 2 st.forwardDensity, item 2 st.reverseDensity]))
  | .clearRecipe n => some (0x05, [item 1 n])
  | .setRamp t steps => some (0x06, item 1 t :: counted steps)
  | .setModeOffline => some (0x07, [item 1 0])
  | .setModeRun => some (0x07, [item 1 1])
  | .setModeHold => some (0x07, [item 1 2])
  | .setModeStandby => some (0x07, [item 1 3])
  | .restart => some (0x08, [])
  | .armChannels l => some (0x09, counted l)
  | .disarmChannels l => some (0x0A, counted l)
  | .clearFault l => some (0x0B, counted l)
  | .announcePanel e => some (0x0C, e.items)
  | .withdrawPanel id => some (0x0D, [item 4 id])
  | .removePanel n => some (0x0E, n.items)
  | .queryPanel n => some (0x0F, n.items)
  | .collectExit => some (0x10, [])
  | .setInterlock i k => some (0x11, item 1 i :: k.items)
  | .ackInterlock i => some (0x12, [item 1 i])
  | .clearLineStop => some (0x13, [])
  | .setMonitor n p => some (0x14, item 1 n :: p.items)
  | .freeze => some (0x15, [item 1 0])
  | .unfreeze => some (0x15, [item 1 1])
  | .resetCounts => some (0x15, [item 1 2])
  | .clearOverflow => some (0x15, [item 1 3])
  | .readMonitor => some (0x16, [])
  | .readAnode c => some (0x17, [item 1 c])
  | .setAnode c f r => some (0x18, [item 1 c, item 8 f, item 8 r])
  | .queryChannel c k => some (0x19, [item 1 c, item 1 k])
  | .queryLine => some (0x1A, [])
  | .powerOn _ | .resetLineActive | .resetLineRelease _ | .restartTakesEffect _ | .bootEnd
  | .presenceReply _ | .forwardPulse | .reversePulse | .eyeChange _ | .stallTimerExpiry
  | .phaseIntervalEnd _ | .phaseBoundary _ | .channelIntervalEnd _ | .periodEnd _
  | .zeroTimerExpiry _ | .loneZeroRetryExpiry _ | .periodReport _ _ | .reportWindowClose _
  | .armReport _ _ | .armingTimeout _ | .contactorRestEnd _ | .armingSpacingReached _
  | .interlockInputChange _ _ | .frameReceived _ _ | .interByteGap | .framingError
  | .transmitComplete | .badKind _ | .receivedByte _ | .moduleOrderSent | .holdDwellMillisecond => none

/-- The length of the payload in a kind's layout, for a list by the list's own count (R190), `none` where the kind byte
is no request kind (R199). -/
def layoutLength (kind : Byte) (payload : List Byte) : Option Nat :=
  let count (place : Nat) : Nat := (payload[place]?.map (·.toNat)).getD 0
  match kind.toNat with
  | 0x01 => some 27
  | 0x02 | 0x0C => some 12
  | 0x03 | 0x0E | 0x0F => some 5
  | 0x04 => some (14 + 6 * count 13)
  | 0x06 => some (2 + count 1)
  | 0x09 | 0x0A | 0x0B => some (1 + count 0)
  | 0x05 | 0x07 | 0x12 | 0x15 | 0x17 => some 1
  | 0x0D => some 4
  | 0x08 | 0x10 | 0x13 | 0x16 | 0x1A => some 0
  | 0x11 => some 8
  | 0x14 => some 13
  | 0x18 => some 17
  | 0x19 => some 2
  | _ => none

/-- The modes in the order of R143, which R193 repeats. -/
def LineMode.place (m : LineMode) : Int := [LineMode.boot, .offline, .run, .hold, .standby].idxOf m

/-- The hold-cause set in the order of R143. -/
def HoldCauses.members (h : HoldCauses) : Int := Machine.members [h.stall, h.command, h.interlock]

/-- The line-stop cause set in the order of R193. -/
def LineStopCauses.members (l : LineStopCauses) : Int :=
  Machine.members [l.trackFull, l.eyeStuck, l.reverseLimit, l.exitHigh, l.interlock]

/-- The result codes of R191. -/
def ResultCode.number (code : ResultCode) : Int :=
  [ResultCode.ok, .badLength, .badKind, .badValue, .wrongMode, .notConfigured, .inUse, .duplicateId, .notFound, .full,
    .empty, .stillActive, .channelState, .trackNotEmpty, .channelsArmed, .booting].idxOf code

/-- The exit record's layout (R199). -/
def ExitRecord.items (x : ExitRecord) : List (Nat × Int) :=
  let side (e : ExitSide) : List (Nat × Int) :=
    [item 6 e.forward, item 6 e.reverse, item 8 e.net, item 4 e.density,
      item 1 ([Verdict.under, .within, .over, .noTarget, .noArea].idxOf e.verdict)]
  [item 4 x.panelId, item 2 x.entry, item 1 (x.recipe.getD 255), item 2 x.effectiveLength,
    item 2 (members [x.unannounced, x.lengthMismatch, x.provisionalLength, x.estimatedA, x.estimatedB, x.interrupted,
      x.lossBefore]), item 1 ([DepartureCause.passed, .removed].idxOf x.cause)] ++
  side x.sideA ++ side x.sideB ++ [item 4 x.holdDwell]

/-- What QueryPanel reports, in the order of R40, the record's fields in those of R19 and R126 (log 6). -/
def PanelView.items : PanelView → List (Nat × Int)
  | .staged place e => [item 1 0, item 1 place] ++ e.items
  | .track r effective =>
    let (state, cause) : Int × Option Int := match r.state with
      | .entering => (0, none)
      | .onLine => (1, none)
      | .departing .passed => (2, some 0)
      | .departing .removed => (2, some 1)
    [item 1 1, item 2 r.entry, item 4 r.panelId, item 1 (r.recipe.getD 255), item 1 state] ++ optional 1 cause ++
    [item 2 r.position, item 2 (r.measured.getD 0), item 2 effective,
      item 1 (members [r.unannounced, r.lengthMismatch, r.provisionalLength]),
      item 1 (members [r.account.estimatedA, r.account.estimatedB, r.account.interrupted]), item 2 r.inFlight,
      item 6 r.account.forwardA, item 6 r.account.reverseA, item 6 r.account.forwardB, item 6 r.account.reverseB,
      item 4 r.account.holdDwell]

/-- What QueryLine reports, in the order of R195 (log 6). -/
def LineView.items (v : LineView) : List (Nat × Int) :=
  [item 1 v.mode.place, item 1 v.holdCauses.members] ++ optional 2 (v.bootTimer.map Int.ofNat) ++
  (match v.profile with
   | some p => item 1 1 :: p.items
   | none => [item 1 0]) ++
  [item 4 v.backlash, setOrClear v.stallExpired, item 1 v.staged, item 1 v.tracked, item 1 v.exits,
    item 1 v.faulted] ++
  (v.recipes.flatMap fun r => [setOrClear r.1, setOrClear r.2]) ++ v.ramps.flatMap counted ++
  (v.interlocks.flatMap fun x =>
    x.config.items ++ [setOrClear x.latched, item 1 ([Level.high, .low].idxOf x.level)]) ++
  [item 1 v.lineStop.members]

/-- The period state of a channel, in the order of R61 (log 6): outside a period in flight the interval and its time are
sent as 0, marked absent; the timing in force is sent as it is held (log 34). -/
def ChannelView.periodItems (v : ChannelView) : List (Nat × Int) :=
  let (kind, governor, flight) : Int × Nat × Option InFlight := match v.period with
    | .idle => (0, 0, none)
    | .align g => (1, g, none)
    | .delivering p => (match p.record.kind with | .normal => 2 | .zero => 3, p.record.governor, some p)
  let (ramp, drain, destination) : Option Int × Option Int × Option Int := match v.state with
    | .ready | .running => (some v.index.toNat, none, none)
    | .draining .ready => (none, some v.index, some 0)
    | .draining .dormant => (none, some v.index, some 1)
    | .dormant | .arming _ | .faulted _ => (none, none, none)
  [item 1 kind, item 2 governor] ++
  optional 1 (flight.map fun p => ([Interval.fwd, .rest1, .rev, .rest2].idxOf p.interval : Int)) ++
  optional 2 (flight.map fun p => (p.remaining : Int)) ++
  v.timing.items ++ optional 1 ramp ++ optional 1 drain ++ optional 1 destination ++
  [item 1 ([ZeroStatus.none, .valid, .due, .attempting].idxOf v.zero), setOrClear v.stale] ++
  optional 4 (v.zeroTimer.map Int.ofNat) ++ optional 2 (v.retry.map Int.ofNat)

/-- The period record of a period in flight, in the order of R97 (log 6), with the number of its contributors. -/
def PeriodRecord.items (count : Nat) (r : PeriodRecord) : List (Nat × Int) :=
  [item 2 r.governor, item 1 ([PeriodKind.normal, .zero].idxOf r.kind), item 1 (r.percentage.getD 0),
    setOrClear r.holdApplied, item 1 count] ++
  (r.contributors.flatMap fun p =>
    [item 2 p.entry, item 2 p.area, item 4 p.forwardWeight, item 4 p.reverseWeight]) ++
  [item 4 r.forwardSum, item 4 r.reverseSum, item 4 r.totalArea, item 2 r.forward, item 2 r.reverse,
    setOrClear r.clamped]

/-- What QueryChannel reports, in the order of R124 (log 6). -/
def ChannelView.items (v : ChannelView) : List (Nat × Int) :=
  let (state, cause, code, timer) : Int × Option Int × Nat × Option Int := match v.state with
    | .dormant => (0, none, 0, none)
    | .arming t => (1, none, 0, some t)
    | .ready => (2, none, 0, none)
    | .running => (3, none, 0, none)
    | .draining _ => (4, none, 0, none)
    | .faulted (.moduleFault n) => (5, some 0, n, none)
    | .faulted .moduleSilent => (5, some 1, 0, none)
    | .faulted .armTimeout => (5, some 2, 0, none)
    | .faulted .moduleAbsent => (5, some 3, 0, none)
  let clock : PhaseClock := v.clock.getD ⟨.fwd, 0, 0⟩
  (item 1 state :: optional 1 cause) ++
  [item 1 code, setOrClear v.contactorClosed, item 1 v.missing, item 1 (v.queuePlace.getD 0)] ++
  optional 2 timer ++ optional 2 (v.rest.map Int.ofNat) ++ optional 4 (v.sinceGrant.map Int.ofNat) ++
  [setOrClear v.inhibited, item 2 v.forward, item 2 v.reverse] ++ optional 2 v.lastZero ++ segmentItems v.segment ++
  v.periodItems ++
  [setOrClear v.clock.isSome, item 1 ([Interval.fwd, .rest1, .rev, .rest2].idxOf clock.interval),
    item 2 clock.remaining, item 4 clock.periods] ++
  (match v.period with
   | .delivering p => item 1 1 :: p.record.items v.contributors
   | .idle | .align _ => [item 1 0]) ++
  [item 1 v.windows]

/-- The result payload of a reply (R191). -/
def ReplyPayload.items : ReplyPayload → List (Nat × Int)
  | .nothing => []
  | .failing c => [item 1 (c.getD 255)]
  | .mode m causes => [item 1 m.place, item 1 causes.members]
  | .lineStop causes => [item 1 causes.members]
  | .exit x => x.items
  | .panel v => v.items
  | .channel v => v.items
  | .line v => v.items
  | .monitor frozen l =>
    setOrClear frozen :: l.flatMap fun k => k.program.items ++ [item 4 k.count, setOrClear k.overflow]
  | .anode p => [item 8 p.forward, item 8 p.reverse]

/-- The state after a reset that keeps the configuration and the anode counters (R145, R146), BOOT begun
at a rate: `State.reset` but for what is kept. The interlock latches, the monitor's results and its
freeze flag are cleared (R160, R173). -/
def State.resetKeeping (s : State) (rate : BitRate) : State :=
  { State.reset with
    profile := s.profile
    segments := s.segments
    recipes := s.recipes
    ramps := s.ramps
    interlocks := s.interlocks.map fun x => ⟨x.config, false, .low⟩
    monitor := ⟨s.monitor.counters.map fun k => .cleared k.program, false⟩
    anodes := s.anodes
    link := .afterReset rate
    freeCount := s.freeCount
    pending := s.pending }

/-- The bytes, received one after another. -/
def receiveAll (l : List Byte) (s : State) : Host.Outcome State Fault Refusal :=
  match l with
  | [] => .next s
  | b :: rest =>
    match exec (.receivedByte b) s with
    | .next t => receiveAll rest t
    | o => o

/-- The channel's record with a new one in its place. -/
def State.withChan (s : State) (c : Chan) (ch : Channel) : Vector Channel 40 := s.channels.set c ch

end Sys2Proof.Machine
end

