-- ==== Sys2Proof/Certificates/Slice0/Obligations.lean ====
section
/-! DEFINITION. The statements for the provers. Each names in its docstring the rules of spec/ it rests on.
The form most of them take: from a settled state, the command's next state is the old one with these
fields changed, and no other. -/

open Sys2Proof Sys2Proof.Machine

/-! ### The step -/

/-- A step takes the command at the front of the queue and runs it on the state with the queue's rest. -/
def Obligations.StepTakesFront : Prop :=
  ∀ (c : Instr) (s : State), step { s with pending := c :: s.pending } = exec c s

/-- On an empty queue a millisecond passes where nothing stands due; else one of the events that stand due
happens, a free value saying which where several do. The model's choice: logs 2 and 3. In a millisecond every timer that
runs counts down by one: the boot timer (R143), the stall timer (R14), the phase clocks of the records that are not
DEPARTING (R59, R60), the channel intervals (R64), the zero timers and the retry waits (R76, R80), the report windows
(R103), the arming timers (R110) and the contactor rests (R112); the groups' times since the last grant and the gap within
a frame count up (R109, R188), and in HOLD the hold dwell grows (R135; log 27). An event stands due where its timer is
at 0: BOOT's end, the stall timer's expiry, a phase clock's interval end or boundary, a channel interval's or period's
end, the closing of a channel's oldest window (log 19), a zero timer's and a retry wait's expiry, an arming timeout, a
contactor rest's end; a gap of more than 5 ms; and the arbiter's spacing where a group may grant a queued channel out of
contactor rest. -/
def Obligations.StepOnEmptyQueue : Prop :=
  (∀ s : State, s.pending = [] →
    (s.due = [] → step s = .next s.millisecond) ∧
    (∀ c, s.due = [c] → step s = exec c s) ∧
    (1 < s.due.length → ∃ c ∈ s.due, step s = exec c { s with freeCount := s.freeCount + 1 })) ∧
  (∀ s : State, s.millisecond =
    { s with
      bootTimer := s.bootTimer.map fun n => n - 1
      conveyor := { s.conveyor with
        stall := match s.conveyor.stall with
          | .running n => .running (n - 1)
          | .stopped => .stopped
          | .expired => .expired }
      track := s.track.map fun r =>
        { r with
          clock := if r.departing then r.clock else r.clock.map fun k => { k with remaining := k.remaining - 1 }
          account := { r.account with
            holdDwell := if s.mode = .hold then min 4294967295 (r.account.holdDwell + 1)
              else r.account.holdDwell } }
      channels := s.channels.map fun ch =>
        { ch with
          state := match ch.state with
            | .arming n => .arming (n - 1)
            | other => other
          rest := ch.rest.map fun n => n - 1
          windows := ch.windows.map fun w => { w with remaining := w.remaining - 1 }
          period := match ch.period with
            | .delivering p => .delivering { p with remaining := p.remaining - 1 }
            | other => other
          zeroTimer := ch.zeroTimer.map fun n => n - 1
          retry := ch.retry.map fun n => n - 1 }
      groups := s.groups.map fun q => { q with sinceGrant := q.sinceGrant.map fun n => n + 1 }
      link := { s.link with gap := if s.link.receiver = .hunt then s.link.gap else s.link.gap + 1 } }) ∧
  ∀ (s : State) (e : Instr), e ∈ s.due ↔
    e = .bootEnd ∧ s.bootTimer = some 0 ∨
    e = .stallTimerExpiry ∧ s.conveyor.stall = .running 0 ∨
    (∃ r ∈ s.track, ∃ k rec, r.departing = false ∧ r.clock = some k ∧ s.recipeOf r = some rec ∧ k.remaining = 0 ∧
      (e = .phaseIntervalEnd r.entry ∧ rec.timing.next? k.interval ≠ none ∨
        e = .phaseBoundary r.entry ∧ rec.timing.next? k.interval = none)) ∨
    (∃ c p, (s.chan c).period = .delivering p ∧ p.remaining = 0 ∧
      (e = .channelIntervalEnd c ∧ (s.chan c).timing.next? p.interval ≠ none ∨
        e = .periodEnd c ∧ (s.chan c).timing.next? p.interval = none)) ∨
    (∃ c w rest, (s.chan c).windows = w :: rest ∧ w.remaining = 0 ∧ e = .reportWindowClose c) ∨
    (∃ c, (s.chan c).zeroTimer = some 0 ∧ e = .zeroTimerExpiry c) ∨
    (∃ c, (s.chan c).retry = some 0 ∧ e = .loneZeroRetryExpiry c) ∨
    (∃ c, (s.chan c).state = .arming 0 ∧ e = .armingTimeout c) ∨
    (∃ c, (s.chan c).rest = some 0 ∧ e = .contactorRestEnd c) ∨
    (∃ g, s.mayGrant g = true ∧ (∃ c ∈ (s.group g).queue, (s.chan c).rest = none) ∧
      e = .armingSpacingReached g) ∨
    e = .interByteGap ∧ 5 < s.link.gap

/-- The state after power-on meets every invariant of the model, and its fields are those that each chapter gives after
power-on (R2, R5, R16, R41, R42, R53, R57, R83, R125, R143, R160, R172, R173, R182, R185, R196), with a Disarm Order and
a Presence Poll to each module (R121), the first being sent. Where the spec leaves a value of that state open, logs 11,
12, 22 and 34 give it: the levels LOW, the strap, BOOT begun, and each channel's timing in force four zeros. -/
def Obligations.ResetMeetsInvariants : Prop :=
  (State.reset.linkInv = true ∧ State.reset.holdInv = true ∧ State.reset.panelInv = true ∧
    State.reset.channelInv = true ∧ State.reset.conveyorInv = true ∧ State.reset.trackInv = true) ∧
  let s := State.reset
  s.mode = .boot ∧ s.holdCauses = ⟨false, false, false⟩ ∧ s.bootTimer = some 500 ∧
  s.profile = none ∧ (∀ c, s.segment c = none) ∧ (∀ n, s.recipe n = none) ∧
  s.ramps = #v[[100], [25, 50, 75, 100], [20, 40, 60, 80, 100], [10, 20, 30, 40, 50, 60, 70, 80, 90, 100]] ∧
  s.conveyor = ⟨0, 0, .low, none, .stopped⟩ ∧
  s.staging = [] ∧ s.track = [] ∧ s.exits = [] ∧ s.nextEntry = 1 ∧
  (∀ c, s.chan c =
    { state := .dormant, contactorClosed := false, missing := 0, forward := 0, reverse := 0, tag := 0, rest := none
      windows := [], lastZero := none, period := .idle, timing := ⟨0, 0, 0, 0⟩, index := 0, zero := .none
      stale := false, zeroTimer := none, retry := none, loneZero := false, present := false }) ∧
  (∀ g, s.group g = ⟨[], none⟩) ∧
  (∀ i, s.interlock i = ⟨⟨false, .high, .edge, false, false, false, false, false, 0, 0⟩, false, .low⟩) ∧
  s.lineStop = ⟨false, false, false, false, false⟩ ∧ s.monitor.frozen = false ∧
  (∀ k : Fin 8, s.monitor.counters[k] =
    ⟨⟨.periods, .all, 0, false, false, false, 0, 0⟩, 0, false, .replicate 40 false⟩) ∧
  (∀ c : Chan, s.anodes[c] = ⟨0, 0⟩) ∧
  s.link = ⟨.hunt, 0, none, none, [], .idle, .low115200⟩ ∧
  s.moduleLink.sending.toList ++ s.moduleLink.waiting =
    Chan.all.flatMap (fun c => [⟨c, .disarm⟩, ⟨c, .presencePoll⟩]) ∧ s.moduleLink.sending.isSome = true ∧
  s.moduleLink.outbox = [] ∧ s.pins = ⟨.low, .replicate 8 .low, .low115200, false⟩ ∧ s.pending = []

/-! ### Resets and BOOT -/

/-- A power-on reset leaves the state after power-on, whatever stood before (R144): only the input levels,
the strap as read, and the model's own two fields remain. That the Interlock Unit's levels stand LOW until the end of
BOOT is log 11, and that each channel's timing in force is four zeros log 34. While the reset line is held BOOT does not
begin (R145): that its timer stands stopped meanwhile is log 13, and that the line link keeps the bit rate from before
the reset until BOOT reads the strap (R186) is log 38. -/
def Obligations.PowerOnResets : Prop :=
  ∀ (s : State) (strap : BitRate),
    (s.pins.resetHeld = false →
      exec (.powerOn strap) s = .next
        { State.reset with
          pins := { s.pins with strap := strap }
          link := .afterReset strap
          freeCount := s.freeCount
          pending := s.pending }) ∧
    (s.pins.resetHeld = true →
      exec (.powerOn strap) s = .next
        { State.reset with
          pins := { s.pins with strap := strap }
          bootTimer := none
          link := .afterReset s.link.rate
          moduleLink := ⟨none, [], []⟩
          freeCount := s.freeCount
          pending := s.pending })

/-- The activation of the reset line holds the part in reset with its configuration and anode counters
kept (R145). That the boot timer stands stopped and the module link carries nothing meanwhile is log 13, that the
interlock inputs' levels stand LOW is log 11, that each channel's timing in force is four zeros log 34, and that the
line link keeps the bit rate it had is log 38. While it is held pulses, presence replies, bytes, frames and requests are discarded, and changes of the eye and of the interlock
inputs move nothing but the pin. -/
def Obligations.ResetLineHolds : Prop :=
  (∀ s : State, exec .resetLineActive s = .next
      { s.resetKeeping s.link.rate with
        pins := { s.pins with resetHeld := true }
        bootTimer := none
        moduleLink := ⟨none, [], []⟩ }) ∧
  ∀ s : State, s.settled = true → s.pins.resetHeld = true → s.mode = .boot → s.bootTimer = none →
    exec .forwardPulse s = .next s ∧ exec .reversePulse s = .next s ∧
    (∀ c, exec (.presenceReply c) s = .next s) ∧ (∀ b, exec (.receivedByte b) s = .next s) ∧
    (∀ k p, exec (.frameReceived k p) s = .next s) ∧ (∀ k, exec (.badKind k) s = .next s) ∧
    (∀ i r, requestOf i = some r → exec i s = .next s) ∧
    (∀ l, exec (.eyeChange l) s = .next { s with pins := { s.pins with eye := l } }) ∧
    (∀ i l, exec (.interlockInputChange i l) s = .next
      { s with pins := { s.pins with interlocks := s.pins.interlocks.set i l } })

/-- The release of the reset line (R145), and the end of the reply of a taken Restart (R146), begin BOOT
with the configuration and the anode counters kept and everything else at its values after reset, the Interlock Unit's
levels LOW until the end of BOOT (log 11) and each channel's timing in force four zeros (log 34). A restart awaits the end of a reply while the reply of a taken Restart is in
transmission. That the end of that reply's transmission is the restart itself is log 12. A line not held is not released, and without
such a reply no restart takes effect (log 1). -/
def Obligations.ResetsKeepConfiguration : Prop :=
  (∀ (s : State) (strap : BitRate), s.pins.resetHeld = true →
    exec (.resetLineRelease strap) s = .next
      { s.resetKeeping strap with pins := { s.pins with strap := strap, resetHeld := false } }) ∧
  (∀ (s : State) (strap : BitRate), s.restartDue = true →
    exec (.restartTakesEffect strap) s = .next
      { s.resetKeeping strap with pins := { s.pins with strap := strap } } ∧
    exec .transmitComplete s = .next { s.resetKeeping s.pins.strap with pins := s.pins }) ∧
  ∀ (s : State) (strap : BitRate), s.settled = true →
    (s.pins.resetHeld = false → exec (.resetLineRelease strap) s = .next s) ∧
    (s.restartDue = false → exec (.restartTakesEffect strap) s = .next s) ∧
    (s.restartDue = true ↔ ∃ h r, s.link.inHand = some h ∧ h.restarts = true ∧ s.link.tx = .reply r)

/-- During BOOT a presence reply is noted, where the channel's Presence Poll no longer waits to be sent (R101,
R121; log 36), and discarded before that and after BOOT. At the end of BOOT (R148, R121, R160) the channels
without one are FAULTED with MODULE_ABSENT, the mode is OFFLINE, and the interlock inputs take their levels,
exactly the enabled LEVEL inputs then active latching (R162), a STOP among them setting INTERLOCK (R168). LINE_MODE is
raised, then INTERLOCK where an input latches, then LINE_STOP where the line-stop cause set was empty and is not (R170;
the order of the last two is log 14). That BOOT_END with the boot timer stopped changes nothing is the model's choice:
log 1. -/
def Obligations.BootEnds : Prop :=
  (∀ (s : State) (c : Chan), s.settled = true →
    (s.bootTimer.isSome = true → ⟨c, .presencePoll⟩ ∉ s.moduleLink.waiting →
      exec (.presenceReply c) s = .next { s with channels := s.withChan c { s.chan c with present := true } }) ∧
    ((s.bootTimer = none ∨ ⟨c, .presencePoll⟩ ∈ s.moduleLink.waiting) →
      exec (.presenceReply c) s = .next s)) ∧
  (∀ s : State, s.settled = true → s.bootTimer = none → exec .bootEnd s = .next s) ∧
  ∀ s : State, s.settled = true → s.channelInv = true → s.bootTimer.isSome = true →
    ∃ t, exec .bootEnd s = .next t ∧
      t = { s with
        mode := .offline
        bootTimer := none
        channels := t.channels
        interlocks := t.interlocks
        lineStop := { s.lineStop with interlock := t.lineStop.interlock }
        link := t.link } ∧
      (let latches : Bool := Input.all.any fun i => (t.interlock i).latched && !(s.interlock i).latched
       t.link = s.link.raising t.snapshot
        (.lineMode :: ((if latches then [.interlock] else []) ++ lineStopNotice s.lineStop t.lineStop))) ∧
      (s.link.tx = .idle → t.link.tx = .notice .lineMode t.snapshot) ∧
      (t.lineStop.interlock ↔ s.lineStop.interlock ∨
        ∃ i, (t.interlock i).latched ∧ ¬ (s.interlock i).latched ∧ (s.interlock i).config.stop) ∧
      (∀ c, t.chan c = if (s.chan c).present then s.chan c
        else { s.chan c with state := .faulted .moduleAbsent }) ∧
      ∀ i : Input, (t.interlock i).config = (s.interlock i).config ∧
        (t.interlock i).level = s.pins.interlocks[i] ∧
        (t.interlock i).latched = ((s.interlock i).latched ||
          ((s.interlock i).config.enabled && decide ((s.interlock i).config.sense = .level) &&
            decide (s.pins.interlocks[i] = (s.interlock i).config.activeLevel)))

/-! ### Conveyor and eye -/

/-- Encoder pulses that complete no millimetre (R8, R9, R10): discarded outside RUN, HOLD and STANDBY;
a forward pulse repays backlash, and where that brings it to zero the eye is examined, an edge that differs from the
accepted level then being accepted as R12 gives (R13), the runs that a binding starts being taken in increasing channel
number (log 15); else it counts in the remainder; a reverse pulse raises the
backlash up to its saturation, where the one that reaches it sets REVERSE_LIMIT and raises TRACKING. -/
def Obligations.PulsesWithoutAdvance : Prop :=
  ∀ s : State, s.settled = true →
    (s.mode.active = false → exec .forwardPulse s = .next s ∧ exec .reversePulse s = .next s) ∧
    (s.mode.active = true →
      (1 < s.conveyor.backlash ∨ s.conveyor.backlash = 1 ∧ s.pins.eye = s.conveyor.accepted →
        exec .forwardPulse s = .next
          { s with conveyor := { s.conveyor with backlash := s.conveyor.backlash - 1 } }) ∧
      (s.conveyor.backlash = 1 →
        exec .forwardPulse s = .next
          (State.eyeSeen { s with conveyor := { s.conveyor with backlash := 0 } }).ended) ∧
      (s.conveyor.backlash = 0 → s.conveyor.remainder + 1 ≠ s.prof.pulsesPerMm →
        exec .forwardPulse s = .next
          { s with conveyor := { s.conveyor with remainder := s.conveyor.remainder + 1 } }) ∧
      (s.conveyor.backlash + 1 < 2000 * s.prof.pulsesPerMm →
        exec .reversePulse s = .next
          { s with conveyor := { s.conveyor with backlash := s.conveyor.backlash + 1 } }) ∧
      (2000 * s.prof.pulsesPerMm ≤ s.conveyor.backlash → exec .reversePulse s = .next s) ∧
      (s.conveyor.backlash + 1 = 2000 * s.prof.pulsesPerMm →
        let causes : LineStopCauses := { s.lineStop with reverseLimit := true }
        exec .reversePulse s = .next
          { s with
            conveyor := { s.conveyor with backlash := s.conveyor.backlash + 1 }
            lineStop := causes
            link := s.link.raising { s.snapshot with lineStop := causes }
              (.tracking :: lineStopNotice s.lineStop causes) }))

/-- A forward pulse that completes a millimetre (R9, R11) is an advance event, its parts in the order of log 17: every
record moves (R29); the eye-stuck judgement sets PROVISIONAL_LENGTH and EYE_STUCK and raises TRACKING (R27); the records
that have passed out depart, those with nothing in flight leaving oldest first (R28, R33, R37), after the channels in
ALIGN towards one have applied the governor rule (R67; a lone Zero Order is logs 9 and 10), channels in increasing
number (log 15), notices in the order of log 14; every READY channel has a start occasion (R63); the stall timer
restarts and STALL is removed (R14, R15); the debounce travel grows up to 3, where the eye is examined (R12, R13). Where
none of that applies, the track, the remainder, the stall timer and the debounce travel alone change. -/
def Obligations.AdvanceMovesTrack : Prop :=
  ∀ s : State, s.settled = true → s.mode.active = true → s.conveyor.backlash = 0 →
    s.conveyor.remainder + 1 = s.prof.pulsesPerMm →
    exec .forwardPulse s = .next s.advanced.ended ∧
    let moved := moveTrack (s.prof.lineLength + 1500) none s.track
    ((∀ r ∈ moved, ¬ (r.state = .entering ∧ s.prof.eye + 1500 + s.prof.tolerance < r.position) ∧
        (r.departing = true ∨
          r.position < s.prof.lineLength + s.effective r ∧ r.position < s.prof.lineLength + 1500)) →
      (∀ c, (s.chan c).state = .ready → ({ s with track := moved } : State).runStarts c (s.chan c) = none) →
      (∀ c g, (s.chan c).period = .align g → ∀ r ∈ s.track, r.entry = g → r.departing = false) →
      s.holdCauses.stall = false →
      (s.conveyor.debounce ≠ some 2 ∨ s.pins.eye = s.conveyor.accepted) →
      exec .forwardPulse s = .next
        { s with
          track := moved
          conveyor := { s.conveyor with
            remainder := 0
            stall := .running s.prof.stallTime
            debounce := s.conveyor.debounce.map fun n => if n < 3 then n + 1 else n } })

/-- Every advance event restarts the stall timer and removes STALL (R14, R15, R155). Where STALL was the only hold cause
the line returns to RUN, with a LINE_MODE notice (R158), pending or in transmission, and the ramp index of every RUNNING
channel at step 0 (R71); elsewhere the mode stays and no LINE_MODE notice is raised. A channel that is neither READY nor
in ALIGN is unchanged but for that index. The configuration, the interlocks, the anode counters and the pins stay. -/
def Obligations.AdvanceRemovesStall : Prop :=
  ∀ s : State, s.settled = true → s.mode.active = true → s.conveyor.backlash = 0 →
    s.conveyor.remainder + 1 = s.prof.pulsesPerMm →
    let returns : Prop := s.holdCauses.stall = true ∧ s.holdCauses.command = false ∧ s.holdCauses.interlock = false
    ∃ t, exec .forwardPulse s = .next t ∧
      t.conveyor.remainder = 0 ∧ t.conveyor.backlash = 0 ∧
      t.conveyor.stall = .running s.prof.stallTime ∧
      (returns →
        (.lineMode ∈ t.link.notices ∨ ∃ x, t.link.tx = .notice .lineMode x) ∧
        ∀ c, (t.chan c).state = .running → (t.chan c).index = 0) ∧
      (¬ returns → (.lineMode ∈ t.link.notices → .lineMode ∈ s.link.notices) ∧
        ∀ x, t.link.tx = .notice .lineMode x → s.link.tx = .notice .lineMode x) ∧
      (∀ c, (s.chan c).state ≠ .ready → (∀ g, (s.chan c).period ≠ .align g) →
        t.chan c = if returns ∧ (s.chan c).state = .running then { s.chan c with index := 0 } else s.chan c) ∧
      t = { s with
        holdCauses := { s.holdCauses with stall := false }
        mode := if returns then .run else s.mode
        conveyor := t.conveyor
        staging := t.staging
        track := t.track
        exits := t.exits
        nextEntry := t.nextEntry
        channels := t.channels
        lineStop := t.lineStop
        monitor := t.monitor
        link := t.link
        moduleLink := t.moduleLink }

/-- A millimetre of travel (R29, R18): a record stays exactly where it stands at the limit, or where the record before it
stayed and stands one millimetre ahead of it; every other record moves by one millimetre, and none changes in anything
else. So the foremost moves unless it stands at the limit, and of positions strictly falling along the track, none above
the limit, a millimetre makes positions strictly falling, none above the limit. -/
def Obligations.MoveTrackKeepsOrder : Prop :=
  ∀ (limit : Nat) (l : List TrackRecord),
    let m := moveTrack limit none l
    List.Forall₂ (fun r t => t = r ∨ t = { r with position := r.position + 1 }) l m ∧
    (∀ r rest, l = r :: rest →
      m.head? = some (if limit ≤ r.position then r else { r with position := r.position + 1 })) ∧
    (∀ (i : Nat) (a r : TrackRecord), l[i]? = some a → l[i + 1]? = some r →
      m[i + 1]? = some (if limit ≤ r.position ∨ m[i]? = some a ∧ a.position = r.position + 1 then r
        else { r with position := r.position + 1 })) ∧
    ((l.map (·.position)).Pairwise (· > ·) → (∀ r ∈ l, r.position ≤ limit) →
      (m.map (·.position)).Pairwise (· > ·) ∧ ∀ r ∈ m, r.position ≤ limit)

/-- An accepted rising edge (R12, R20, R23, R24, R25): with room on the track it binds the head of the
staging queue at the eye position, or an unannounced record of the fallback recipe and areas, the entry-number counter
advances, and every READY channel has a start occasion (R63), an ALIGN entry being sampled by the monitor, with its
notice where that freezes it (R174, R178); the channels in increasing number (log 15); with 32 records it binds nothing, sets TRACK_FULL and raises TRACKING. -/
def Obligations.RisingEdgeBinds : Prop :=
  ∀ s : State, s.settled = true → s.mode.active = true → s.conveyor.backlash = 0 →
    (s.conveyor.debounce = none ∨ s.conveyor.debounce = some 3) →
    s.pins.eye = .low → s.conveyor.accepted = .low →
    let clock (recipe : Option Nat) := (recipe.bind s.recipe).map fun r => PhaseClock.mk .fwd r.timing.fwd 0
    let high : State :=
      { s with
        pins := { s.pins with eye := .high }
        conveyor := { s.conveyor with accepted := .high, debounce := some 0 } }
    let binds (rest : List StagingEntry) (r : TrackRecord) : Prop :=
      let t := State.runsStarted
        { high with
          staging := rest
          track := s.track ++ [r]
          nextEntry := if s.nextEntry = 65535 then 1 else s.nextEntry + 1 } Chan.all
      exec (.eyeChange .high) s = .next (t.raised (monitorNotice s.monitor t.monitor)) ∧
      ∀ c, (s.chan c).state ≠ .ready → t.chan c = s.chan c
    (s.track.length < 32 →
      (∀ e rest, s.staging = e :: rest →
        binds rest
          ⟨s.nextEntry, e.panelId, some e.recipe, e.announced, e.areaA, e.areaB, e.flipped, s.prof.eye,
            none, .entering, false, false, false, 0, clock (some e.recipe), .zero⟩) ∧
      (s.staging = [] →
        binds []
          ⟨s.nextEntry, 0, s.prof.fallback, none, s.prof.fallbackAreaA, s.prof.fallbackAreaB, false,
            s.prof.eye, none, .entering, true, false, false, 0, clock s.prof.fallback, .zero⟩)) ∧
    (32 ≤ s.track.length →
      let causes : LineStopCauses := { s.lineStop with trackFull := true }
      exec (.eyeChange .high) s = .next
        ({ high with lineStop := causes }.raised (.tracking :: lineStopNotice s.lineStop causes)))

/-- An accepted falling edge measures the ENTERING record (R26); an edge that the filter does not accept
moves nothing but the pin (R12, R13), and an unchanged level nothing at all (log 26). -/
def Obligations.FallingEdgeMeasures : Prop :=
  ∀ s : State, s.settled = true →
    (∀ l, s.pins.eye = l → exec (.eyeChange l) s = .next s) ∧
    (∀ l, s.pins.eye ≠ l →
      (s.mode.active = false ∨ 0 < s.conveyor.backlash ∨ s.conveyor.accepted = l ∨
        ∃ n, s.conveyor.debounce = some n ∧ n ≠ 3) →
      exec (.eyeChange l) s = .next { s with pins := { s.pins with eye := l } }) ∧
    (s.pins.eye = .high → s.conveyor.accepted = .high → s.mode.active = true → s.conveyor.backlash = 0 →
      (s.conveyor.debounce = none ∨ s.conveyor.debounce = some 3) →
      exec (.eyeChange .low) s = .next
        { s with
          pins := { s.pins with eye := .low }
          conveyor := { s.conveyor with accepted := .low, debounce := some 0 }
          track := s.track.map fun r =>
            if r.state = .entering then
              { r with
                measured := some (r.position - s.prof.eye)
                lengthMismatch := r.lengthMismatch ||
                  r.announced.any fun a =>
                    decide (a + s.prof.tolerance < r.position - s.prof.eye) ||
                    decide (r.position - s.prof.eye + s.prof.tolerance < a)
                state := .onLine }
            else r })

/-- The stall timer's expiry (R15, R151, R155, R158): EXPIRED; in RUN STALL is added and the line enters
HOLD with a LINE_MODE notice, every READY channel having a start occasion (R63), in increasing number (log 15; a MONITOR
notice before that LINE_MODE is log 14); in any other mode nothing else changes. A timer that does not run does not expire (log 1). -/
def Obligations.StallTimerExpires : Prop :=
  ∀ s : State, s.settled = true →
    ((∀ n, s.conveyor.stall ≠ .running n) → exec .stallTimerExpiry s = .next s) ∧
    ∀ n, s.conveyor.stall = .running n →
      let expired : State := { s with conveyor := { s.conveyor with stall := .expired } }
      (s.mode ≠ .run → exec .stallTimerExpiry s = .next expired) ∧
      (s.mode = .run →
        let t := State.runsStarted
          { expired with mode := .hold, holdCauses := { s.holdCauses with stall := true } } Chan.all
        exec .stallTimerExpiry s = .next (t.raised (monitorNotice s.monitor t.monitor ++ [.lineMode])) ∧
        ∀ c, (s.chan c).state ≠ .ready → t.chan c = s.chan c)

/-! ### Clocks and periods -/

/-- A phase clock runs through the intervals of non-zero length of its recipe, and at the end of the last
passes a boundary: FWD again, the period count raised, back to 0 after its greatest value (R58, R59); no
channel awaits the record here. A channel interval passes to the next of non-zero length (R64); the end of
the last one is the period's end (log 18). The next interval of non-zero length is the first of those after the present
one in the order FWD, REST1, REV, REST2 (R43, R59). -/
def Obligations.ClocksRun : Prop :=
  (∀ t : Timing,
    let first (l : List (Nat × Interval)) : Option Interval := (l.find? fun x => decide (x.1 ≠ 0)).map (·.2)
    t.next? .fwd = first [(t.rest1, .rest1), (t.rev, .rev), (t.rest2, .rest2)] ∧
    t.next? .rest1 = first [(t.rev, .rev), (t.rest2, .rest2)] ∧
    t.next? .rev = first [(t.rest2, .rest2)] ∧ t.next? .rest2 = none ∧
    t.length .fwd = t.fwd ∧ t.length .rest1 = t.rest1 ∧ t.length .rev = t.rev ∧ t.length .rest2 = t.rest2) ∧
  (∀ (s : State) (r : TrackRecord) (k : PhaseClock) (rec : Recipe), s.settled = true →
      s.find r.entry = some r → r.departing = false → r.clock = some k → s.recipeOf r = some rec →
      let put (k : PhaseClock) : State :=
        { s with track := s.track.map fun t => if t.entry = r.entry then { t with clock := some k } else t }
      (∀ i, rec.timing.next? k.interval = some i →
        exec (.phaseIntervalEnd r.entry) s = .next (put ⟨i, rec.timing.length i, k.periods⟩) ∧
        exec (.phaseBoundary r.entry) s = .next s) ∧
      (rec.timing.next? k.interval = none → (∀ c, (s.chan c).period ≠ .align r.entry) →
        let count := if k.periods = 4294967295 then 0 else k.periods + 1
        exec (.phaseBoundary r.entry) s = .next (put ⟨.fwd, rec.timing.fwd, count⟩) ∧
        exec (.phaseIntervalEnd r.entry) s = .next (put ⟨.fwd, rec.timing.fwd, count⟩))) ∧
  ∀ (s : State) (c : Chan) (p : InFlight), s.settled = true → (s.chan c).period = .delivering p →
      (∀ i, (s.chan c).timing.next? p.interval = some i →
        exec (.channelIntervalEnd c) s = .next
          { s with
            channels := s.withChan c
              { s.chan c with
                period := .delivering { p with interval := i, remaining := (s.chan c).timing.length i } } } ∧
        exec (.periodEnd c) s = .next s) ∧
      ((s.chan c).timing.next? p.interval = none → exec (.channelIntervalEnd c) s = exec (.periodEnd c) s)

/-- At the boundary of a record, of the channels that await it in ALIGN, in increasing channel number (log 15; R100), each
that it still covers starts a period (R64, R66, R70, R78, R94, R99, R100, R101): the Allocation Engine's record with
its setpoints, the governor's four intervals as the timing in force, the tag counter's value, a Period Order on the module link, the in-flight count of every contributor
raised, and after a NORMAL period the ramp index one up to 16. Where the zero status is DUE the order carries a zero
request and the status is ATTEMPTING, and the period is ZERO, with zero setpoints and the ramp index as it was, where
neither rest is at least 2 ms. Where the record no longer covers the channel the governor rule is applied and its
outcome taken, a lone Zero Order where READY with the status DUE (R80; logs 9 and 10). PHASE_INTERVAL_END in the last
interval is the boundary (log 18). Of one awaiting channel alone that is spelled out. -/
def Obligations.BoundaryStartsPeriod : Prop :=
  ∀ (s : State) (r : TrackRecord) (k : PhaseClock) (rec : Recipe), s.settled = true →
    s.find r.entry = some r → r.departing = false → r.clock = some k → s.recipeOf r = some rec →
    rec.timing.next? k.interval = none →
    (∀ d, (s.chan d).period = .align r.entry → (s.chan d).state = .running) →
    let next : PhaseClock := ⟨.fwd, rec.timing.fwd, if k.periods = 4294967295 then 0 else k.periods + 1⟩
    let clocked : State :=
      { s with track := s.track.map fun t => if t.entry = r.entry then { t with clock := some next } else t }
    let meets (c : Chan) (t : State) : Effects :=
      if (s.chan c).period ≠ .align r.entry then t.quiet
      else if 0 < s.covered c r then t.begins c r.entry rec.timing (min ((s.chan c).index + 1) 16)
      else t.ruled c
    exec (.phaseBoundary r.entry) s = .next (clocked.quiet.each Chan.all meets).ended ∧
    exec (.phaseIntervalEnd r.entry) s = exec (.phaseBoundary r.entry) s ∧
    ∀ c, (∀ d, (s.chan d).period = .align r.entry ↔ d = c) →
      (s.covered c r = 0 → exec (.phaseBoundary r.entry) s = .next (clocked.ruled c).ended) ∧
      (0 < s.covered c r →
        let due := decide ((s.chan c).zero = .due)
        let kind : PeriodKind := if due = true ∧ rec.timing.rest1 < 2 ∧ rec.timing.rest2 < 2 then .zero else .normal
        let p := s.allocate c r.entry rec.timing kind
        let ch := s.chan c
        exec (.phaseBoundary r.entry) s = .next
          { s with
            track := s.track.map fun t =>
              let t := if t.entry = r.entry then { t with clock := some next } else t
              if p.contributors.any fun q => q.entry = t.entry then { t with inFlight := t.inFlight + 1 } else t
            channels := s.withChan c
              { ch with
                period := .delivering ⟨p, ch.tag, due, .fwd, rec.timing.fwd⟩
                timing := rec.timing
                forward := p.forward
                reverse := p.reverse
                tag := (ch.tag + 1) % 256
                zero := if due then .attempting else ch.zero
                index := if kind = .zero then ch.index else min (ch.index + 1) 16 }
            moduleLink := s.moduleLink.ordering [⟨c, .period ch.tag p.forward p.reverse rec.timing due⟩] })

/-- The end of a RUNNING channel's period (R65, R103): its report window opens with the whole intervals in
its close note (R128). With no candidate the channel is READY with zero setpoints, and sends its lone Zero Order
where its status is DUE (R80, R119; logs 9 and 10). With another governor it is in ALIGN towards it, with zero setpoints, an
ALIGN-entry sample to the monitor and its notice where that freezes the monitor (R174, R178). Under the same
governor the next period follows at once (R64, R70, R78, R94, R100, R101), with a zero request where the status
is DUE. -/
def Obligations.PeriodEnds : Prop :=
  ∀ (s : State) (c : Chan) (p : InFlight), s.settled = true → (s.chan c).state = .running →
    (s.chan c).period = .delivering p → (s.chan c).timing.next? p.interval = none →
    let ch := s.chan c
    let note : CloseNote := ⟨false, p.record.timing.fwd, p.record.timing.rev, ch.stale⟩
    let closed : Channel :=
      { ch with
        period := .idle
        windows := ch.windows ++ [⟨p.tag, 20, .period p.record note p.zeroRequest⟩] }
    let aligned (g : Nat) : Channel := { closed with period := .align g, forward := 0, reverse := 0 }
    (s.governorRule c = none →
      exec (.periodEnd c) s = .next
        ({ s with channels := s.withChan c closed.readied.1 }.sent (ordersTo c closed.readied.2))) ∧
    (∀ g, s.governorRule c = some g → g ≠ p.record.governor →
      let monitor := (s.sample c .alignEntry).monitor
      exec (.periodEnd c) s = .next
        ({ s with channels := s.withChan c (aligned g), monitor := monitor }.raised
          (monitorNotice s.monitor monitor))) ∧
    (∀ r rec, s.governorRule c = some p.record.governor → s.find p.record.governor = some r →
      s.recipeOf r = some rec →
      exec (.periodEnd c) s = .next
        ({ s with channels := s.withChan c closed }.periodStarted c p.record.governor rec.timing
          (min (ch.index + 1) 16)))

/-- The end of a DRAINING channel's period (R74, R103, R115). With a step remaining, and the governor rule finding the
same governor, the next draining period starts at that step, the drain index one down after a NORMAL period and as
it was after a ZERO one (R64, R78). With no step remaining, or another governor or none, the drain ends, never in
ALIGN. To DORMANT (R98, R112, R61): a Disarm Order, the contactor open, the contactor rest started, the period
state cleared. To READY: a lone Zero Order where the status is DUE (R80; logs 9 and 10), else a start occasion (R63); a drain index
from 0 on stays as the ramp index, being one stored number (R61), and after -1 or -2 the ramp index is free within
0..16 (log 7). -/
def Obligations.DrainEnds : Prop :=
  ∀ (s : State) (c : Chan) (p : InFlight) (d : Destination), s.settled = true →
    (s.chan c).state = .draining d → (s.chan c).period = .delivering p →
    (s.chan c).timing.next? p.interval = none →
    let ch := s.chan c
    let note : CloseNote := ⟨false, p.record.timing.fwd, p.record.timing.rev, ch.stale⟩
    let closed : Channel :=
      { ch with
        period := .idle
        windows := ch.windows ++ [⟨p.tag, 20, .period p.record note p.zeroRequest⟩] }
    let ends : Prop := ch.index < 0 ∨ s.governorRule c ≠ some p.record.governor
    let ready (index : Int) (free : Nat) : State :=
      let x := { closed with index := index }.readied
      let t := { s with channels := s.withChan c x.1, freeCount := free }.runsStarted [c]
      (t.sent (ordersTo c x.2)).raised (monitorNotice s.monitor t.monitor)
    (∀ r rec, 0 ≤ ch.index → s.governorRule c = some p.record.governor → s.find p.record.governor = some r →
      s.recipeOf r = some rec →
      exec (.periodEnd c) s = .next
        ({ s with channels := s.withChan c closed }.periodStarted c p.record.governor rec.timing
          (ch.index - 1))) ∧
    (ends → d = .dormant →
      exec (.periodEnd c) s = .next
        { s with
          channels := s.withChan c
            { closed with
              state := .dormant
              contactorClosed := false
              rest := some s.prof.contactorRest
              forward := 0
              reverse := 0
              index := 0
              zero := .none
              stale := false
              zeroTimer := none
              retry := none }
          moduleLink := s.moduleLink.ordering [⟨c, .disarm⟩] }) ∧
    (ends → d = .ready → 0 ≤ ch.index → exec (.periodEnd c) s = .next (ready ch.index s.freeCount)) ∧
    (d = .ready → ch.index < 0 →
      ∃ k : Nat, k ≤ 16 ∧ exec (.periodEnd c) s = .next (ready k (s.freeCount + 1)))

/-- The zero timer's expiry makes the status DUE (R76), and on a READY channel the end of the zero timer or
of the retry wait sends a lone Zero Order with the tag counter's value (R80, R101, R119), its window opening
with its sending, at once where the module link is idle (R103; log 9); the zero status is ATTEMPTING from
the order's issue (log 10). A stopped timer does not expire (log 1). -/
def Obligations.ZeroTimersExpire : Prop :=
  ∀ (s : State) (c : Chan), s.settled = true →
    let ch := s.chan c
    let sent (ch : Channel) : Channel :=
      { ch with
        tag := (ch.tag + 1) % 256
        zero := .attempting
        loneZero := true
        windows := if s.moduleLink.sending = none then ch.windows ++ [⟨ch.tag, 20, .zeroOrder⟩]
          else ch.windows }
    let ordered := s.moduleLink.ordering [⟨c, .zero ch.tag⟩]
    (ch.zeroTimer = none → exec (.zeroTimerExpiry c) s = .next s) ∧
    (ch.retry = none → exec (.loneZeroRetryExpiry c) s = .next s) ∧
    (ch.zeroTimer.isSome = true → ch.state ≠ .ready →
      exec (.zeroTimerExpiry c) s = .next
        { s with channels := s.withChan c { ch with zeroTimer := none, zero := .due } }) ∧
    (ch.zeroTimer.isSome = true → ch.state = .ready → ch.retry = none → ch.loneZero = false →
      exec (.zeroTimerExpiry c) s = .next
        { s with channels := s.withChan c (sent { ch with zeroTimer := none }), moduleLink := ordered }) ∧
    (ch.retry.isSome = true → ch.state = .ready → ch.zero = .due → ch.loneZero = false →
      exec (.loneZeroRetryExpiry c) s = .next
        { s with channels := s.withChan c (sent { ch with retry := none }), moduleLink := ordered })

/-! ### Modules -/

/-- A period report (R101, R103, R104, R117, R119). From an absent module nothing. Late or unmatched, or without a
fault code for the period in flight: only the missing-report count returns to 0. Used in its window: the window
closes, the count is 0, a valid zero value is kept; a period is accounted, each DEPARTING contributor whose count that
brings to 0 leaving the track (R36, R134), a zero request has its outcome (R79, R80), and so has a Zero Order, whose
outcome is a start occasion (R63); a fault code then makes the channel FAULTED (R118, R116), with an occasion of the
arbiter where it was ARMING (R109). The order of these effects, and so MONITOR before CHANNEL_FAULT, is log 20; that EXIT, and a LINE_STOP it brings, go
before MONITOR in one accounting is log 14. With a
fault code for the period in flight: the early stop, accounted at once as truncated, with no Stop Order, before the
channel is FAULTED (log 32). When a Zero Order's window opens and its status is ATTEMPTING are logs 9 and 10. -/
def Obligations.ReportAccountsPeriod : Prop :=
  ∀ (s : State) (c : Chan) (r : PeriodReport), s.settled = true →
    let ch := s.chan c
    let heard (ch : Channel) : Channel :=
      { ch with missing := 0, lastZero := if r.zeroValid then some r.zeroValue else ch.lastZero }
    let interval := s.prof.zeroInterval * 1000
    let ends (e : Effects) (ch : Channel) : State :=
      if r.faultCode = 0 then
        (e.andThen fun t => State.quiet { t with channels := t.withChan c ch }).ended
      else (e.andThen fun t => t.faultTaken c ch (.moduleFault r.faultCode)).ended
    let ordering (e : Effects) (orders : List OrderBody) : Effects := { e with orders := e.orders ++ ordersTo c orders }
    (ch.state = .faulted .moduleAbsent → exec (.periodReport c r) s = .next s) ∧
    (ch.state ≠ .faulted .moduleAbsent →
      (ch.windowOf r.tag = none → (∀ p, ch.period = .delivering p → p.tag = r.tag → r.faultCode = 0) →
        exec (.periodReport c r) s = .next { s with channels := s.withChan c { ch with missing := 0 } }) ∧
      (∀ w p note, ch.windowOf r.tag = some w → w.kind = .period p note false →
        exec (.periodReport c r) s = .next
          (ends (s.accounted p note (some r)) (heard { ch with windows := ch.windows.erase w }))) ∧
      (∀ w p note, ch.windowOf r.tag = some w → w.kind = .period p note true →
        let x := (heard { ch with windows := ch.windows.erase w }).outcome interval false r.zeroValid
        exec (.periodReport c r) s = .next (ends (ordering (s.accounted p note (some r)) x.2) x.1)) ∧
      (∀ w, ch.windowOf r.tag = some w → w.kind = .zeroOrder →
        let x := (heard { ch with windows := ch.windows.erase w }).outcome interval true r.zeroValid
        let e := State.started [c] { s with channels := s.withChan c x.1 }
        exec (.periodReport c r) s = .next (ends (ordering e x.2) (e.state.chan c))) ∧
      (∀ p, ch.windowOf r.tag = none → ch.period = .delivering p → p.tag = r.tag → r.faultCode ≠ 0 →
        let e := s.accounted p.record (closeNote p true ch.stale) (some r)
        let stopped := heard { ch with period := .idle, forward := 0, reverse := 0 }
        let x := if p.zeroRequest then stopped.outcome interval false r.zeroValid else (stopped, [])
        exec (.periodReport c r) s = .next (ends (ordering e x.2) x.1)))

/-- A window that closes empty (R103, R105, R118), that of a period with or without a zero request, or of a Zero Order,
in any channel state: the period is accounted from an estimate (R130), each DEPARTING contributor whose count that brings
to 0 leaving the track (R36, R134); a zero request or Zero Order has a failed outcome (R79, R80), that of a Zero Order a
start occasion (R63). Then the missing-report count of a channel that is not FAULTED rises, and the one that would reach
3 makes it FAULTED with MODULE_SILENT, a period in flight being truncated (R116), with an occasion of the arbiter where
it was ARMING (R109). The oldest window is the one that closes (log 19), and what its closing does is done in the order
of R105 (log 28). EXIT, and a LINE_STOP it brings, go before MONITOR in one accounting (log 14). When a lone Zero Order's
window opens and its status is ATTEMPTING are logs 9 and 10. Without an open window none closes (log 1). -/
def Obligations.WindowClosesEmpty : Prop :=
  ∀ (s : State) (c : Chan), s.settled = true →
    ((s.chan c).windows = [] → exec (.reportWindowClose c) s = .next s) ∧
    ∀ (w : Window) (rest : List Window), (s.chan c).windows = w :: rest →
    let ch : Channel := { s.chan c with windows := rest }
    let interval := s.prof.zeroInterval * 1000
    let ends (e : Effects) (orders : List OrderBody) (ch : Channel) : State :=
      let e : Effects := { e with orders := e.orders ++ ordersTo c orders }
      if ch.state.isFaulted = false ∧ ch.missing = 2 then
        (e.andThen fun t => t.faultTaken c ch .moduleSilent).ended
      else
        let ch := if ch.state.isFaulted then ch else { ch with missing := ch.missing + 1 }
        (e.andThen fun t => State.quiet { t with channels := t.withChan c ch }).ended
    (∀ p note z, w.kind = .period p note z →
      let x := if z then ch.outcome interval false false else (ch, [])
      exec (.reportWindowClose c) s = .next (ends (s.accounted p note none) x.2 x.1)) ∧
    (w.kind = .zeroOrder →
      let x := ch.outcome interval true false
      let e := State.started [c] { s with channels := s.withChan c x.1 }
      exec (.reportWindowClose c) s = .next (ends e x.2 (e.state.chan c)))

/-- An arm report with code 0 ends an ARMING in READY, zero status DUE, which sends the lone Zero Order at
once (R76, R80, R110; ATTEMPTING while that order still waits to be sent is log 10, its window's opening log 9); the entry is a start occasion (R63),
and the end of ARMING an occasion of the group's arbiter, which may grant another channel (R109). For a channel not
ARMING, and before the Arm Order has been sent, no order awaits the report: it shows only that the module answers (R101,
R104, R111; log 36), from an absent module nothing. -/
def Obligations.ArmReportMakesReady : Prop :=
  ∀ (s : State) (c : Chan) (code n : Nat), s.settled = true →
    let ch := s.chan c
    (ch.state = .arming n → ⟨c, .arm⟩ ∉ s.moduleLink.waiting → code = 0 →
      let x := { ch with zero := .due, stale := false }.readied
      exec (.armReport c code) s = .next
        ((Effects.mk { s with channels := s.withChan c x.1 } (ordersTo c x.2) []).andThen (State.started [c])
          |>.andThen fun t => t.arbitratedFor c).ended) ∧
    (ch.state = .arming n → ⟨c, .arm⟩ ∉ s.moduleLink.waiting → code = 0 → ch.retry = none →
      ch.loneZero = false → s.allQueued = [] →
      exec (.armReport c code) s = .next
        ({ s with
          channels := s.withChan c
            { ch with
              state := .ready
              forward := 0
              reverse := 0
              period := .idle
              stale := false
              tag := (ch.tag + 1) % 256
              zero := .attempting
              loneZero := true } }.sent [⟨c, .zero ch.tag⟩])) ∧
    ((ch.state.isArming = false ∨ ⟨c, .arm⟩ ∈ s.moduleLink.waiting) → ch.state ≠ .faulted .moduleAbsent →
      exec (.armReport c code) s = .next { s with channels := s.withChan c { ch with missing := 0 } }) ∧
    (ch.state = .faulted .moduleAbsent → exec (.armReport c code) s = .next s)

/-- The entries into FAULTED from ARMING (R110, R111, R118): by the arming timer with ARM_TIMEOUT, by an arm
report with a fault code with MODULE_FAULT, once the Arm Order has been sent (R101; log 36). The end of ARMING is an
occasion of the group's arbiter, which may grant another channel (R109). Where none waits to arm: the cause set, a
Disarm Order, the timers stopped, the period state cleared, and CHANNEL_FAULT raised. The arming timer of a channel not
ARMING does not run out (log 1). -/
def Obligations.ArmingEndsFaulted : Prop :=
  ∀ (s : State) (c : Chan) (n : Nat), s.settled = true →
    ((s.chan c).state.isArming = false → exec (.armingTimeout c) s = .next s) ∧
    ((s.chan c).state = .arming n →
      exec (.armingTimeout c) s = .next (s.faultTaken c (s.chan c) .armTimeout).ended ∧
      ∀ code, code ≠ 0 → ⟨c, .arm⟩ ∉ s.moduleLink.waiting →
        exec (.armReport c code) s = .next (s.faultTaken c (s.chan c) (.moduleFault code)).ended) ∧
    (s.channelInv = true → (s.chan c).state = .arming n → s.allQueued = [] →
      let faulted (cause : FaultCause) : State :=
        let s' : State :=
          { s with
            channels := s.withChan c
              { s.chan c with
                state := .faulted cause
                contactorClosed := false
                missing := 0
                forward := 0
                reverse := 0
                rest := none
                index := 0
                zero := .none
                stale := false
                zeroTimer := none
                retry := none }
            moduleLink := s.moduleLink.ordering [⟨c, .disarm⟩] }
        { s' with link := s.link.raising s'.snapshot [.channelFault] }
      exec (.armingTimeout c) s = .next (faulted .armTimeout) ∧
      ∀ code, code ≠ 0 → ⟨c, .arm⟩ ∉ s.moduleLink.waiting →
        exec (.armReport c code) s = .next (faulted (.moduleFault code)))

/-- The arbiter (R109, R110, R112). It looks at the end of a queued channel's contactor rest and when a group's spacing
is reached; ARMING_SPACING_REACHED raises the time since the last grant to the spacing, whatever it was, and without a
last grant changes nothing (log 25), and the end of a rest that does not run changes nothing (log 1). It grants nothing
outside RUN, HOLD and STANDBY, while a channel of the group is ARMING, before the group's spacing, or with every queued
channel in contactor rest. Else it grants the oldest queued channel out of rest, passing over those before it: ARMING
with its timer at 2 000 ms, the contactor closed by an Arm Order, the time since the last grant 0. A channel's group is
the one its segment record names (R5). -/
def Obligations.ArbiterGrants : Prop :=
  (∀ (s : State) (c : Chan), s.settled = true →
    let rested : State := { s with channels := s.withChan c { s.chan c with rest := none } }
    ((s.chan c).rest = none → exec (.contactorRestEnd c) s = .next s) ∧
    ((s.chan c).rest.isSome = true → c ∉ s.allQueued → exec (.contactorRestEnd c) s = .next rested) ∧
    ((s.chan c).rest.isSome = true → c ∈ s.allQueued → ∀ g, s.busGroup c = some g →
      exec (.contactorRestEnd c) s = .next (rested.arbitrated g).ended)) ∧
  (∀ (s : State) (g : BusGroup), s.settled = true →
    ((s.group g).sinceGrant = none → exec (.armingSpacingReached g) s = .next s) ∧
    ∀ t, (s.group g).sinceGrant = some t →
      exec (.armingSpacingReached g) s = .next
        (State.arbitrated
          { s with groups := s.groups.set g { s.group g with sinceGrant := some (max s.prof.spacing[g] t) } } g
          ).ended) ∧
  (∀ (s : State) (c : Chan),
    (s.segment c = none → s.busGroup c = none) ∧
    ∀ seg (g : BusGroup), s.segment c = some seg → seg.group ≤ 3 → (s.busGroup c = some g ↔ g.val = seg.group)) ∧
  ∀ (s : State) (g : BusGroup),
    let armingHere : Prop := ∃ d, s.busGroup d = some g ∧ (s.chan d).state.isArming = true
    let spaced : Prop := ∀ t, (s.group g).sinceGrant = some t → s.prof.spacing[g] ≤ t
    ((s.mode.active = false ∨ armingHere ∨ ¬ spaced ∨ ∀ c ∈ (s.group g).queue, (s.chan c).rest.isSome = true) →
      s.arbitrated g = ⟨s, [], []⟩) ∧
    ∀ before c rest, s.mode.active = true → ¬ armingHere → spaced → (s.group g).queue = before ++ c :: rest →
      (∀ d ∈ before, (s.chan d).rest.isSome = true) → (s.chan c).rest = none → c ∉ before ++ rest →
      s.arbitrated g =
        ⟨{ s with
            channels := s.withChan c
              { s.chan c with
                state := .arming 2000
                contactorClosed := true
                missing := 0
                forward := 0
                reverse := 0 }
            groups := s.groups.set g ⟨before ++ rest, some 0⟩ }, [⟨c, .arm⟩], []⟩

/-- The module link finishes an order and starts the one that has waited longest, if any; a Zero Order's
window opens at that moment (R100, R103; log 9). The orders of one event stand in increasing channel number, each
channel's in the order in which they fell due (R100). -/
def Obligations.OrderSent : Prop :=
  (∀ s : State, s.settled = true →
    (s.moduleLink.waiting = [] →
      exec .moduleOrderSent s = .next { s with moduleLink := { s.moduleLink with sending := none } }) ∧
    (∀ o rest, s.moduleLink.sending.isSome = true → s.moduleLink.waiting = o :: rest →
      let next : ModuleLink := { s.moduleLink with sending := some o, waiting := rest }
      ((∀ tag, o.body ≠ .zero tag) →
        exec .moduleOrderSent s = .next { s with moduleLink := next }) ∧
      (∀ tag, o.body = .zero tag →
        exec .moduleOrderSent s = .next
          { s with
            moduleLink := next
            channels := s.withChan o.channel
              { s.chan o.channel with
                windows := (s.chan o.channel).windows ++ [⟨tag, 20, .zeroOrder⟩] } }))) ∧
  ∀ l : List Order,
    ((sortOrders l).map fun o => o.channel.val).Pairwise (· ≤ ·) ∧
    ∀ c, (sortOrders l).filter (fun o => o.channel = c) = l.filter fun o => o.channel = c

/-! ### Plant -/

/-- An enabled input without DROP and with its latch clear that becomes active latches (R162, R168, R157, R158): an
INTERLOCK notice, with STOP the INTERLOCK line-stop cause, with HOLD the INTERLOCK hold cause, and in RUN the mode
HOLD, every READY channel having a start occasion (R63, R151; the notices in the order of log 14, the actions in that of
log 16, the channels in increasing number, log 15). An input that is
disabled, latched, or not active only follows its level (R160), and so does one whose level is the one it had,
whatever its sense (log 26). -/
def Obligations.InterlockLatches : Prop :=
  ∀ (s : State) (i : Input) (l : Level), s.settled = true → s.mode ≠ .boot →
    let x := s.interlock i
    let pins : Pins := { s.pins with interlocks := s.pins.interlocks.set i l }
    ((x.level = l ∨ x.config.enabled = false ∨ x.latched = true ∨ l ≠ x.config.activeLevel) →
      exec (.interlockInputChange i l) s = .next
        { s with pins := pins, interlocks := s.interlocks.set i { x with level := l } }) ∧
    (x.level ≠ l → x.config.enabled = true → x.latched = false → l = x.config.activeLevel →
      x.config.drop = false →
      let holds := x.config.hold && decide (s.mode = .run)
      let causes : LineStopCauses :=
        { s.lineStop with interlock := s.lineStop.interlock || x.config.stop }
      let s' : State :=
        { s with
          pins := pins
          interlocks := s.interlocks.set i ⟨x.config, true, l⟩
          mode := if holds then .hold else s.mode
          holdCauses := { s.holdCauses with
            interlock := s.holdCauses.interlock ||
              (x.config.hold && (decide (s.mode = .run) || decide (s.mode = .hold))) }
          lineStop := causes }
      let t := if holds then s'.runsStarted Chan.all else s'
      exec (.interlockInputChange i l) s = .next
        (t.raised (.interlock :: (monitorNotice s.monitor t.monitor ++ (if holds then [.lineMode] else []) ++
          lineStopNotice s.lineStop causes))))

/-- An input that becomes active latches, whatever its actions (R162); a DROP reaches exactly the channels in its scope
that were not inhibited (R164, R165, R167). RUNNING, in ALIGN too, and DRAINING to READY: READY without a period and
with zero setpoints, the ramp index kept or, after a drain, free within 0..16 (R73; log 7); a lone Zero Order where
the status is DUE (R80; in ALIGN, log 35). DRAINING to DORMANT: DORMANT, the contactor open, the contactor rest
started (R112), the Disarm Order after the Stop Order. A period in flight is truncated, with its Stop Order and its
report window (R116). With HOLD in RUN the READY channels not inhibited have a start occasion; the others are
untouched. The notices stand in the order of log 14, the actions in that of log 16; when a Zero Order's window opens
and its status is ATTEMPTING are logs 9 and 10; channels act in increasing number (log 15). -/
def Obligations.DropReachesScope : Prop :=
  ∀ (s : State) (i : Input) (l : Level), s.settled = true → s.mode ≠ .boot →
    let x := s.interlock i
    x.level ≠ l → x.config.enabled = true → x.latched = false → l = x.config.activeLevel →
    let s' : State :=
      { s with
        pins := { s.pins with interlocks := s.pins.interlocks.set i l }
        interlocks := s.interlocks.set i { x with level := l } }
    ∃ t notices, s'.Latches i t notices ∧ exec (.interlockInputChange i l) s = .next (t.raised notices) ∧
      ∀ c,
        let ch := s.chan c
        let hit : Prop := x.config.drop = true ∧ x.config.inScope c = true ∧ s.inhibited c = false
        let orders := t.moduleLink.sending.toList ++ t.moduleLink.waiting
        (x.config.inScope c = true ↔
          c.val < 20 ∧ x.config.sideA = true ∧ x.config.first ≤ c.val ∧ c.val ≤ x.config.last ∨
          20 ≤ c.val ∧ x.config.sideB = true ∧ x.config.first ≤ c.val - 20 ∧ c.val - 20 ≤ x.config.last) ∧
        (s.inhibited c = true ↔ ∃ j, (s.interlock j).latched = true ∧ (s.interlock j).config.drop = true ∧
          (s.interlock j).config.inScope c = true) ∧
        (hit → (ch.state = .running ∨ ch.state = .draining .ready) →
          (t.chan c).state = .ready ∧ (t.chan c).period = .idle ∧ (t.chan c).forward = 0 ∧
          (t.chan c).reverse = 0 ∧ (t.chan c).contactorClosed = ch.contactorClosed ∧
          (ch.state = .running → (t.chan c).index = ch.index) ∧
          (ch.state = .draining .ready → 0 ≤ (t.chan c).index ∧ (t.chan c).index ≤ 16)) ∧
        (∀ p, hit → (ch.state = .running ∨ ∃ d, ch.state = .draining d) → ch.period = .delivering p →
          (∃ more, (t.chan c).windows = ch.windows ++
            ⟨p.tag, 20, .period p.record (closeNote p true ch.stale) p.zeroRequest⟩ :: more) ∧
          ⟨c, .stop p.tag⟩ ∈ orders) ∧
        (∀ p, hit → ch.state = .draining .dormant → ch.period = .delivering p →
          t.chan c =
            { ch with
              state := .dormant
              contactorClosed := false
              rest := some s.prof.contactorRest
              forward := 0
              reverse := 0
              windows := ch.windows ++
                [⟨p.tag, 20, .period p.record (closeNote p true ch.stale) p.zeroRequest⟩]
              period := .idle
              index := 0
              zero := .none
              stale := false
              zeroTimer := none
              retry := none } ∧
          [⟨c, .stop p.tag⟩, ⟨c, .disarm⟩].Sublist orders) ∧
        ((¬ hit ∨ ch.state ≠ .running ∧ ∀ d, ch.state ≠ .draining d) →
          t.chan c = if x.config.hold = true ∧ s.mode = .run
            then { s with mode := .hold, interlocks := t.interlocks }.looked c ch else ch)

/-- A millisecond of hold dwell (R135): in HOLD every record on the track gathers one, up to the greatest
value, and in every other mode nothing changes. -/
def Obligations.HoldDwellGrows : Prop :=
  ∀ s : State, s.settled = true →
    (s.mode = .hold →
      exec .holdDwellMillisecond s = .next
        { s with track := s.track.map fun r =>
            { r with account := { r.account with holdDwell := min 4294967295 (r.account.holdDwell + 1) } } }) ∧
    (s.mode ≠ .hold → exec .holdDwellMillisecond s = .next s)

/-! ### The line link -/

/-- The receiver (R188): each byte moves it by the table; a bad length or a bad check returns it to HUNT; a
gap or a framing error in a frame returns it to HUNT (R186). A byte after a gap of more than 5 ms is examined in
HUNT, in whatever state the receiver stood. The check of a whole body is that of R187. -/
def Obligations.ReceiverMoves : Prop :=
  ∀ (s : State) (b : Byte), s.settled = true → s.pins.resetHeld = false →
    let move (r : Receiver) : State := { s with link := { s.link with receiver := r, gap := 0 } }
    (s.link.receiver = .hunt ∨ 5 < s.link.gap →
      exec (.receivedByte b) s = .next (move (if b = 0xC3#8 then .length else .hunt))) ∧
    (s.link.gap ≤ 5 →
      (s.link.receiver = .length →
        exec (.receivedByte b) s = .next
          (move (if 1 ≤ b.toNat ∧ b.toNat ≤ 240 then .body b.toNat [] else .hunt))) ∧
      (∀ n stored, s.link.receiver = .body n stored →
        exec (.receivedByte b) s = .next
          (move (if stored.length + 1 = n then .check (stored ++ [b]) none else .body n (stored ++ [b])))) ∧
      (∀ body, s.link.receiver = .check body none →
        exec (.receivedByte b) s = .next (move (.check body (some b)))) ∧
      (∀ body first, s.link.receiver = .check body (some first) →
        checkBytes (BitVec.ofNat 8 body.length :: body) ≠ [first, b] →
        exec (.receivedByte b) s = .next (move .hunt)) ∧
      ∀ kind payload first, s.link.receiver = .check (kind :: payload) (some first) →
        checkBytes (BitVec.ofNat 8 (payload.length + 1) :: kind :: payload) = [first, b] →
        exec (.receivedByte b) s = exec (.frameReceived kind payload) s) ∧
    exec .interByteGap s = .next (move .hunt) ∧ exec .framingError s = .next (move .hunt)

/-- What a complete frame meets (R189, R190, R191): behind a request in hand it waits in the hold buffer, and at a
full one it is discarded; with nothing in hand it is taken. The three checks of R190 in their order: BAD_KIND where the
kind byte is no request kind; BAD_LENGTH exactly where the payload's length is not that of the kind's layout, for a list
by its own count (log 5); BOOTING during BOOT for every kind but QueryLine. A field that holds no defined code is then
answered BAD_VALUE, a SetSegment's once its mode and profile checks are passed (R6, R190, R198; the codes are in part log
5). BAD_KIND is the frame whose kind is no request kind. The same of a request row's request (log 4): during BOOT every
one but QueryLine is answered BOOTING and changes nothing else (R147); QueryLine is answered in BOOT too. -/
def Obligations.FrameMeetsLink : Prop :=
  (∀ (s : State) (k : Byte) (payload : List Byte), s.settled = true → s.pins.resetHeld = false →
      let f : Frame := ⟨k, payload⟩
      let hunting : LineLink := { s.link with receiver := .hunt, gap := 0 }
      (s.link.inHand.isSome = true → s.link.held = none →
        exec (.frameReceived k payload) s = .next { s with link := { hunting with held := some f } }) ∧
      (s.link.inHand.isSome = true → s.link.held.isSome = true →
        exec (.frameReceived k payload) s = .next { s with link := hunting }) ∧
      (s.link.inHand = none → ∀ code, f.parse = .error code →
        exec (.frameReceived k payload) s = .next { s with link := s.link.answered f code .nothing }) ∧
      (s.link.inHand = none → requestKind? k = none →
        exec (.badKind k) s = .next { s with link := s.link.answered ⟨k, []⟩ .badKind .nothing } ∧
        f.parse = .error .badKind)) ∧
  (∀ (s : State) (k : Byte) (payload : List Byte), s.settled = true → s.pins.resetHeld = false →
      s.link.inHand = none →
      let b (place : Nat) : Nat := (payload[place]?.map (·.toNat)).getD 0
      let undefinedCode : Prop :=
        (k = 0x07#8 ∨ k = 0x15#8) ∧ 3 < b 0 ∨ k = 0x0C#8 ∧ 1 < b 11 ∨ (k = 0x0E#8 ∨ k = 0x0F#8) ∧ 1 < b 0 ∨
        k = 0x11#8 ∧ (1 < b 1 ∨ 1 < b 2 ∨ 1 < b 3 ∨ 7 < b 4 ∨ 3 < b 5) ∨
        k = 0x14#8 ∧ (8 < b 1 ∨ 3 < b 2 ∨ 1 < b 6 ∨ 1 < b 7 ∨ 1 < b 8) ∨
        k = 0x02#8 ∧ s.mode = .offline ∧ s.profile ≠ none ∧ (1 < b 0 ∨ 1 < b 2)
      let answered (code : ResultCode) : Prop :=
        exec (.frameReceived k payload) s = .next { s with link := s.link.answered ⟨k, payload⟩ code .nothing }
      (requestKind? k = none ↔ k.toNat = 0 ∨ 0x1A < k.toNat) ∧
      (layoutLength k payload = none ↔ k.toNat = 0 ∨ 0x1A < k.toNat) ∧
      (layoutLength k payload = none → answered .badKind) ∧
      (∀ n, layoutLength k payload = some n → payload.length ≠ n → answered .badLength) ∧
      (layoutLength k payload = some payload.length →
        (∃ r, (Frame.mk k payload).parse = .ok r) ∧
        (s.mode = .boot → k ≠ 0x1A#8 → answered .booting) ∧
        (s.mode ≠ .boot → undefinedCode → answered .badValue))) ∧
  (∀ (i : Instr) (r : Request) (s : State), requestOf i = some r → s.settled = true →
      s.pins.resetHeld = false →
      (s.link.inHand = none → s.mode = .boot → r ≠ .queryLine →
        exec i s = .next { s with link := s.answer r .booting .nothing }) ∧
      (s.link.inHand.isSome = true → s.link.held = none →
        exec i s = .next
          { s with link := { s.link with receiver := .hunt, gap := 0, held := some r.frame } }) ∧
      (s.link.inHand.isSome = true → s.link.held.isSome = true →
        exec i s = .next { s with link := { s.link with receiver := .hunt, gap := 0 } })) ∧
  ∀ s : State, s.settled = true → s.pins.resetHeld = false → s.link.inHand = none →
    exec .queryLine s = .next { s with link := s.answer .queryLine .ok (.line s.lineView) }

/-- The end of a transmission (R189, R192, R193, R194): after a notice the reply that waits is sent, else the
head of the pending notices with the snapshot of that moment; after a reply nothing is in hand, and with no
frame held the head of the pending notices follows. A held frame, a well-formed request or not, is taken in its
place, as a frame received then would be: it is in hand, with its reply in transmission, the receiver as it was.
That TRANSMIT_COMPLETE with an idle transmitter changes nothing is the model's choice: log 1. -/
def Obligations.TransmitCompletes : Prop :=
  ∀ s : State, s.settled = true →
    (s.link.tx = .idle → exec .transmitComplete s = .next s) ∧
    (∀ k x h, s.link.tx = .notice k x → s.link.inHand = some h →
      exec .transmitComplete s = .next { s with link := { s.link with tx := .reply h.reply } }) ∧
    (∀ k x, s.link.tx = .notice k x → s.link.inHand = none →
      exec .transmitComplete s = .next
        { s with link := LineLink.raising { s.link with tx := .idle } s.snapshot [] }) ∧
    (∀ r, s.link.tx = .reply r → s.restartDue = false → s.link.held = none →
      exec .transmitComplete s = .next
        { s with link := LineLink.raising { s.link with tx := .idle, inHand := none } s.snapshot [] }) ∧
    (∀ r f code, s.link.tx = .reply r → s.restartDue = false → s.link.held = some f →
      f.parse = .error code →
      exec .transmitComplete s = .next
        { s with link := { s.link with
          inHand := some ⟨f, ⟨f.kind, code, .nothing⟩, false⟩
          held := none
          tx := .reply ⟨f.kind, code, .nothing⟩ } }) ∧
    (∀ r f, s.link.tx = .reply r → s.restartDue = false → s.link.held = some f →
      (s.pins.resetHeld = false → s.link.receiver = .hunt → s.link.gap = 0 →
        exec .transmitComplete s =
          exec (.frameReceived f.kind f.payload)
            { s with link := { s.link with tx := .idle, inHand := none, held := none } }) ∧
      ∃ t code payload restarts, exec .transmitComplete s = .next t ∧
        t.link.inHand = some ⟨f, ⟨f.kind, code, payload⟩, restarts⟩ ∧
        t.link.tx = .reply ⟨f.kind, code, payload⟩ ∧ t.link.held = none ∧
        t.link.receiver = s.link.receiver ∧ t.link.gap = s.link.gap)

/-- A frame's bytes, received one by one from HUNT, do what the whole frame does (R187, R188, R189). -/
def Obligations.BytesMakeFrame : Prop :=
  ∀ (s : State) (f : Frame), s.settled = true → s.pins.resetHeld = false → s.link.receiver = .hunt →
    s.link.gap = 0 → f.payload.length ≤ 239 →
    ∃ t, exec (.frameReceived f.kind f.payload) s = .next t ∧
      receiveAll f.bytes s = .next t

/-- Every request that can be sent is read from its own frame (R190, R198, R199), so that a request row is the arrival of
its frame (log 4). The frame is spelled out field by field: the kind byte of R199, then the fields in the order in which
the owning chapters list them, each in its width, most significant byte first, AnnouncePanel's in the layout of R199;
the order and widths of the others, and their codes, are in part the model's: log 5. -/
def Obligations.RequestsRoundTrip : Prop :=
  (∀ (i : Instr) (r : Request), i.wf = true → requestOf i = some r →
    r.frame.parse = .ok r ∧
    ∀ s : State, exec i s = exec (.frameReceived r.frame.kind r.frame.payload) s) ∧
  ∀ (i : Instr) (r : Request), requestOf i = some r →
    ∃ kind items, requestItems i = some (kind, items) ∧ r.frame = ⟨BitVec.ofNat 8 kind, spelled items⟩

/-- The check of R187: over the nine ASCII digits 1 to 9 it gives 0x29B1; each byte is combined into the high
eight bits, and each of the eight shifts combines 0x1021 where the bit shifted out was 1; and a frame is the
sync byte, the length, the kind and payload, and the check over all but the sync byte, high byte first (R199). A reply's
payload is its result code and then its result payload (R191), field by field, most significant byte first (R198): the
exit record's 66 bytes in the layout of R199, the failing channel or 0xFF, the mode with its hold causes, the line-stop
causes; the composite items of the queries in the order and widths of log 6, a channel's timing in force as held
(log 34). A notice's kind byte is 0x40 and on, and its payload the five bytes of R193, taken from the state at its sending. -/
def Obligations.CheckComputation : Prop :=
  checkOf (("123456789".toList).map fun ch => BitVec.ofNat 8 ch.toNat) = 0x29B1#16 ∧
  checkOf [] = 0xFFFF#16 ∧
  (∀ (l : List Byte) (b : Byte), checkOf (l ++ [b]) =
    (checkShift^[8]) (checkOf l ^^^ (b.setWidth 16 <<< 8))) ∧
  (∀ r : BitVec 16, checkShift r = (r <<< 1) ^^^ (if r.getLsbD 15 then 0x1021#16 else 0#16)) ∧
  (∀ f : Frame, f.payload.length ≤ 239 →
    f.bytes.length = f.payload.length + 5 ∧
    f.bytes = 0xC3#8 :: BitVec.ofNat 8 (f.payload.length + 1) :: f.kind :: f.payload ++
      (let c := checkOf (BitVec.ofNat 8 (f.payload.length + 1) :: f.kind :: f.payload)
       [(c >>> 8).setWidth 8, c.setWidth 8])) ∧
  (∀ l : List Byte, checkBytes l = [(checkOf l >>> 8).setWidth 8, (checkOf l).setWidth 8]) ∧
  (∀ r : Reply, r.frame = ⟨r.kind, spelled (item 1 r.code.number :: r.payload.items)⟩ ∧
    Transmitter.bytes (.reply r) = r.frame.bytes) ∧
  (∀ x : ExitRecord, (spelled x.items).length = 66) ∧
  ∀ (k : NoticeKind) (s : State),
    let kind := 0x40 +
      [NoticeKind.exit, .interlock, .channelFault, .monitor, .lineMode, .tracking, .lineStop].idxOf k
    let faulted := (Chan.all.filter fun c => (s.chan c).state.isFaulted).length
    noticeFrame k s.snapshot = ⟨BitVec.ofNat 8 kind,
      spelled [item 1 s.mode.place, item 1 s.lineStop.members, item 1 s.exits.length, item 1 faulted,
        item 1 (members (Input.all.map fun i => (s.interlock i).latched))]⟩ ∧
    Transmitter.bytes (.notice k s.snapshot) = (noticeFrame k s.snapshot).bytes

/-! ### Configuration requests -/

/-- SetProfile (R3): in OFFLINE it replaces the whole profile where its fields, its fallback and the defined
segments allow, else BAD_VALUE; in the other modes WRONG_MODE, and BOOTING during BOOT; a refusal changes
nothing. The checks are those of R2 and R3. A fallback recipe is in use from then on. -/
def Obligations.SetProfileResult : Prop :=
  (∀ (s : State) (p : Profile), s.bootReceptive = true →
    exec (.setProfile p) s = .next { s with link := s.answer (.setProfile p) .booting .nothing }) ∧
  (∀ (s : State) (p : Profile) (n : Nat), p.fallback = some n → { s with profile := some p }.inUse n = true) ∧
  ∀ (s : State) (p : Profile), s.receptive = true →
    let ok : Prop :=
      (1000 ≤ p.lineLength ∧ p.lineLength ≤ 16000) ∧ (p.eye ≤ 2000 ∧ p.eye < p.lineLength) ∧
      (1 ≤ p.pulsesPerMm ∧ p.pulsesPerMm ≤ 64) ∧ (100 ≤ p.stallTime ∧ p.stallTime ≤ 10000) ∧
      (100 ≤ p.nominalLength ∧ p.nominalLength ≤ 1500) ∧ (1 ≤ p.tolerance ∧ p.tolerance ≤ 50) ∧
      (∀ n, p.fallback = some n → n ≤ 15 ∧ (s.recipe n).isSome = true) ∧ p.fallbackAreaA ≤ 20000 ∧
      p.fallbackAreaB ≤ 20000 ∧ (10 ≤ p.zeroInterval ∧ p.zeroInterval ≤ 600) ∧
      (∀ g : Fin 4, 100 ≤ p.spacing[g] ∧ p.spacing[g] ≤ 5000) ∧
      (500 ≤ p.contactorRest ∧ p.contactorRest ≤ 10000) ∧
      ∀ c r, s.segment c = some r → r.start + r.length ≤ p.lineLength
    (s.mode ≠ .offline →
      exec (.setProfile p) s = .next { s with link := s.answer (.setProfile p) .wrongMode .nothing }) ∧
    (s.mode = .offline → ok →
      exec (.setProfile p) s = .next
        { s with profile := some p, link := s.answer (.setProfile p) .ok .nothing }) ∧
    (s.mode = .offline → ¬ ok →
      exec (.setProfile p) s = .next { s with link := s.answer (.setProfile p) .badValue .nothing })

/-- SetSegment and SetLimits (R5, R6, R7): the channel a side and an index name, what each replaces, and when each is
refused: a field outside its range, and an extent that shares a millimetre with another defined record of the same
side. A record to be made undefined has its other fields not checked. -/
def Obligations.SegmentRequests : Prop :=
  ∀ s : State, s.receptive = true →
    (∀ side index record,
      let r : Request := .setSegment (some (side, index, record))
      let names (c : Chan) : Prop := index ≤ 19 ∧
        c.val = match side with
          | .a => index
          | .b => 20 + index
      let fits (p : Profile) (c : Chan) (seg : Segment) : Prop :=
        seg.start < p.lineLength ∧ 50 ≤ seg.length ∧ seg.length ≤ 2000 ∧
        seg.start + seg.length ≤ p.lineLength ∧ 1 ≤ seg.forwardLimit ∧ seg.forwardLimit ≤ 8000 ∧
        seg.reverseLimit ≤ 24000 ∧ seg.group ≤ 3 ∧
        ∀ (d : Chan) (other : Segment), d ≠ c → (d.val < 20 ↔ c.val < 20) → s.segment d = some other →
          seg.start + seg.length ≤ other.start ∨ other.start + other.length ≤ seg.start
      (s.mode ≠ .offline →
        exec (.setSegment side index record) s = .next { s with link := s.answer r .wrongMode .nothing }) ∧
      (s.mode = .offline → s.profile = none →
        exec (.setSegment side index record) s = .next
          { s with link := s.answer r .notConfigured .nothing }) ∧
      (s.mode = .offline → ∀ p, s.profile = some p →
        (∀ c, names c → record = none →
          exec (.setSegment side index record) s = .next
            { s with segments := s.segments.set c none, link := s.answer r .ok .nothing }) ∧
        (∀ c seg, names c → record = some seg → fits p c seg →
          exec (.setSegment side index record) s = .next
            { s with segments := s.segments.set c (some seg), link := s.answer r .ok .nothing }) ∧
        ((19 < index ∨ ∃ c seg, names c ∧ record = some seg ∧ ¬ fits p c seg) →
          exec (.setSegment side index record) s = .next
            { s with link := s.answer r .badValue .nothing }))) ∧
    (∀ channel forward reverse,
      let r : Request := .setLimits channel forward reverse
      (∀ (c : Chan) seg, c.val = channel → s.segment c = some seg → 1 ≤ forward → forward ≤ 8000 →
        reverse ≤ 24000 →
        exec (.setLimits channel forward reverse) s = .next
          { s with
            segments := s.segments.set c
              (some { seg with forwardLimit := forward, reverseLimit := reverse })
            link := s.answer r .ok .nothing }) ∧
      ((40 ≤ channel ∨ (∃ c : Chan, c.val = channel ∧ s.segment c = none) ∨ forward = 0 ∨ 8000 < forward ∨
          24000 < reverse) →
        exec (.setLimits channel forward reverse) s = .next
          { s with link := s.answer r .badValue .nothing }))

/-- SetRecipe, ClearRecipe and SetRamp (R42, R46, R47, R48, R50, R53, R54): the first check that fails decides the
reply and changes nothing; a taken one replaces the record, makes it undefined, or replaces the table. What a valid
recipe is, when a recipe is in use, and what a ramp table must be are spelled out. -/
def Obligations.RecipeRequests : Prop :=
  ∀ s : State, s.receptive = true →
    let used (n : Nat) : Prop :=
      (∃ e ∈ s.staging, e.recipe = n) ∨ (∃ r ∈ s.track, r.recipe = some n) ∨
      ∃ p, s.profile = some p ∧ p.fallback = some n
    (∀ n (rec : Recipe),
      let replied (code : ResultCode) := exec (.setRecipe n rec) s = .next
        { s with link := s.answer (.setRecipe n rec) code .nothing }
      let ranges : Prop :=
        (1 ≤ rec.timing.fwd ∧ rec.timing.fwd ≤ 500) ∧ rec.timing.rest1 ≤ 20 ∧ rec.timing.rev ≤ 50 ∧
        rec.timing.rest2 ≤ 20 ∧ rec.rampTable ≤ 3 ∧ rec.holdFraction ≤ 100 ∧
        (∀ x, rec.target = some x → 1 ≤ x ∧ x ≤ 100000) ∧ (1 ≤ rec.tolerance ∧ rec.tolerance ≤ 50) ∧
        (1 ≤ rec.stages.length ∧ rec.stages.length ≤ 4) ∧
        ∀ st ∈ rec.stages, st.start ≤ 16000 ∧ st.forwardDensity ≤ 1500 ∧ st.reverseDensity ≤ 6000
      let valid : Prop :=
        ranges ∧ (∀ st, rec.stages.head? = some st → st.start = 0) ∧
        (rec.stages.map (·.start)).Pairwise (· < ·) ∧
        ∀ st ∈ rec.stages, (rec.timing.rev = 0 → st.reverseDensity = 0) ∧
          (st.reverseDensity ≠ 0 → st.reverseDensity * rec.timing.rev < st.forwardDensity * rec.timing.fwd)
      ((15 < n ∨ ¬ valid) → replied .badValue) ∧ (n ≤ 15 → valid → used n → replied .inUse) ∧
      (∀ k : Fin 16, k.val = n → valid → ¬ used n →
        exec (.setRecipe n rec) s = .next
          { s with
            recipes := s.recipes.set k (some rec)
            link := s.answer (.setRecipe n rec) .ok .nothing })) ∧
    (∀ n,
      let replied (code : ResultCode) := exec (.clearRecipe n) s = .next
        { s with link := s.answer (.clearRecipe n) code .nothing }
      (15 < n → replied .badValue) ∧
      (n ≤ 15 → s.recipe n = none → replied .notFound) ∧
      (n ≤ 15 → (s.recipe n).isSome = true → used n → replied .inUse) ∧
      (∀ k : Fin 16, k.val = n → (s.recipe n).isSome = true → ¬ used n →
        exec (.clearRecipe n) s = .next
          { s with recipes := s.recipes.set k none, link := s.answer (.clearRecipe n) .ok .nothing })) ∧
    (∀ table steps,
      let replied (code : ResultCode) := exec (.setRamp table steps) s = .next
        { s with link := s.answer (.setRamp table steps) code .nothing }
      let good : Prop := 1 ≤ steps.length ∧ steps.length ≤ 16 ∧ (∀ x ∈ steps, 1 ≤ x ∧ x ≤ 100) ∧
        steps.Pairwise (· < ·) ∧ steps.getLast? = some 100
      (s.mode ≠ .offline → replied .wrongMode) ∧
      (s.mode = .offline → (3 < table ∨ ¬ good) → replied .badValue) ∧
      (s.mode = .offline → good → ∀ k : Fin 4, k.val = table →
        exec (.setRamp table steps) s = .next
          { s with ramps := s.ramps.set k steps, link := s.answer (.setRamp table steps) .ok .nothing }))

/-! ### Modes -/

/-- SetMode RUN (R149, R150, R156, R71, R75). From STANDBY every channel draining to READY is RUNNING again
with its ramp index two above the drain index, and every READY channel has a start occasion (R63), an ALIGN entry being
sampled by the monitor (R174), whose notice follows the reply (R178, R194); the channels act in increasing number (log
15). -/
def Obligations.SetModeRunResult : Prop :=
  ∀ s : State, s.receptive = true →
    let r : Request := .setMode (some .run)
    let refused (code : ResultCode) := exec .setModeRun s = .next { s with link := s.answer r code .nothing }
    let restarted : Conveyor := { s.conveyor with stall := .running s.prof.stallTime }
    let holding : Prop := ∃ j, (s.interlock j).latched = true ∧ (s.interlock j).config.hold = true
    (s.mode = .run →
      exec .setModeRun s = .next { s with link := s.answer r .ok (.mode .run s.holdCauses) }) ∧
    (s.mode = .offline →
      ((s.profile = none ∨ ∀ c, s.segment c = none) → refused .notConfigured) ∧
      (s.profile.isSome = true → (∃ c, (s.segment c).isSome = true) →
        (holding → refused .stillActive) ∧
        (¬ holding →
          exec .setModeRun s = .next
            { s with
              mode := .run
              conveyor := ⟨0, 0, s.pins.eye, none, .running s.prof.stallTime⟩
              link := s.answer r .ok (.mode .run s.holdCauses) }))) ∧
    (s.mode = .hold →
      let causes : HoldCauses := { s.holdCauses with command := false }
      (s.holdCauses.interlock = true → refused .stillActive) ∧
      (s.holdCauses.interlock = false → s.holdCauses.stall = true →
        exec .setModeRun s = .next
          { s with holdCauses := causes, link := s.answer r .ok (.mode .hold causes) }) ∧
      (s.holdCauses.interlock = false → s.holdCauses.stall = false →
        exec .setModeRun s = .next
          { s with
            mode := .run
            holdCauses := causes
            conveyor := restarted
            channels := s.channels.map fun ch => if ch.state = .running then { ch with index := 0 } else ch
            link := s.answer r .ok (.mode .run causes) })) ∧
    (s.mode = .standby →
      (holding → refused .stillActive) ∧
      (¬ holding →
        let t := State.runsStarted
          { s with
            mode := .run
            conveyor := restarted
            channels := s.channels.map fun ch =>
              if ch.state = .draining .ready then { ch with state := .running, index := ch.index + 2 } else ch }
          Chan.all
        exec .setModeRun s = .next
          (t.replied r (.mode .run s.holdCauses) (monitorNotice s.monitor t.monitor)) ∧
        ∀ c, (s.chan c).state ≠ .draining .ready → (s.chan c).state ≠ .ready → t.chan c = s.chan c))

/-- SetMode HOLD, STANDBY and OFFLINE (R149, R151, R152, R153, R156, R72, R122). At the entry into HOLD from RUN every
READY channel has a start occasion (R63), an ALIGN entry being sampled by the monitor, whose notice follows the reply
(R174, R178). At the entry into STANDBY a RUNNING channel with a period in flight drains to READY, and one in ALIGN is
READY at once, with the lone Zero Order that then falls due (R80; logs 9 and 10); every other channel is untouched. The
channels act in increasing number (log 15). -/
def Obligations.SetModeOtherResults : Prop :=
  ∀ s : State, s.receptive = true →
    (let r : Request := .setMode (some .hold)
     let causes : HoldCauses := { s.holdCauses with command := true }
     ((s.mode = .offline ∨ s.mode = .standby) →
       exec .setModeHold s = .next { s with link := s.answer r .wrongMode .nothing }) ∧
     (s.mode = .hold →
       exec .setModeHold s = .next { s with holdCauses := causes, link := s.answer r .ok (.mode .hold causes) }) ∧
     (s.mode = .run →
       let t := State.runsStarted { s with mode := .hold, holdCauses := causes } Chan.all
       exec .setModeHold s = .next
         (t.replied r (.mode .hold causes) (monitorNotice s.monitor t.monitor)) ∧
       ∀ c, (s.chan c).state ≠ .ready → t.chan c = s.chan c)) ∧
    (let r : Request := .setMode (some .standby)
     (s.mode = .offline → exec .setModeStandby s = .next { s with link := s.answer r .wrongMode .nothing }) ∧
     (s.mode = .standby →
       exec .setModeStandby s = .next { s with link := s.answer r .ok (.mode .standby s.holdCauses) }) ∧
     ((s.mode = .run ∨ s.mode = .hold) →
       let leaves (c : Chan) : Channel × List OrderBody :=
         let ch := s.chan c
         match ch.state, ch.period with
         | .running, .delivering p =>
           ({ ch with
             state := .draining .ready
             index := min ch.index (s.rampOf p.record.governor).length - 2 }, [])
         | .running, _ => ch.readied
         | _, _ => (ch, [])
       let t : State :=
         { s with
           mode := .standby
           holdCauses := ⟨false, false, false⟩
           channels := Vector.ofFn fun c : Fin 40 => (leaves c).1 }
       exec .setModeStandby s = .next
         ((t.sent (Chan.all.flatMap fun c => ordersTo c (leaves c).2)).replied r
           (.mode .standby ⟨false, false, false⟩) []))) ∧
    (let r : Request := .setMode (some .offline)
     let refused (code : ResultCode) :=
       exec .setModeOffline s = .next { s with link := s.answer r code .nothing }
     (s.mode = .offline →
       exec .setModeOffline s = .next { s with link := s.answer r .ok (.mode .offline s.holdCauses) }) ∧
     (s.mode ≠ .offline → s.track ≠ [] → refused .trackNotEmpty) ∧
     (s.mode ≠ .offline → s.track = [] → (∃ c, (s.chan c).state.isOut = false) → refused .channelsArmed) ∧
     (s.mode ≠ .offline → s.track = [] → (∀ c, (s.chan c).state.isOut = true) →
       exec .setModeOffline s = .next
         { s with
           mode := .offline
           holdCauses := ⟨false, false, false⟩
           conveyor := { s.conveyor with stall := .stopped }
           groups := .replicate 4 ⟨[], none⟩
           link := s.answer r .ok (.mode .offline ⟨false, false, false⟩) }))

/-- Restart (R146): taken in OFFLINE or with the track empty, it replies OK and changes nothing yet; its reset
awaits the end of that reply. With a record on the track in RUN, HOLD or STANDBY it is refused WRONG_MODE. -/
def Obligations.RestartResult : Prop :=
  ∀ s : State, s.receptive = true →
    ((s.mode = .offline ∨ s.track = []) →
      ∃ t, exec .restart s = .next t ∧
        t = { s with link := { s.answer .restart .ok .nothing with
          inHand := some ⟨Request.restart.frame, ⟨0x08#8, .ok, .nothing⟩, true⟩ } } ∧
        (s.link.tx = .idle → t.restartDue = true)) ∧
    (s.mode ≠ .offline → s.track ≠ [] →
      exec .restart s = .next { s with link := s.answer .restart .wrongMode .nothing })

/-! ### Channel requests -/

/-- ArmChannels (R106, R107, R109, R110, R75): refused in OFFLINE, for a bad list, and for a list with a FAULTED channel,
the first failing channel of the check that decides in the reply. A taken list acts on each channel at its first place, in
list order: a DORMANT channel not queued joins its group's queue, and the arbiter looks, granting the oldest queued
channel out of rest where it may; a drain to DORMANT is cancelled, and the channel is RUNNING, in STANDBY too (log 31);
in the other states nothing changes. On a list of one channel that is spelled out. -/
def Obligations.ArmChannelsResult : Prop :=
  ∀ s : State, s.receptive = true →
    (∀ l, s.mode = .offline →
      exec (.armChannels l) s = .next { s with link := s.answer (.armChannels l) .wrongMode .nothing }) ∧
    (∀ l, s.mode ≠ .offline → (l = [] ∨ 40 < l.length) →
      exec (.armChannels l) s = .next
        { s with link := s.answer (.armChannels l) .badValue (.failing none) }) ∧
    (∀ l, s.mode ≠ .offline → l ≠ [] → l.length ≤ 40 →
      let r : Request := .armChannels l
      let known (n : Nat) : Prop := ∃ c : Chan, c.val = n ∧ (s.segment c).isSome = true
      let out (n : Nat) : Prop := ∃ c : Chan, c.val = n ∧ (s.chan c).state.isFaulted = true
      (∀ before n after, l = before ++ n :: after → (∀ m ∈ before, known m) → ¬ known n →
        exec (.armChannels l) s = .next { s with link := s.answer r .badValue (.failing (some n)) }) ∧
      (∀ before n after, l = before ++ n :: after → (∀ m ∈ l, known m) → (∀ m ∈ before, ¬ out m) → out n →
        exec (.armChannels l) s = .next { s with link := s.answer r .channelState (.failing (some n)) }) ∧
      (∀ cs : List Chan, cs.map (·.val) = l.eraseDups → (∀ m ∈ l, known m ∧ ¬ out m) →
        exec (.armChannels l) s = .next ((s.quiet.each cs State.armed).answered r))) ∧
    ∀ n, s.mode ≠ .offline →
      let r : Request := .armChannels [n]
      ((∀ c : Chan, c.val = n → s.segment c = none) →
        exec (.armChannels [n]) s = .next { s with link := s.answer r .badValue (.failing (some n)) }) ∧
      ∀ (c : Chan) (g : BusGroup), c.val = n → s.busGroup c = some g →
        let ch := s.chan c
        let queue := (s.group g).queue
        let armingHere : Prop := ∃ d, s.busGroup d = some g ∧ (s.chan d).state.isArming = true
        (ch.state.isFaulted = true →
          exec (.armChannels [n]) s = .next
            { s with link := s.answer r .channelState (.failing (some n)) }) ∧
        ((ch.state.isArming = true ∨ ch.state = .ready ∨ ch.state = .running ∨ ch.state = .draining .ready ∨
            ch.state = .dormant ∧ c ∈ s.allQueued) →
          exec (.armChannels [n]) s = .next { s with link := s.answer r .ok .nothing }) ∧
        (ch.state = .draining .dormant →
          exec (.armChannels [n]) s = .next
            { s with
              channels := s.withChan c { ch with state := .running, index := ch.index + 2 }
              link := s.answer r .ok .nothing }) ∧
        (ch.state = .dormant → c ∉ s.allQueued → armingHere →
          exec (.armChannels [n]) s = .next
            { s with
              groups := s.groups.set g { s.group g with queue := queue ++ [c] }
              link := s.answer r .ok .nothing }) ∧
        (ch.state = .dormant → c ∉ s.allQueued → ¬ armingHere → queue = [] → ch.rest = none →
          (s.group g).sinceGrant.all (fun t => s.prof.spacing[g] ≤ t) = true →
          exec (.armChannels [n]) s = .next
            { s with
              channels := s.withChan c
                { ch with
                  state := .arming 2000
                  contactorClosed := true
                  missing := 0
                  forward := 0
                  reverse := 0 }
              groups := s.groups.set g ⟨[], some 0⟩
              moduleLink := s.moduleLink.ordering [⟨c, .arm⟩]
              link := s.answer r .ok .nothing })

/-- DisarmChannels and ClearFault (R111, R112, R113, R114, R72, R73): refused for a bad list, ClearFault with the first
channel that fails the deciding check. A taken DisarmChannels acts on each channel at its first place, in list order, the
end of an ARMING being an occasion of the arbiter (R109, R111), as a list of one channel in each of the six states
spells out, a profile defined and none waiting to arm behind an ARMING. A taken ClearFault makes every channel named
DORMANT with its contactor rest running; without a profile that rest is open (log 8). -/
def Obligations.DisarmAndClearResults : Prop :=
  (∀ (s : State) (l : List Nat), s.receptive = true →
    ((l = [] ∨ 40 < l.length ∨ ∃ n ∈ l, 40 ≤ n) →
      exec (.disarmChannels l) s = .next { s with link := s.answer (.disarmChannels l) .badValue .nothing }) ∧
    ((l = [] ∨ 40 < l.length) →
      exec (.clearFault l) s = .next
        { s with link := s.answer (.clearFault l) .badValue (.failing none) }) ∧
    (l ≠ [] → l.length ≤ 40 →
      let r : Request := .clearFault l
      let out (n : Nat) : Prop := ∃ c : Chan, c.val = n ∧ (s.chan c).state.isFaulted = true
      let cleared (rest : Chan → Option Nat) (free : Nat) : State :=
        { s with
          channels := Vector.ofFn fun c : Fin 40 =>
            if c.val ∈ l then { s.chan c with state := .dormant, rest := rest c } else s.chan c
          freeCount := free
          link := s.answer r .ok .nothing }
      (∀ cs : List Chan, cs.map (·.val) = l.eraseDups →
        exec (.disarmChannels l) s = .next ((s.quiet.each cs State.disarmed).answered (.disarmChannels l))) ∧
      (∀ before n after, l = before ++ n :: after → (∀ m ∈ before, m < 40) → 40 ≤ n →
        exec (.clearFault l) s = .next { s with link := s.answer r .badValue (.failing (some n)) }) ∧
      (∀ before n after, l = before ++ n :: after → (∀ m ∈ l, m < 40) → (∀ m ∈ before, out m) → ¬ out n →
        exec (.clearFault l) s = .next { s with link := s.answer r .channelState (.failing (some n)) }) ∧
      ((∀ m ∈ l, out m) →
        (∀ p, s.profile = some p →
          exec (.clearFault l) s = .next (cleared (fun _ => some p.contactorRest) s.freeCount)) ∧
        (s.profile = none → ∃ rest : Chan → Option (Fin 10001),
          exec (.clearFault l) s = .next
            (cleared (fun c => (rest c).map (·.val)) (s.freeCount + l.eraseDups.length)))))) ∧
  ∀ (s : State) (n : Nat) (c : Chan) (p : Profile), s.receptive = true → c.val = n → s.profile = some p →
    let ch := s.chan c
    let r : Request := .disarmChannels [n]
    let changed (ch' : Channel) (orders : List Order) : State :=
      { s with
        channels := s.withChan c ch'
        moduleLink := s.moduleLink.ordering orders
        link := s.answer r .ok .nothing }
    let out : Channel :=
      { ch with
        state := .dormant
        contactorClosed := false
        rest := some p.contactorRest
        forward := 0
        reverse := 0
        period := .idle
        index := 0
        zero := .none
        stale := false
        zeroTimer := none
        retry := none }
    (ch.state = .dormant →
      exec (.disarmChannels [n]) s = .next
        { s with
          groups := s.groups.map fun q => { q with queue := q.queue.filter (· ≠ c) }
          link := s.answer r .ok .nothing }) ∧
    ((ch.state = .ready ∨ ch.state.isArming = true ∧ s.allQueued = []) →
      exec (.disarmChannels [n]) s = .next (changed out [⟨c, .disarm⟩])) ∧
    (∀ g, ch.state = .running → ch.period = .align g →
      exec (.disarmChannels [n]) s = .next (changed out [⟨c, .disarm⟩])) ∧
    (∀ q, ch.state = .running → ch.period = .delivering q →
      exec (.disarmChannels [n]) s = .next
        (changed { ch with
          state := .draining .dormant
          index := min ch.index (s.rampOf q.record.governor).length - 2 } [])) ∧
    (∀ d, ch.state = .draining d →
      exec (.disarmChannels [n]) s = .next (changed { ch with state := .draining .dormant } [])) ∧
    (∀ cause, ch.state = .faulted cause →
      exec (.disarmChannels [n]) s = .next (changed ch []) ∧
      exec (.clearFault [n]) s = .next
        { s with
          channels := s.withChan c { ch with state := .dormant, rest := some p.contactorRest }
          link := s.answer (.clearFault [n]) .ok .nothing }) ∧
    (ch.state.isFaulted = false →
      exec (.clearFault [n]) s = .next
        { s with link := s.answer (.clearFault [n]) .channelState (.failing (some n)) })

/-! ### Panel requests -/

/-- AnnouncePanel and WithdrawPanel (R21, R22): the checks in their order; a taken one appends the entry, or
removes the one with that id, the others keeping their order; a refused one changes nothing; BOOTING during BOOT.
The recipe of an entry in the queue is in use. -/
def Obligations.StagingRequests : Prop :=
  (∀ s : State, s.bootReceptive = true →
    (∀ e, exec (.announcePanel e) s = .next
      { s with link := s.answer (.announcePanel (some e)) .booting .nothing }) ∧
    ∀ id, exec (.withdrawPanel id) s = .next
      { s with link := s.answer (.withdrawPanel id) .booting .nothing }) ∧
  (∀ (s : State) (e : StagingEntry), { s with staging := s.staging ++ [e] }.inUse e.recipe = true) ∧
  ∀ s : State, s.receptive = true →
    (∀ e : StagingEntry,
      let r : Request := .announcePanel (some e)
      let replied (code : ResultCode) :=
        exec (.announcePanel e) s = .next { s with link := s.answer r code .nothing }
      let good : Prop := e.panelId ≠ 0 ∧ e.recipe ≤ 15 ∧ (s.recipe e.recipe).isSome = true ∧
        (∀ n, e.announced = some n → 100 ≤ n ∧ n ≤ 1500) ∧ e.areaA ≤ 20000 ∧ e.areaB ≤ 20000
      let known : Prop :=
        (∃ x ∈ s.staging, x.panelId = e.panelId) ∨ ∃ x ∈ s.track, x.panelId = e.panelId
      (¬ good → replied .badValue) ∧ (good → known → replied .duplicateId) ∧
      (good → ¬ known → 8 ≤ s.staging.length → replied .full) ∧
      (good → ¬ known → s.staging.length < 8 →
        exec (.announcePanel e) s = .next
          { s with staging := s.staging ++ [e], link := s.answer r .ok .nothing })) ∧
    (∀ id,
      let r : Request := .withdrawPanel id
      let replied (code : ResultCode) :=
        exec (.withdrawPanel id) s = .next { s with link := s.answer r code .nothing }
      (id = 0 → replied .badValue) ∧
      (id ≠ 0 → (∀ e ∈ s.staging, e.panelId ≠ id) → replied .notFound) ∧
      (∀ before e after, id ≠ 0 → s.staging = before ++ e :: after → e.panelId = id →
        (∀ x ∈ before ++ after, x.panelId ≠ id) →
        exec (.withdrawPanel id) s = .next
          { s with staging := before ++ after, link := s.answer r .ok .nothing }))

/-- RemovePanel by panel id or by entry number (R28, R34, R36, R37, R38, R39): refused for id 0 or entry number 0, and
where no record on the track holds the name; a DEPARTING record stays as it is; else the record is DEPARTING with cause
REMOVED, an ENTERING one with PROVISIONAL_LENGTH; the channels in ALIGN towards it apply the governor rule at once (R67);
and then, with nothing in flight, it leaves as the exit list's last record, with EXIT, EXIT_HIGH at 12 with LINE_STOP
(R170; after EXIT, log 14), and at 16 in place of the head with LOSS_BEFORE; the rule before the leaving is log 39, the
channels in increasing number log 15, a lone Zero Order logs 9 and 10. The reply goes before the
notices. A record with something in flight waits on the track. -/
def Obligations.RemovePanelResult : Prop :=
  ∀ (s : State) (name : PanelName), s.receptive = true →
    let q : Request := .removePanel (some name)
    let replied (code : ResultCode) := exec (.removePanel name) s = .next { s with link := s.answer q code .nothing }
    let good : Prop := match name with
      | .byId n => n ≠ 0
      | .byEntry n => 1 ≤ n ∧ n ≤ 65535
    let holds (r : TrackRecord) : Prop := match name with
      | .byId n => r.panelId = n
      | .byEntry n => r.entry = n
    (¬ good → replied .badValue) ∧ (good → (∀ r ∈ s.track, ¬ holds r) → replied .notFound) ∧
    ∀ before r after, good → s.track = before ++ r :: after → holds r → (∀ x ∈ before, ¬ holds x) →
      (r.departing = true → replied .ok) ∧
      (r.departing = false →
        let depart (x : TrackRecord) : TrackRecord :=
          { x with
            state := .departing .removed
            provisionalLength := x.provisionalLength || decide (x.state = .entering) }
        let t : State := { s with track := s.track.map fun x => if x.entry = r.entry then depart x else x }
        exec (.removePanel name) s = .next
          (((t.quiet.each Chan.all State.reawaits).andThen (State.left r.entry)).answered q) ∧
        ((∀ x ∈ before ++ after, x.entry ≠ r.entry) → (∀ c, (s.chan c).period ≠ .align r.entry) →
          (∀ c g, (s.chan c).period = .align g → ∀ x ∈ s.track, x.entry = g → x.departing = false) →
          (0 < r.inFlight →
            exec (.removePanel name) s = .next
              { s with track := before ++ depart r :: after, link := s.answer q .ok .nothing }) ∧
          (r.inFlight = 0 →
            let x := s.exitRecord (depart r)
            let causes := if s.exits.length = 11 then { s.lineStop with exitHigh := true } else s.lineStop
            let gone (exits : List ExitRecord) : State :=
              { s with track := before ++ after, exits := exits, lineStop := causes }
            (s.exits.length < 16 →
              exec (.removePanel name) s = .next
                ((gone (s.exits ++ [x])).replied q .nothing (.exit :: lineStopNotice s.lineStop causes))) ∧
            (∀ head rest, s.exits = head :: rest → 16 ≤ s.exits.length →
              exec (.removePanel name) s = .next
                ((gone (rest ++ [{ x with lossBefore := true }])).replied q .nothing [.exit])))))

/-- CollectExit (R39, R141): the head of the exit list, which it removes, clearing EXIT_HIGH where the count
goes from 12 to 11; EMPTY with the list empty; BOOTING during BOOT. -/
def Obligations.CollectExitResult : Prop :=
  (∀ s : State, s.bootReceptive = true →
    exec .collectExit s = .next { s with link := s.answer .collectExit .booting .nothing }) ∧
  ∀ s : State, s.receptive = true →
    (s.exits = [] →
      exec .collectExit s = .next { s with link := s.answer .collectExit .empty .nothing }) ∧
    ∀ e rest, s.exits = e :: rest →
      exec .collectExit s = .next
        { s with
          exits := rest
          lineStop := if rest.length = 11 then { s.lineStop with exitHigh := false } else s.lineStop
          link := s.answer .collectExit .ok (.exit e) }

/-! ### Interlock requests and the line stop -/

/-- SetInterlock and AckInterlock (R161, R163): the refusals; the replacement of the record of an input whose latch is
clear, which latches where it is then an enabled active LEVEL input (R162); the clearing of a latch, by AckInterlock
or by disabling the input: the channels no longer inhibited, where READY, have ramp index 0 and a start occasion
(R166); INTERLOCK leaves the line-stop cause set with the last STOP latch (R168), and turns into COMMAND with the
last HOLD latch (R157). A latch made acts as one at an input's change: the notices in the order of log 14, the actions
of log 16, a ramp index left open after a drain log 7, a lone Zero Order at a DROP in ALIGN log 35 (logs 9 and 10). The
channels act in increasing number (log 15). -/
def Obligations.InterlockRequests : Prop :=
  (∀ (s : State) (n : Nat) (k : InterlockConfig), s.receptive = true → 7 < n →
    exec (.setInterlock n k) s = .next { s with link := s.answer (.setInterlock n (some k)) .badValue .nothing } ∧
    exec (.ackInterlock n) s = .next { s with link := s.answer (.ackInterlock n) .badValue .nothing }) ∧
  ∀ (s : State) (i : Input) (n : Nat), s.receptive = true → i.val = n →
    let x := s.interlock i
    (∀ k : InterlockConfig,
      let r : Request := .setInterlock n (some k)
      let good : Prop := k.first ≤ 19 ∧ k.last ≤ 19 ∧ k.first ≤ k.last ∧
        (k.drop = true → k.sideA = true ∨ k.sideB = true)
      (¬ good → exec (.setInterlock n k) s = .next { s with link := s.answer r .badValue .nothing }) ∧
      (good → x.latched = true → k.enabled = true →
        exec (.setInterlock n k) s = .next { s with link := s.answer r .inUse .nothing }) ∧
      (good → x.latched = true → k.enabled = false →
        let t := s.unlatched i
        exec (.setInterlock n k) s = .next
          ({ t with interlocks := s.interlocks.set i ⟨k, false, x.level⟩ }.replied r .nothing
            (monitorNotice s.monitor t.monitor))) ∧
      (good → x.latched = false → (k.enabled = false ∨ k.sense = .edge ∨ x.level ≠ k.activeLevel) →
        exec (.setInterlock n k) s = .next
          { s with
            interlocks := s.interlocks.set i { x with config := k }
            link := s.answer r .ok .nothing }) ∧
      (good → x.latched = false → k.enabled = true → k.sense = .level → x.level = k.activeLevel →
        ∃ t notices, { s with interlocks := s.interlocks.set i { x with config := k } }.Latches i t notices ∧
          exec (.setInterlock n k) s = .next (t.replied r .nothing notices))) ∧
    (let r : Request := .ackInterlock n
     (x.latched = false → exec (.ackInterlock n) s = .next { s with link := s.answer r .ok .nothing }) ∧
     (x.latched = true → x.config.sense = .level → x.level = x.config.activeLevel →
       exec (.ackInterlock n) s = .next { s with link := s.answer r .stillActive .nothing }) ∧
     (x.latched = true → (x.config.sense = .edge ∨ x.level ≠ x.config.activeLevel) →
       let t := s.unlatched i
       exec (.ackInterlock n) s = .next (t.replied r .nothing (monitorNotice s.monitor t.monitor)))) ∧
    (let t := s.unlatched i
     let others (f : InterlockConfig → Bool) : Prop :=
       ∃ j, j ≠ i ∧ (s.interlock j).latched = true ∧ f (s.interlock j).config = true
     (x.config.stop = true → ¬ others (·.stop) → t.lineStop = { s.lineStop with interlock := false }) ∧
     ((x.config.stop = false ∨ others (·.stop)) → t.lineStop = s.lineStop) ∧
     (x.config.hold = true → ¬ others (·.hold) → s.holdCauses.interlock = true →
       t.holdCauses = { s.holdCauses with interlock := false, command := true }) ∧
     ((x.config.hold = false ∨ others (·.hold) ∨ s.holdCauses.interlock = false) →
       t.holdCauses = s.holdCauses) ∧
     ∀ c, s.inhibited c = false ∨ t.inhibited c = true ∨ (s.chan c).state ≠ .ready →
       t.chan c = s.chan c)

/-- ClearLineStop (R171): TRACK_FULL, EYE_STUCK and REVERSE_LIMIT go, EXIT_HIGH and INTERLOCK stay, and the
reply carries the set after; during BOOT it is answered BOOTING. -/
def Obligations.ClearLineStopResult : Prop :=
  (∀ s : State, s.receptive = true →
    let causes : LineStopCauses := ⟨false, false, false, s.lineStop.exitHigh, s.lineStop.interlock⟩
    let t : State := { s with lineStop := causes, link := s.answer .clearLineStop .ok (.lineStop causes) }
    exec .clearLineStop s = .next t ∧
    t.lineStopOutput = (s.lineStop.exitHigh || s.lineStop.interlock)) ∧
  ∀ s : State, s.bootReceptive = true →
    exec .clearLineStop s = .next { s with link := s.answer .clearLineStop .booting .nothing }

/-! ### Process Monitor and anode counters -/

/-- SetMonitor and ControlMonitor (R179, R180): BAD_VALUE for a counter above 7, a selected channel above 39, a
threshold 0 with edge or invert, or a band without width; a program replaced with its results cleared; the freeze flag
set and cleared; counts and histories, or overflow flags, cleared unless the monitor is frozen. -/
def Obligations.MonitorRequests : Prop :=
  ∀ s : State, s.receptive = true →
    (∀ (n : Nat) (p : MonitorProgram),
      let r : Request := .setMonitor n (some p)
      let good : Prop :=
        (∀ c, p.selector = .one c → c ≤ 39) ∧ (p.threshold = 0 → p.edge = false ∧ p.invert = false) ∧
        (p.event = .band → p.bandLow ≤ p.bandHigh)
      ((7 < n ∨ ¬ good) →
        exec (.setMonitor n p) s = .next { s with link := s.answer r .badValue .nothing }) ∧
      (n ≤ 7 → good → s.monitor.frozen = true →
        exec (.setMonitor n p) s = .next { s with link := s.answer r .stillActive .nothing }) ∧
      (∀ k : Fin 8, k.val = n → good → s.monitor.frozen = false →
        exec (.setMonitor n p) s = .next
          { s with
            monitor := ⟨s.monitor.counters.set k ⟨p, 0, false, .replicate 40 false⟩, false⟩
            link := s.answer r .ok .nothing })) ∧
    (let replied (op : MonitorOperation) (code : ResultCode) (m : Monitor) : State :=
      { s with monitor := m, link := s.answer (.controlMonitor (some op)) code .nothing }
     exec .freeze s = .next (replied .freeze .ok { s.monitor with frozen := true }) ∧
     exec .unfreeze s = .next (replied .unfreeze .ok { s.monitor with frozen := false }) ∧
     (s.monitor.frozen = true →
       exec .resetCounts s = .next (replied .resetCounts .stillActive s.monitor) ∧
       exec .clearOverflow s = .next (replied .clearOverflow .stillActive s.monitor)) ∧
     (s.monitor.frozen = false →
       exec .resetCounts s = .next (replied .resetCounts .ok
         ⟨s.monitor.counters.map fun k => { k with count := 0, history := .replicate 40 false }, false⟩) ∧
       exec .clearOverflow s = .next (replied .clearOverflow .ok
         ⟨s.monitor.counters.map fun k => { k with overflow := false }, false⟩)))

/-- SetAnode and ReadAnode (R183): both counters replaced, or reported with nothing changed; BAD_VALUE for a
channel outside 0..39; BOOTING during BOOT. An accounting raises a counter from the value it was set to. -/
def Obligations.AnodeRequests : Prop :=
  (∀ s : State, s.bootReceptive = true → ∀ n forward reverse,
    exec (.setAnode n forward reverse) s = .next
      { s with link := s.answer (.setAnode n forward reverse) .booting .nothing } ∧
    exec (.readAnode n) s = .next { s with link := s.answer (.readAnode n) .booting .nothing }) ∧
  (∀ (s : State) (c : Chan) (forward reverse f v : Nat),
    ({ s with anodes := s.anodes.set c ⟨forward, reverse⟩ }.anodeCount c f v).anodes[c] =
      ⟨min 18446744073709551615 (forward + f), min 18446744073709551615 (reverse + v)⟩) ∧
  ∀ s : State, s.receptive = true →
    (∀ (c : Chan) (forward reverse : Nat),
      exec (.setAnode c.val forward reverse) s = .next
        { s with
          anodes := s.anodes.set c ⟨forward, reverse⟩
          link := s.answer (.setAnode c.val forward reverse) .ok .nothing } ∧
      exec (.readAnode c.val) s = .next
        { s with link := s.answer (.readAnode c.val) .ok (.anode s.anodes[c]) }) ∧
    ∀ n forward reverse, 40 ≤ n →
      exec (.setAnode n forward reverse) s = .next
        { s with link := s.answer (.setAnode n forward reverse) .badValue .nothing } ∧
      exec (.readAnode n) s = .next { s with link := s.answer (.readAnode n) .badValue .nothing }

/-- The queries report and change nothing (R40, R124, R181, R195): QueryPanel finds by entry number on the
track, and by id in the staging queue first, then on the track; QueryChannel and ReadMonitor and QueryLine report their
views, and what the views of QueryLine and QueryChannel hold is spelled out. The time since the last grant of a channel
without a segment, and so without a bus group, is reported absent (log 40). -/
def Obligations.QueriesReport : Prop :=
  (∀ s : State,
    let used (n : Nat) : Prop :=
      (∃ e ∈ s.staging, e.recipe = n) ∨ (∃ r ∈ s.track, r.recipe = some n) ∨
      ∃ p, s.profile = some p ∧ p.fallback = some n
    let v := s.lineView
    v = { mode := s.mode
          holdCauses := s.holdCauses
          bootTimer := s.bootTimer
          profile := s.profile
          backlash := s.conveyor.backlash
          stallExpired := decide (s.conveyor.stall = .expired)
          staged := s.staging.length
          tracked := s.track.length
          exits := s.exits.length
          faulted := (Chan.all.filter fun c => (s.chan c).state.isFaulted).length
          recipes := v.recipes
          ramps := [s.ramps[0], s.ramps[1], s.ramps[2], s.ramps[3]]
          interlocks := s.interlocks.toList
          lineStop := s.lineStop } ∧
    v.recipes.length = 16 ∧
    ∀ n, n < 16 → ∃ b : Bool, v.recipes[n]? = some ((s.recipe n).isSome, b) ∧ (b = true ↔ used n)) ∧
  (∀ (s : State) (c : Chan) (first : Nat),
    let ch := s.chan c
    let v := s.channelView c first
    v = { state := ch.state
          contactorClosed := ch.contactorClosed
          missing := ch.missing
          queuePlace := v.queuePlace
          rest := ch.rest
          sinceGrant := v.sinceGrant
          inhibited := v.inhibited
          forward := ch.forward
          reverse := ch.reverse
          lastZero := ch.lastZero
          segment := s.segment c
          period := match ch.period with
            | .delivering p => .delivering { p with record := { p.record with
                contributors := (p.record.contributors.drop (first - 1)).take 8 } }
            | other => other
          timing := ch.timing
          index := ch.index
          zero := ch.zero
          stale := ch.stale
          zeroTimer := ch.zeroTimer
          retry := ch.retry
          clock := v.clock
          contributors := match ch.period with
            | .delivering p => p.record.contributors.length
            | _ => 0
          windows := ch.windows.length } ∧
    (c ∉ s.allQueued → v.queuePlace = none) ∧
    (∀ g before after, s.allQueued.Nodup → (s.group g).queue = before ++ c :: after →
      v.queuePlace = some (before.length + 1)) ∧
    (∀ g, s.busGroup c = some g → v.sinceGrant = (s.group g).sinceGrant) ∧
    (s.segment c = none → v.sinceGrant = none) ∧
    (v.inhibited = true ↔ ∃ j, (s.interlock j).latched = true ∧ (s.interlock j).config.drop = true ∧
      (s.interlock j).config.inScope c = true) ∧
    (ch.period = .idle → v.clock = none) ∧
    ∀ g r, (ch.period = .align g ∨ ∃ p, ch.period = .delivering p ∧ p.record.governor = g) →
      s.find g = some r → v.clock = r.clock) ∧
  ∀ s : State, s.receptive = true →
    (∀ name, name.valid = false →
      exec (.queryPanel name) s = .next
        { s with link := s.answer (.queryPanel (some name)) .badValue .nothing }) ∧
    (∀ n r, 1 ≤ n → n ≤ 65535 → s.find n = some r →
      exec (.queryPanel (.byEntry n)) s = .next
        { s with
          link := s.answer (.queryPanel (some (.byEntry n))) .ok (.panel (.track r (s.effective r))) }) ∧
    (∀ n, 1 ≤ n → n ≤ 65535 → (∀ r ∈ s.track, r.entry ≠ n) →
      exec (.queryPanel (.byEntry n)) s = .next
        { s with link := s.answer (.queryPanel (some (.byEntry n))) .notFound .nothing }) ∧
    (∀ n before r after, n ≠ 0 → (∀ e ∈ s.staging, e.panelId ≠ n) → s.track = before ++ r :: after →
      r.panelId = n → (∀ x ∈ before, x.panelId ≠ n) →
      exec (.queryPanel (.byId n)) s = .next
        { s with
          link := s.answer (.queryPanel (some (.byId n))) .ok (.panel (.track r (s.effective r))) }) ∧
    (∀ n before e after, n ≠ 0 → s.staging = before ++ e :: after → e.panelId = n →
      (∀ x ∈ before, x.panelId ≠ n) →
      exec (.queryPanel (.byId n)) s = .next
        { s with
          link := s.answer (.queryPanel (some (.byId n))) .ok (.panel (.staged (before.length + 1) e)) }) ∧
    (∀ n, n ≠ 0 → (∀ e ∈ s.staging, e.panelId ≠ n) → (∀ r ∈ s.track, r.panelId ≠ n) →
      exec (.queryPanel (.byId n)) s = .next
        { s with link := s.answer (.queryPanel (some (.byId n))) .notFound .nothing }) ∧
    (∀ (c : Chan) first, 1 ≤ first → first ≤ 32 →
      exec (.queryChannel c.val first) s = .next
        { s with
          link := s.answer (.queryChannel c.val first) .ok (.channel (s.channelView c first)) }) ∧
    (∀ n first, (40 ≤ n ∨ first = 0 ∨ 32 < first) →
      exec (.queryChannel n first) s = .next
        { s with link := s.answer (.queryChannel n first) .badValue .nothing }) ∧
    exec .readMonitor s = .next
      { s with
        link := s.answer .readMonitor .ok (.monitor s.monitor.frozen
          (s.monitor.counters.toList.map fun k => ⟨k.program, k.count, k.overflow⟩)) } ∧
    exec .queryLine s = .next { s with link := s.answer .queryLine .ok (.line s.lineView) }

/-! ### Arithmetic -/

/-- Covered length and covered area (R30, R31): the overlap of the record's extent with the segment's, 0 for
an undefined segment and for a DEPARTING record; and the floor of the facing side's area times it over the
effective length, which is the measured, else the announced, else the nominal length (R19). The governor rule
(R62): no governor without a candidate; else the candidate of the greatest covered length, the earliest in track
order of those that share it. -/
def Obligations.CoverageRules : Prop :=
  (∀ (s : State) (c : Chan) (r : TrackRecord),
    (s.segment c = none → s.covered c r = 0) ∧ (r.departing = true → s.covered c r = 0) ∧
    (∀ seg, s.segment c = some seg → r.departing = false →
      let lower : Int := (r.position : Int) - s.effective r
      let overlap : Int := min (r.position : Int) (seg.start + seg.length) - max lower seg.start
      (0 < overlap → (s.covered c r : Int) = overlap) ∧ (overlap ≤ 0 → s.covered c r = 0)) ∧
    s.coveredArea c r =
      (if (decide (c.val < 20) != r.flipped) then r.areaA else r.areaB) * s.covered c r / s.effective r ∧
    s.effective r = (match r.measured, r.announced with
      | some n, _ => n
      | none, some n => n
      | none, none => s.prof.nominalLength) ∧
    (s.covered c r = 0 → s.coveredArea c r = 0) ∧
    (r.areaA ≤ 20000 → r.areaB ≤ 20000 → s.coveredArea c r ≤ 20000)) ∧
  ∀ (s : State) (c : Chan),
    let candidate (r : TrackRecord) : Prop := 0 < s.covered c r ∧ r.recipe ≠ none
    ((∀ r ∈ s.track, ¬ candidate r) → s.governorRule c = none) ∧
    ∀ before r after, s.track = before ++ r :: after → candidate r →
      (∀ x ∈ before, candidate x → s.covered c x < s.covered c r) →
      (∀ x ∈ after, candidate x → s.covered c x ≤ s.covered c r) → s.governorRule c = some r.entry

/-- The contributors and setpoints of a period. The stage of a recipe is the one with the greatest start not above the
segment's midpoint (R51). The contributors are the candidates in track order (R85), each with its covered area and
its weights: the stage's density times the area (R86, R87), in HOLD the floor of its share by the recipe's hold
fraction (R88). Each scaled sum is rounded to deciamps, halves upward, and held at the channel's limit; the reverse
setpoint is 0 where the timing has no REV interval; both are 0 and there is no percentage in a ZERO period; CLAMPED
exactly where a limit held one back (R89 to R93). The percentage in force is the step that the ramp index counts from 0
in the table of the governor's recipe, and 100 where the table has no such step (R53, R55, R56). -/
def Obligations.SetpointRules : Prop :=
  (∀ (s : State) (g : Nat) (r : TrackRecord) (rec : Recipe) (table : Fin 4), s.find g = some r →
    s.recipeOf r = some rec → rec.rampTable = table.val → s.rampOf g = s.ramps[table]) ∧
  (∀ (steps : List Nat) (k : Nat),
    (∀ before x after, steps = before ++ x :: after → before.length = k → percentageAt steps k = x) ∧
    (steps.length ≤ k → percentageAt steps k = 100)) ∧
  (∀ (midpoint : Nat) (stages : List Stage), (stages.map (·.start)).Pairwise (· < ·) →
    (∀ st, stageAt midpoint stages = some st ↔
      st ∈ stages ∧ st.start ≤ midpoint ∧ ∀ x ∈ stages, x.start ≤ midpoint → x.start ≤ st.start) ∧
    (stageAt midpoint stages = none ↔ ∀ x ∈ stages, midpoint < x.start)) ∧
  ∀ (s : State) (c : Chan) (g : Nat) (t : Timing) (seg : Segment), s.segment c = some seg →
    let n := s.allocate c g t .normal
    let z := s.allocate c g t .zero
    let pct := percentageAt (s.rampOf g) (s.chan c).index
    let forward := (n.forwardSum * pct / 100 + 500) / 1000
    let reverse := if t.rev = 0 then 0 else (n.reverseSum * pct / 100 + 500) / 1000
    let midpoint := seg.start + seg.length / 2
    let held := decide (s.mode = .hold)
    (∃ f : TrackRecord → Contributor,
      n.contributors =
        (s.track.filter fun r => decide (0 < s.covered c r) && decide (r.recipe ≠ none)).map f ∧
      ∀ r ∈ s.track, (f r).entry = r.entry ∧ (f r).area = s.coveredArea c r ∧
        ∀ k rec st, r.recipe = some k → s.recipe k = some rec → stageAt midpoint rec.stages = some st →
          let weight (density : Nat) : Nat :=
            if held then density * s.coveredArea c r * rec.holdFraction / 100 else density * s.coveredArea c r
          (f r).forwardWeight = weight st.forwardDensity ∧ (f r).reverseWeight = weight st.reverseDensity) ∧
    n.forwardSum = (n.contributors.map (·.forwardWeight)).sum ∧
    n.reverseSum = (n.contributors.map (·.reverseWeight)).sum ∧
    n.totalArea = (n.contributors.map (·.area)).sum ∧ n.percentage = some pct ∧ n.holdApplied = held ∧
    n.channel = c ∧ n.governor = g ∧ n.timing = t ∧ n.kind = .normal ∧
    n.forward = (if seg.forwardLimit < forward then seg.forwardLimit else forward) ∧
    n.reverse = (if seg.reverseLimit < reverse then seg.reverseLimit else reverse) ∧
    (n.clamped = true ↔ seg.forwardLimit < forward ∨ seg.reverseLimit < reverse) ∧
    z = { n with kind := .zero, percentage := none, forward := 0, reverse := 0, clamped := false }

/-- The division of a period's charge (R131): of a charge Q and a weight sum W above 0 a contributor is given
floor(Q × w / W), and the governor the remainder besides, which is below the number of weights above 0; of W = 0
none is given anything; with W the sum of the weights and the governor among them once, the credits add up to
the charge exactly. Forward and reverse are divided separately, and added to the accumulators of the facing side,
which saturate (R132). An estimated NORMAL period sets ESTIMATED of that side, and a truncated period INTERRUPTED
(R133). The in-flight count falls by one (R134); nothing else of the record changes, and no other record does. The
elapsed times of a close note are those of R128. -/
def Obligations.CreditsDivideCharge : Prop :=
  (∀ (charge : Nat) (list : List Contributor) (governor : Nat),
    let weights := list.map (·.forwardWeight)
    let W := weights.sum
    let given (p : Contributor) : Nat :=
      credit charge W weights p.forwardWeight (decide (p.entry = governor))
    let remainder := charge - (weights.map fun w => charge * w / W).sum
    (W = 0 → ∀ p ∈ list, given p = 0) ∧
    (0 < W → remainder < (weights.filter (0 < ·)).length ∧
      (∀ p ∈ list, given p = charge * p.forwardWeight / W + if p.entry = governor then remainder else 0) ∧
      ((list.filter fun p => p.entry = governor).length = 1 → (list.map given).sum = charge))) ∧
  (∀ (x : PeriodRecord) (note : CloseNote) (estimated : Bool) (forward reverse : Nat) (p : Contributor)
      (r : TrackRecord),
    let t := creditRecord x note estimated (forward, reverse) p r
    let governs := decide (p.entry = x.governor)
    let f := credit forward x.forwardSum (x.contributors.map (·.forwardWeight)) p.forwardWeight governs
    let v := credit reverse x.reverseSum (x.contributors.map (·.reverseWeight)) p.reverseWeight governs
    let most := 281474976710655
    let onA : Bool := decide (x.channel.val < 20) != r.flipped
    let flag := estimated && decide (x.kind = .normal)
    let a := r.account
    t = { r with
      inFlight := r.inFlight - 1
      account := { a with
        forwardA := if onA then min most (a.forwardA + f) else a.forwardA
        reverseA := if onA then min most (a.reverseA + v) else a.reverseA
        forwardB := if onA then a.forwardB else min most (a.forwardB + f)
        reverseB := if onA then a.reverseB else min most (a.reverseB + v)
        estimatedA := a.estimatedA || (flag && onA)
        estimatedB := a.estimatedB || (flag && !onA)
        interrupted := a.interrupted || note.truncated } }) ∧
  (∀ (s : State) (x : PeriodRecord) (note : CloseNote) (estimated : Bool) (charge : Nat × Nat),
    List.Forall₂ (fun r t =>
        ((∀ p ∈ x.contributors, p.entry ≠ r.entry) → t = r) ∧
        ∀ before p after, x.contributors = before ++ p :: after → p.entry = r.entry →
          (∀ q ∈ before, q.entry ≠ r.entry) → t = creditRecord x note estimated charge p r)
      s.track (s.creditAll x note estimated charge).track) ∧
  ∀ (p : InFlight) (stale : Bool),
    let time := p.record.timing
    closeNote p false stale = ⟨false, time.fwd, time.rev, stale⟩ ∧
    closeNote p true stale = (match p.interval with
      | .fwd => ⟨true, time.fwd - p.remaining, 0, stale⟩
      | .rest1 => ⟨true, time.fwd, 0, stale⟩
      | .rev => ⟨true, time.fwd, time.rev - p.remaining, stale⟩
      | .rest2 => ⟨true, time.fwd, time.rev, stale⟩)

/-- The exit record of a record that leaves (R138): its id, entry number, recipe, effective length (R19), flags, cause of
departure and hold dwell as the record holds them, LOSS_BEFORE clear, and each side from the panel's own area and
accumulators of that side. A side of an exit record holds both charges and the net charge. The net charge density (R139):
0 on area 0, else the net charge over 60 times the area, truncated toward zero and clamped to 32 bits. The verdict
(R140): the first of its four cases that applies, NO_TARGET for recipe NONE, NO_AREA on area 0, NO_TARGET without a
target, else by the window; so a side of area 0 is NO_AREA where the recipe has no target too, of which R45 says
NO_TARGET and leaves the verdicts to R140's chapter (log 33). -/
def Obligations.ExitSideRules : Prop :=
  (∀ (s : State) (r : TrackRecord) (cause : DepartureCause), r.state = .departing cause →
    let recipe := r.recipe.bind s.recipe
    s.exitRecord r =
      { panelId := r.panelId
        entry := r.entry
        recipe := r.recipe
        effectiveLength := match r.measured, r.announced with
          | some n, _ => n
          | none, some n => n
          | none, none => s.prof.nominalLength
        unannounced := r.unannounced
        lengthMismatch := r.lengthMismatch
        provisionalLength := r.provisionalLength
        estimatedA := r.account.estimatedA
        estimatedB := r.account.estimatedB
        interrupted := r.account.interrupted
        lossBefore := false
        cause := cause
        sideA := exitSide recipe r.areaA r.account.forwardA r.account.reverseA
        sideB := exitSide recipe r.areaB r.account.forwardB r.account.reverseB
        holdDwell := r.account.holdDwell }) ∧
  ∀ (recipe : Option Recipe) (area forward reverse : Nat),
    let x := exitSide recipe area forward reverse
    let u : Int := (forward : Int) - reverse
    x.forward = forward ∧ x.reverse = reverse ∧ x.net = u ∧
    (forward ≤ 281474976710655 → reverse ≤ 281474976710655 →
      -281474976710655 ≤ x.net ∧ x.net ≤ 281474976710655) ∧
    (area = 0 → x.density = 0) ∧
    (0 < area →
      let q : Int := if 0 ≤ u then u / (60 * area) else -(-u / (60 * area))
      x.density = if q < -2147483648 then -2147483648 else if 2147483647 < q then 2147483647 else q) ∧
    (recipe = none → x.verdict = .noTarget) ∧
    (∀ r, recipe = some r →
      (area = 0 → x.verdict = .noArea) ∧
      (0 < area → r.target = none → x.verdict = .noTarget) ∧
      (∀ target : Nat, 0 < area → r.target = some target →
        let band : Int := ((target * r.tolerance / 100 : Nat) : Int)
        (x.verdict = .under ↔ x.density < target - band) ∧
        (x.verdict = .over ↔ target + band < x.density) ∧
        (x.verdict = .within ↔ target - band ≤ x.density ∧ x.density ≤ target + band)))

/-- A counter's count (R177, R178): it rises by the raw increment with threshold 0; else by 1 where the
condition holds, with edge set only where the last condition taken of that channel was FALSE; a rise that
would pass the greatest value wraps modulo 2 to the 32 and sets the overflow flag, which no rise clears. A counter
takes the samples of the channels its selector names, an accounting sample always and an ALIGN-entry sample where its
event is ALIGNS, with the raw increment of its event (R173 to R176). A sample reaches all counters together; where it
sets the flag of a notifying counter the monitor freezes and raises MONITOR, and a frozen monitor takes none (R178). -/
def Obligations.CounterCounts : Prop :=
  (∀ (k : Counter) (c : Chan) (raw : Nat), k.count < 4294967296 → raw < 4294967296 →
    let condition := if k.program.invert then decide (raw < k.program.threshold)
      else decide (k.program.threshold ≤ raw)
    let rise := if k.program.threshold = 0 then raw
      else if condition && !(k.program.edge && k.history[c]) then 1 else 0
    (k.take c raw).count = (k.count + rise) % 4294967296 ∧
    ((k.take c raw).overflow = true ↔ k.overflow = true ∨ 4294967296 ≤ k.count + rise) ∧
    (k.take c raw).program = k.program ∧
    (k.program.threshold = 0 → (k.take c raw).history = k.history) ∧
    (k.program.threshold ≠ 0 → (k.take c raw).history = k.history.set c condition)) ∧
  (∀ (k : Counter) (c : Chan) (f : AccountingSample),
    let named : Prop := match k.program.selector with
      | .all => True
      | .sideA => c.val ≤ 19
      | .sideB => 20 ≤ c.val
      | .one n => c.val = n
    let density := f.forward * 1000 / f.totalArea
    let raw := match k.program.event with
      | .periods => 1
      | .clamped => if f.clamped then 1 else 0
      | .deviation => if f.estimated then 0
          else if f.forward ≤ f.averageForward then f.averageForward - f.forward
          else f.forward - f.averageForward
      | .voltage => if f.estimated then 0 else f.peakVoltage
      | .coverage => f.contributors
      | .aligns => 0
      | .zeros => if f.kind = .zero then 1 else 0
      | .estimates => if f.estimated then 1 else 0
      | .band => if 0 < f.totalArea ∧ k.program.bandLow ≤ density ∧ density ≤ k.program.bandHigh then 1 else 0
    (¬ named → k.sample c (.accounting f) = k ∧ k.sample c .alignEntry = k) ∧
    (named → k.sample c (.accounting f) = k.take c raw) ∧
    (named → k.program.event = .aligns → k.sample c .alignEntry = k.take c 1) ∧
    (k.program.event ≠ .aligns → k.sample c .alignEntry = k)) ∧
  ∀ (s : State) (c : Chan) (x : Sample),
    let freezes : Prop := ∃ k ∈ s.monitor.counters.toList,
      k.program.notify = true ∧ k.overflow = false ∧ (k.sample c x).overflow = true
    let t := { s with monitor := { s.monitor with counters := s.monitor.counters.map (·.sample c x) } }
    (s.monitor.frozen = true → s.sample c x = s) ∧
    (s.monitor.frozen = false → ¬ freezes → s.sample c x = t) ∧
    (s.monitor.frozen = false → freezes →
      s.sample c x =
        { t with
          monitor := { t.monitor with frozen := true }
          link := { s.link with notices := joinNotices .monitor s.link.notices } })

/-! ### Invariants that every step keeps -/

/-- Every step keeps the Line Link's invariant (R188, R189, R192, R194, R100). -/
def Obligations.StepKeepsLinkInv : Prop :=
  ∀ s t : State, s.linkInv = true → step s = .next t → t.linkInv = true

/-- Every step keeps the mode at HOLD exactly while the hold-cause set is not empty (R143, R154); the boot
timer runs only in BOOT; INTERLOCK stands in the line-stop cause set exactly while a STOP input is latched
(R168), and in the hold-cause set only while a HOLD input is (R157). -/
def Obligations.StepKeepsHoldInv : Prop :=
  ∀ s t : State, s.holdInv = true → step s = .next t → t.holdInv = true

/-- Every step keeps the capacities (R17, R18, R38), EXIT_HIGH present exactly at 12 or more exit records
(R39), and every recipe in use defined (R48, R50). With the profile's ranges and an empty track in OFFLINE it keeps
the strict order of the track with its bounds (R18, R29), at most one ENTERING record (R23, R26), the range of the
entry numbers, and the panel ids each once in the staging queue and the track together (R21); and the entry numbers of
the track each once (R20), as long as the number to be given next is on no record (log 37). -/
def Obligations.StepKeepsPanelInv : Prop :=
  (∀ s t : State, s.panelInv = true → step s = .next t → t.panelInv = true) ∧
  (∀ s t : State, s.panelInv = true → s.conveyorInv = true → s.trackInv = true → step s = .next t →
    t.trackInv = true) ∧
  ∀ s t : State, (s.track.map (·.entry)).Nodup → s.nextEntry ∉ s.track.map (·.entry) → step s = .next t →
    (t.track.map (·.entry)).Nodup

/-- Every step keeps each channel's contactor open exactly while DORMANT or FAULTED, its period kind and
setpoints fitting its state, its timing in force that of the record of a period in flight, and the arming queues (R61,
R93, R94, R98, R108, R153). -/
def Obligations.StepKeepsChannelInv : Prop :=
  ∀ s t : State, s.channelInv = true → step s = .next t → t.channelInv = true

/-- Every step keeps the profile's fields in their ranges; in RUN, HOLD and STANDBY a profile, the pulse
remainder below pulses per mm and the backlash count within its saturation; in BOOT and OFFLINE the track
empty and the stall timer STOPPED (R2, R9, R10, R14, R18, R153). -/
def Obligations.StepKeepsConveyorInv : Prop :=
  ∀ s t : State, s.conveyorInv = true → step s = .next t → t.conveyorInv = true
end

