-- ==== Sys2Proof/Laws/State.lean ====
section
/-! SUPPORT. What each update of the state leaves in each field: one lemma per field per update, so that
no proof unfolds a record update. -/

namespace Sys2Proof.Machine

/-! ### `updChan` -/

section
variable (s : State) (c : Chan) (f : Channel → Channel)

@[simp] theorem State.updChan_pins : (s.updChan c f).pins = s.pins := rfl
@[simp] theorem State.updChan_mode : (s.updChan c f).mode = s.mode := rfl
@[simp] theorem State.updChan_holdCauses : (s.updChan c f).holdCauses = s.holdCauses := rfl
@[simp] theorem State.updChan_bootTimer : (s.updChan c f).bootTimer = s.bootTimer := rfl
@[simp] theorem State.updChan_profile : (s.updChan c f).profile = s.profile := rfl
@[simp] theorem State.updChan_segments : (s.updChan c f).segments = s.segments := rfl
@[simp] theorem State.updChan_recipes : (s.updChan c f).recipes = s.recipes := rfl
@[simp] theorem State.updChan_ramps : (s.updChan c f).ramps = s.ramps := rfl
@[simp] theorem State.updChan_conveyor : (s.updChan c f).conveyor = s.conveyor := rfl
@[simp] theorem State.updChan_staging : (s.updChan c f).staging = s.staging := rfl
@[simp] theorem State.updChan_track : (s.updChan c f).track = s.track := rfl
@[simp] theorem State.updChan_exits : (s.updChan c f).exits = s.exits := rfl
@[simp] theorem State.updChan_nextEntry : (s.updChan c f).nextEntry = s.nextEntry := rfl
@[simp] theorem State.updChan_channels : (s.updChan c f).channels = s.channels.set c (f s.channels[c]) := rfl
@[simp] theorem State.updChan_groups : (s.updChan c f).groups = s.groups := rfl
@[simp] theorem State.updChan_interlocks : (s.updChan c f).interlocks = s.interlocks := rfl
@[simp] theorem State.updChan_lineStop : (s.updChan c f).lineStop = s.lineStop := rfl
@[simp] theorem State.updChan_monitor : (s.updChan c f).monitor = s.monitor := rfl
@[simp] theorem State.updChan_anodes : (s.updChan c f).anodes = s.anodes := rfl
@[simp] theorem State.updChan_link : (s.updChan c f).link = s.link := rfl
@[simp] theorem State.updChan_moduleLink : (s.updChan c f).moduleLink = s.moduleLink := rfl
@[simp] theorem State.updChan_freeCount : (s.updChan c f).freeCount = s.freeCount := rfl
@[simp] theorem State.updChan_pending : (s.updChan c f).pending = s.pending := rfl

end

/-! ### `updGroup` -/

section
variable (s : State) (g : BusGroup) (f : Group → Group)

@[simp] theorem State.updGroup_pins : (s.updGroup g f).pins = s.pins := rfl
@[simp] theorem State.updGroup_mode : (s.updGroup g f).mode = s.mode := rfl
@[simp] theorem State.updGroup_holdCauses : (s.updGroup g f).holdCauses = s.holdCauses := rfl
@[simp] theorem State.updGroup_bootTimer : (s.updGroup g f).bootTimer = s.bootTimer := rfl
@[simp] theorem State.updGroup_profile : (s.updGroup g f).profile = s.profile := rfl
@[simp] theorem State.updGroup_segments : (s.updGroup g f).segments = s.segments := rfl
@[simp] theorem State.updGroup_recipes : (s.updGroup g f).recipes = s.recipes := rfl
@[simp] theorem State.updGroup_ramps : (s.updGroup g f).ramps = s.ramps := rfl
@[simp] theorem State.updGroup_conveyor : (s.updGroup g f).conveyor = s.conveyor := rfl
@[simp] theorem State.updGroup_staging : (s.updGroup g f).staging = s.staging := rfl
@[simp] theorem State.updGroup_track : (s.updGroup g f).track = s.track := rfl
@[simp] theorem State.updGroup_exits : (s.updGroup g f).exits = s.exits := rfl
@[simp] theorem State.updGroup_nextEntry : (s.updGroup g f).nextEntry = s.nextEntry := rfl
@[simp] theorem State.updGroup_channels : (s.updGroup g f).channels = s.channels := rfl
@[simp] theorem State.updGroup_groups : (s.updGroup g f).groups = s.groups.set g (f s.groups[g]) := rfl
@[simp] theorem State.updGroup_interlocks : (s.updGroup g f).interlocks = s.interlocks := rfl
@[simp] theorem State.updGroup_lineStop : (s.updGroup g f).lineStop = s.lineStop := rfl
@[simp] theorem State.updGroup_monitor : (s.updGroup g f).monitor = s.monitor := rfl
@[simp] theorem State.updGroup_anodes : (s.updGroup g f).anodes = s.anodes := rfl
@[simp] theorem State.updGroup_link : (s.updGroup g f).link = s.link := rfl
@[simp] theorem State.updGroup_moduleLink : (s.updGroup g f).moduleLink = s.moduleLink := rfl
@[simp] theorem State.updGroup_freeCount : (s.updGroup g f).freeCount = s.freeCount := rfl
@[simp] theorem State.updGroup_pending : (s.updGroup g f).pending = s.pending := rfl

end

/-! ### `updInterlock` -/

section
variable (s : State) (i : Input) (f : Interlock → Interlock)

@[simp] theorem State.updInterlock_pins : (s.updInterlock i f).pins = s.pins := rfl
@[simp] theorem State.updInterlock_mode : (s.updInterlock i f).mode = s.mode := rfl
@[simp] theorem State.updInterlock_holdCauses : (s.updInterlock i f).holdCauses = s.holdCauses := rfl
@[simp] theorem State.updInterlock_bootTimer : (s.updInterlock i f).bootTimer = s.bootTimer := rfl
@[simp] theorem State.updInterlock_profile : (s.updInterlock i f).profile = s.profile := rfl
@[simp] theorem State.updInterlock_segments : (s.updInterlock i f).segments = s.segments := rfl
@[simp] theorem State.updInterlock_recipes : (s.updInterlock i f).recipes = s.recipes := rfl
@[simp] theorem State.updInterlock_ramps : (s.updInterlock i f).ramps = s.ramps := rfl
@[simp] theorem State.updInterlock_conveyor : (s.updInterlock i f).conveyor = s.conveyor := rfl
@[simp] theorem State.updInterlock_staging : (s.updInterlock i f).staging = s.staging := rfl
@[simp] theorem State.updInterlock_track : (s.updInterlock i f).track = s.track := rfl
@[simp] theorem State.updInterlock_exits : (s.updInterlock i f).exits = s.exits := rfl
@[simp] theorem State.updInterlock_nextEntry : (s.updInterlock i f).nextEntry = s.nextEntry := rfl
@[simp] theorem State.updInterlock_channels : (s.updInterlock i f).channels = s.channels := rfl
@[simp] theorem State.updInterlock_groups : (s.updInterlock i f).groups = s.groups := rfl
@[simp] theorem State.updInterlock_interlocks : (s.updInterlock i f).interlocks = s.interlocks.set i (f s.interlocks[i]) := rfl
@[simp] theorem State.updInterlock_lineStop : (s.updInterlock i f).lineStop = s.lineStop := rfl
@[simp] theorem State.updInterlock_monitor : (s.updInterlock i f).monitor = s.monitor := rfl
@[simp] theorem State.updInterlock_anodes : (s.updInterlock i f).anodes = s.anodes := rfl
@[simp] theorem State.updInterlock_link : (s.updInterlock i f).link = s.link := rfl
@[simp] theorem State.updInterlock_moduleLink : (s.updInterlock i f).moduleLink = s.moduleLink := rfl
@[simp] theorem State.updInterlock_freeCount : (s.updInterlock i f).freeCount = s.freeCount := rfl
@[simp] theorem State.updInterlock_pending : (s.updInterlock i f).pending = s.pending := rfl

end

/-! ### `updRecord` -/

section
variable (s : State) (n : Nat) (f : TrackRecord → TrackRecord)

@[simp] theorem State.updRecord_pins : (s.updRecord n f).pins = s.pins := rfl
@[simp] theorem State.updRecord_mode : (s.updRecord n f).mode = s.mode := rfl
@[simp] theorem State.updRecord_holdCauses : (s.updRecord n f).holdCauses = s.holdCauses := rfl
@[simp] theorem State.updRecord_bootTimer : (s.updRecord n f).bootTimer = s.bootTimer := rfl
@[simp] theorem State.updRecord_profile : (s.updRecord n f).profile = s.profile := rfl
@[simp] theorem State.updRecord_segments : (s.updRecord n f).segments = s.segments := rfl
@[simp] theorem State.updRecord_recipes : (s.updRecord n f).recipes = s.recipes := rfl
@[simp] theorem State.updRecord_ramps : (s.updRecord n f).ramps = s.ramps := rfl
@[simp] theorem State.updRecord_conveyor : (s.updRecord n f).conveyor = s.conveyor := rfl
@[simp] theorem State.updRecord_staging : (s.updRecord n f).staging = s.staging := rfl
@[simp] theorem State.updRecord_track : (s.updRecord n f).track = s.track.map fun r => if r.entry = n then f r else r := rfl
@[simp] theorem State.updRecord_exits : (s.updRecord n f).exits = s.exits := rfl
@[simp] theorem State.updRecord_nextEntry : (s.updRecord n f).nextEntry = s.nextEntry := rfl
@[simp] theorem State.updRecord_channels : (s.updRecord n f).channels = s.channels := rfl
@[simp] theorem State.updRecord_groups : (s.updRecord n f).groups = s.groups := rfl
@[simp] theorem State.updRecord_interlocks : (s.updRecord n f).interlocks = s.interlocks := rfl
@[simp] theorem State.updRecord_lineStop : (s.updRecord n f).lineStop = s.lineStop := rfl
@[simp] theorem State.updRecord_monitor : (s.updRecord n f).monitor = s.monitor := rfl
@[simp] theorem State.updRecord_anodes : (s.updRecord n f).anodes = s.anodes := rfl
@[simp] theorem State.updRecord_link : (s.updRecord n f).link = s.link := rfl
@[simp] theorem State.updRecord_moduleLink : (s.updRecord n f).moduleLink = s.moduleLink := rfl
@[simp] theorem State.updRecord_freeCount : (s.updRecord n f).freeCount = s.freeCount := rfl
@[simp] theorem State.updRecord_pending : (s.updRecord n f).pending = s.pending := rfl

end

/-! ### `updConveyor` -/

section
variable (s : State) (f : Conveyor → Conveyor)

@[simp] theorem State.updConveyor_pins : (s.updConveyor f).pins = s.pins := rfl
@[simp] theorem State.updConveyor_mode : (s.updConveyor f).mode = s.mode := rfl
@[simp] theorem State.updConveyor_holdCauses : (s.updConveyor f).holdCauses = s.holdCauses := rfl
@[simp] theorem State.updConveyor_bootTimer : (s.updConveyor f).bootTimer = s.bootTimer := rfl
@[simp] theorem State.updConveyor_profile : (s.updConveyor f).profile = s.profile := rfl
@[simp] theorem State.updConveyor_segments : (s.updConveyor f).segments = s.segments := rfl
@[simp] theorem State.updConveyor_recipes : (s.updConveyor f).recipes = s.recipes := rfl
@[simp] theorem State.updConveyor_ramps : (s.updConveyor f).ramps = s.ramps := rfl
@[simp] theorem State.updConveyor_conveyor : (s.updConveyor f).conveyor = f s.conveyor := rfl
@[simp] theorem State.updConveyor_staging : (s.updConveyor f).staging = s.staging := rfl
@[simp] theorem State.updConveyor_track : (s.updConveyor f).track = s.track := rfl
@[simp] theorem State.updConveyor_exits : (s.updConveyor f).exits = s.exits := rfl
@[simp] theorem State.updConveyor_nextEntry : (s.updConveyor f).nextEntry = s.nextEntry := rfl
@[simp] theorem State.updConveyor_channels : (s.updConveyor f).channels = s.channels := rfl
@[simp] theorem State.updConveyor_groups : (s.updConveyor f).groups = s.groups := rfl
@[simp] theorem State.updConveyor_interlocks : (s.updConveyor f).interlocks = s.interlocks := rfl
@[simp] theorem State.updConveyor_lineStop : (s.updConveyor f).lineStop = s.lineStop := rfl
@[simp] theorem State.updConveyor_monitor : (s.updConveyor f).monitor = s.monitor := rfl
@[simp] theorem State.updConveyor_anodes : (s.updConveyor f).anodes = s.anodes := rfl
@[simp] theorem State.updConveyor_link : (s.updConveyor f).link = s.link := rfl
@[simp] theorem State.updConveyor_moduleLink : (s.updConveyor f).moduleLink = s.moduleLink := rfl
@[simp] theorem State.updConveyor_freeCount : (s.updConveyor f).freeCount = s.freeCount := rfl
@[simp] theorem State.updConveyor_pending : (s.updConveyor f).pending = s.pending := rfl

end

/-! ### `updLink` -/

section
variable (s : State) (f : LineLink → LineLink)

@[simp] theorem State.updLink_pins : (s.updLink f).pins = s.pins := rfl
@[simp] theorem State.updLink_mode : (s.updLink f).mode = s.mode := rfl
@[simp] theorem State.updLink_holdCauses : (s.updLink f).holdCauses = s.holdCauses := rfl
@[simp] theorem State.updLink_bootTimer : (s.updLink f).bootTimer = s.bootTimer := rfl
@[simp] theorem State.updLink_profile : (s.updLink f).profile = s.profile := rfl
@[simp] theorem State.updLink_segments : (s.updLink f).segments = s.segments := rfl
@[simp] theorem State.updLink_recipes : (s.updLink f).recipes = s.recipes := rfl
@[simp] theorem State.updLink_ramps : (s.updLink f).ramps = s.ramps := rfl
@[simp] theorem State.updLink_conveyor : (s.updLink f).conveyor = s.conveyor := rfl
@[simp] theorem State.updLink_staging : (s.updLink f).staging = s.staging := rfl
@[simp] theorem State.updLink_track : (s.updLink f).track = s.track := rfl
@[simp] theorem State.updLink_exits : (s.updLink f).exits = s.exits := rfl
@[simp] theorem State.updLink_nextEntry : (s.updLink f).nextEntry = s.nextEntry := rfl
@[simp] theorem State.updLink_channels : (s.updLink f).channels = s.channels := rfl
@[simp] theorem State.updLink_groups : (s.updLink f).groups = s.groups := rfl
@[simp] theorem State.updLink_interlocks : (s.updLink f).interlocks = s.interlocks := rfl
@[simp] theorem State.updLink_lineStop : (s.updLink f).lineStop = s.lineStop := rfl
@[simp] theorem State.updLink_monitor : (s.updLink f).monitor = s.monitor := rfl
@[simp] theorem State.updLink_anodes : (s.updLink f).anodes = s.anodes := rfl
@[simp] theorem State.updLink_link : (s.updLink f).link = f s.link := rfl
@[simp] theorem State.updLink_moduleLink : (s.updLink f).moduleLink = s.moduleLink := rfl
@[simp] theorem State.updLink_freeCount : (s.updLink f).freeCount = s.freeCount := rfl
@[simp] theorem State.updLink_pending : (s.updLink f).pending = s.pending := rfl

end

/-! ### `raise` -/

section
variable (s : State) (k : NoticeKind)

@[simp] theorem State.raise_pins : (s.raise k).pins = s.pins := rfl
@[simp] theorem State.raise_mode : (s.raise k).mode = s.mode := rfl
@[simp] theorem State.raise_holdCauses : (s.raise k).holdCauses = s.holdCauses := rfl
@[simp] theorem State.raise_bootTimer : (s.raise k).bootTimer = s.bootTimer := rfl
@[simp] theorem State.raise_profile : (s.raise k).profile = s.profile := rfl
@[simp] theorem State.raise_segments : (s.raise k).segments = s.segments := rfl
@[simp] theorem State.raise_recipes : (s.raise k).recipes = s.recipes := rfl
@[simp] theorem State.raise_ramps : (s.raise k).ramps = s.ramps := rfl
@[simp] theorem State.raise_conveyor : (s.raise k).conveyor = s.conveyor := rfl
@[simp] theorem State.raise_staging : (s.raise k).staging = s.staging := rfl
@[simp] theorem State.raise_track : (s.raise k).track = s.track := rfl
@[simp] theorem State.raise_exits : (s.raise k).exits = s.exits := rfl
@[simp] theorem State.raise_nextEntry : (s.raise k).nextEntry = s.nextEntry := rfl
@[simp] theorem State.raise_channels : (s.raise k).channels = s.channels := rfl
@[simp] theorem State.raise_groups : (s.raise k).groups = s.groups := rfl
@[simp] theorem State.raise_interlocks : (s.raise k).interlocks = s.interlocks := rfl
@[simp] theorem State.raise_lineStop : (s.raise k).lineStop = s.lineStop := rfl
@[simp] theorem State.raise_monitor : (s.raise k).monitor = s.monitor := rfl
@[simp] theorem State.raise_anodes : (s.raise k).anodes = s.anodes := rfl
@[simp] theorem State.raise_link : (s.raise k).link = { s.link with notices := joinNotices k s.link.notices } := rfl
@[simp] theorem State.raise_moduleLink : (s.raise k).moduleLink = s.moduleLink := rfl
@[simp] theorem State.raise_freeCount : (s.raise k).freeCount = s.freeCount := rfl
@[simp] theorem State.raise_pending : (s.raise k).pending = s.pending := rfl

end

/-! ### `order` -/

section
variable (s : State) (c : Chan) (b : OrderBody)

@[simp] theorem State.order_pins : (s.order c b).pins = s.pins := rfl
@[simp] theorem State.order_mode : (s.order c b).mode = s.mode := rfl
@[simp] theorem State.order_holdCauses : (s.order c b).holdCauses = s.holdCauses := rfl
@[simp] theorem State.order_bootTimer : (s.order c b).bootTimer = s.bootTimer := rfl
@[simp] theorem State.order_profile : (s.order c b).profile = s.profile := rfl
@[simp] theorem State.order_segments : (s.order c b).segments = s.segments := rfl
@[simp] theorem State.order_recipes : (s.order c b).recipes = s.recipes := rfl
@[simp] theorem State.order_ramps : (s.order c b).ramps = s.ramps := rfl
@[simp] theorem State.order_conveyor : (s.order c b).conveyor = s.conveyor := rfl
@[simp] theorem State.order_staging : (s.order c b).staging = s.staging := rfl
@[simp] theorem State.order_track : (s.order c b).track = s.track := rfl
@[simp] theorem State.order_exits : (s.order c b).exits = s.exits := rfl
@[simp] theorem State.order_nextEntry : (s.order c b).nextEntry = s.nextEntry := rfl
@[simp] theorem State.order_channels : (s.order c b).channels = s.channels := rfl
@[simp] theorem State.order_groups : (s.order c b).groups = s.groups := rfl
@[simp] theorem State.order_interlocks : (s.order c b).interlocks = s.interlocks := rfl
@[simp] theorem State.order_lineStop : (s.order c b).lineStop = s.lineStop := rfl
@[simp] theorem State.order_monitor : (s.order c b).monitor = s.monitor := rfl
@[simp] theorem State.order_anodes : (s.order c b).anodes = s.anodes := rfl
@[simp] theorem State.order_link : (s.order c b).link = s.link := rfl
@[simp] theorem State.order_moduleLink : (s.order c b).moduleLink = { s.moduleLink with outbox := s.moduleLink.outbox ++ [⟨c, b⟩] } := rfl
@[simp] theorem State.order_freeCount : (s.order c b).freeCount = s.freeCount := rfl
@[simp] theorem State.order_pending : (s.order c b).pending = s.pending := rfl

end

/-! ### `raiseCounts` -/

section
variable (s : State) (l : List Contributor)

@[simp] theorem State.raiseCounts_pins : (s.raiseCounts l).pins = s.pins := rfl
@[simp] theorem State.raiseCounts_mode : (s.raiseCounts l).mode = s.mode := rfl
@[simp] theorem State.raiseCounts_holdCauses : (s.raiseCounts l).holdCauses = s.holdCauses := rfl
@[simp] theorem State.raiseCounts_bootTimer : (s.raiseCounts l).bootTimer = s.bootTimer := rfl
@[simp] theorem State.raiseCounts_profile : (s.raiseCounts l).profile = s.profile := rfl
@[simp] theorem State.raiseCounts_segments : (s.raiseCounts l).segments = s.segments := rfl
@[simp] theorem State.raiseCounts_recipes : (s.raiseCounts l).recipes = s.recipes := rfl
@[simp] theorem State.raiseCounts_ramps : (s.raiseCounts l).ramps = s.ramps := rfl
@[simp] theorem State.raiseCounts_conveyor : (s.raiseCounts l).conveyor = s.conveyor := rfl
@[simp] theorem State.raiseCounts_staging : (s.raiseCounts l).staging = s.staging := rfl
@[simp] theorem State.raiseCounts_exits : (s.raiseCounts l).exits = s.exits := rfl
@[simp] theorem State.raiseCounts_nextEntry : (s.raiseCounts l).nextEntry = s.nextEntry := rfl
@[simp] theorem State.raiseCounts_channels : (s.raiseCounts l).channels = s.channels := rfl
@[simp] theorem State.raiseCounts_groups : (s.raiseCounts l).groups = s.groups := rfl
@[simp] theorem State.raiseCounts_interlocks : (s.raiseCounts l).interlocks = s.interlocks := rfl
@[simp] theorem State.raiseCounts_lineStop : (s.raiseCounts l).lineStop = s.lineStop := rfl
@[simp] theorem State.raiseCounts_monitor : (s.raiseCounts l).monitor = s.monitor := rfl
@[simp] theorem State.raiseCounts_anodes : (s.raiseCounts l).anodes = s.anodes := rfl
@[simp] theorem State.raiseCounts_link : (s.raiseCounts l).link = s.link := rfl
@[simp] theorem State.raiseCounts_moduleLink : (s.raiseCounts l).moduleLink = s.moduleLink := rfl
@[simp] theorem State.raiseCounts_freeCount : (s.raiseCounts l).freeCount = s.freeCount := rfl
@[simp] theorem State.raiseCounts_pending : (s.raiseCounts l).pending = s.pending := rfl

end

/-! ### `dequeue` -/

section
variable (s : State) (c : Chan)

@[simp] theorem State.dequeue_pins : (s.dequeue c).pins = s.pins := rfl
@[simp] theorem State.dequeue_mode : (s.dequeue c).mode = s.mode := rfl
@[simp] theorem State.dequeue_holdCauses : (s.dequeue c).holdCauses = s.holdCauses := rfl
@[simp] theorem State.dequeue_bootTimer : (s.dequeue c).bootTimer = s.bootTimer := rfl
@[simp] theorem State.dequeue_profile : (s.dequeue c).profile = s.profile := rfl
@[simp] theorem State.dequeue_segments : (s.dequeue c).segments = s.segments := rfl
@[simp] theorem State.dequeue_recipes : (s.dequeue c).recipes = s.recipes := rfl
@[simp] theorem State.dequeue_ramps : (s.dequeue c).ramps = s.ramps := rfl
@[simp] theorem State.dequeue_conveyor : (s.dequeue c).conveyor = s.conveyor := rfl
@[simp] theorem State.dequeue_staging : (s.dequeue c).staging = s.staging := rfl
@[simp] theorem State.dequeue_track : (s.dequeue c).track = s.track := rfl
@[simp] theorem State.dequeue_exits : (s.dequeue c).exits = s.exits := rfl
@[simp] theorem State.dequeue_nextEntry : (s.dequeue c).nextEntry = s.nextEntry := rfl
@[simp] theorem State.dequeue_channels : (s.dequeue c).channels = s.channels := rfl
@[simp] theorem State.dequeue_interlocks : (s.dequeue c).interlocks = s.interlocks := rfl
@[simp] theorem State.dequeue_lineStop : (s.dequeue c).lineStop = s.lineStop := rfl
@[simp] theorem State.dequeue_monitor : (s.dequeue c).monitor = s.monitor := rfl
@[simp] theorem State.dequeue_anodes : (s.dequeue c).anodes = s.anodes := rfl
@[simp] theorem State.dequeue_link : (s.dequeue c).link = s.link := rfl
@[simp] theorem State.dequeue_moduleLink : (s.dequeue c).moduleLink = s.moduleLink := rfl
@[simp] theorem State.dequeue_freeCount : (s.dequeue c).freeCount = s.freeCount := rfl
@[simp] theorem State.dequeue_pending : (s.dequeue c).pending = s.pending := rfl

end

/-! ### `anodeCount` -/

section
variable (s : State) (c : Chan) (f r : Nat)

@[simp] theorem State.anodeCount_pins : (s.anodeCount c f r).pins = s.pins := rfl
@[simp] theorem State.anodeCount_mode : (s.anodeCount c f r).mode = s.mode := rfl
@[simp] theorem State.anodeCount_holdCauses : (s.anodeCount c f r).holdCauses = s.holdCauses := rfl
@[simp] theorem State.anodeCount_bootTimer : (s.anodeCount c f r).bootTimer = s.bootTimer := rfl
@[simp] theorem State.anodeCount_profile : (s.anodeCount c f r).profile = s.profile := rfl
@[simp] theorem State.anodeCount_segments : (s.anodeCount c f r).segments = s.segments := rfl
@[simp] theorem State.anodeCount_recipes : (s.anodeCount c f r).recipes = s.recipes := rfl
@[simp] theorem State.anodeCount_ramps : (s.anodeCount c f r).ramps = s.ramps := rfl
@[simp] theorem State.anodeCount_conveyor : (s.anodeCount c f r).conveyor = s.conveyor := rfl
@[simp] theorem State.anodeCount_staging : (s.anodeCount c f r).staging = s.staging := rfl
@[simp] theorem State.anodeCount_track : (s.anodeCount c f r).track = s.track := rfl
@[simp] theorem State.anodeCount_exits : (s.anodeCount c f r).exits = s.exits := rfl
@[simp] theorem State.anodeCount_nextEntry : (s.anodeCount c f r).nextEntry = s.nextEntry := rfl
@[simp] theorem State.anodeCount_channels : (s.anodeCount c f r).channels = s.channels := rfl
@[simp] theorem State.anodeCount_groups : (s.anodeCount c f r).groups = s.groups := rfl
@[simp] theorem State.anodeCount_interlocks : (s.anodeCount c f r).interlocks = s.interlocks := rfl
@[simp] theorem State.anodeCount_lineStop : (s.anodeCount c f r).lineStop = s.lineStop := rfl
@[simp] theorem State.anodeCount_monitor : (s.anodeCount c f r).monitor = s.monitor := rfl
@[simp] theorem State.anodeCount_link : (s.anodeCount c f r).link = s.link := rfl
@[simp] theorem State.anodeCount_moduleLink : (s.anodeCount c f r).moduleLink = s.moduleLink := rfl
@[simp] theorem State.anodeCount_freeCount : (s.anodeCount c f r).freeCount = s.freeCount := rfl
@[simp] theorem State.anodeCount_pending : (s.anodeCount c f r).pending = s.pending := rfl

end

/-! ### `restartStall` -/

section
variable (s : State)

@[simp] theorem State.restartStall_pins : (s.restartStall).pins = s.pins := rfl
@[simp] theorem State.restartStall_mode : (s.restartStall).mode = s.mode := rfl
@[simp] theorem State.restartStall_holdCauses : (s.restartStall).holdCauses = s.holdCauses := rfl
@[simp] theorem State.restartStall_bootTimer : (s.restartStall).bootTimer = s.bootTimer := rfl
@[simp] theorem State.restartStall_profile : (s.restartStall).profile = s.profile := rfl
@[simp] theorem State.restartStall_segments : (s.restartStall).segments = s.segments := rfl
@[simp] theorem State.restartStall_recipes : (s.restartStall).recipes = s.recipes := rfl
@[simp] theorem State.restartStall_ramps : (s.restartStall).ramps = s.ramps := rfl
@[simp] theorem State.restartStall_conveyor : (s.restartStall).conveyor = { s.conveyor with stall := .running s.prof.stallTime } := rfl
@[simp] theorem State.restartStall_staging : (s.restartStall).staging = s.staging := rfl
@[simp] theorem State.restartStall_track : (s.restartStall).track = s.track := rfl
@[simp] theorem State.restartStall_exits : (s.restartStall).exits = s.exits := rfl
@[simp] theorem State.restartStall_nextEntry : (s.restartStall).nextEntry = s.nextEntry := rfl
@[simp] theorem State.restartStall_channels : (s.restartStall).channels = s.channels := rfl
@[simp] theorem State.restartStall_groups : (s.restartStall).groups = s.groups := rfl
@[simp] theorem State.restartStall_interlocks : (s.restartStall).interlocks = s.interlocks := rfl
@[simp] theorem State.restartStall_lineStop : (s.restartStall).lineStop = s.lineStop := rfl
@[simp] theorem State.restartStall_monitor : (s.restartStall).monitor = s.monitor := rfl
@[simp] theorem State.restartStall_anodes : (s.restartStall).anodes = s.anodes := rfl
@[simp] theorem State.restartStall_link : (s.restartStall).link = s.link := rfl
@[simp] theorem State.restartStall_moduleLink : (s.restartStall).moduleLink = s.moduleLink := rfl
@[simp] theorem State.restartStall_freeCount : (s.restartStall).freeCount = s.freeCount := rfl
@[simp] theorem State.restartStall_pending : (s.restartStall).pending = s.pending := rfl

end

/-! ### `changeLineStop` -/

section
variable (s : State) (f : LineStopCauses → LineStopCauses)

@[simp] theorem State.changeLineStop_pins : (s.changeLineStop f).pins = s.pins := by
  unfold State.changeLineStop; dsimp only; split <;> rfl
@[simp] theorem State.changeLineStop_mode : (s.changeLineStop f).mode = s.mode := by
  unfold State.changeLineStop; dsimp only; split <;> rfl
@[simp] theorem State.changeLineStop_holdCauses : (s.changeLineStop f).holdCauses = s.holdCauses := by
  unfold State.changeLineStop; dsimp only; split <;> rfl
@[simp] theorem State.changeLineStop_bootTimer : (s.changeLineStop f).bootTimer = s.bootTimer := by
  unfold State.changeLineStop; dsimp only; split <;> rfl
@[simp] theorem State.changeLineStop_profile : (s.changeLineStop f).profile = s.profile := by
  unfold State.changeLineStop; dsimp only; split <;> rfl
@[simp] theorem State.changeLineStop_segments : (s.changeLineStop f).segments = s.segments := by
  unfold State.changeLineStop; dsimp only; split <;> rfl
@[simp] theorem State.changeLineStop_recipes : (s.changeLineStop f).recipes = s.recipes := by
  unfold State.changeLineStop; dsimp only; split <;> rfl
@[simp] theorem State.changeLineStop_ramps : (s.changeLineStop f).ramps = s.ramps := by
  unfold State.changeLineStop; dsimp only; split <;> rfl
@[simp] theorem State.changeLineStop_conveyor : (s.changeLineStop f).conveyor = s.conveyor := by
  unfold State.changeLineStop; dsimp only; split <;> rfl
@[simp] theorem State.changeLineStop_staging : (s.changeLineStop f).staging = s.staging := by
  unfold State.changeLineStop; dsimp only; split <;> rfl
@[simp] theorem State.changeLineStop_track : (s.changeLineStop f).track = s.track := by
  unfold State.changeLineStop; dsimp only; split <;> rfl
@[simp] theorem State.changeLineStop_exits : (s.changeLineStop f).exits = s.exits := by
  unfold State.changeLineStop; dsimp only; split <;> rfl
@[simp] theorem State.changeLineStop_nextEntry : (s.changeLineStop f).nextEntry = s.nextEntry := by
  unfold State.changeLineStop; dsimp only; split <;> rfl
@[simp] theorem State.changeLineStop_channels : (s.changeLineStop f).channels = s.channels := by
  unfold State.changeLineStop; dsimp only; split <;> rfl
@[simp] theorem State.changeLineStop_groups : (s.changeLineStop f).groups = s.groups := by
  unfold State.changeLineStop; dsimp only; split <;> rfl
@[simp] theorem State.changeLineStop_interlocks : (s.changeLineStop f).interlocks = s.interlocks := by
  unfold State.changeLineStop; dsimp only; split <;> rfl
@[simp] theorem State.changeLineStop_lineStop : (s.changeLineStop f).lineStop = f s.lineStop := by
  unfold State.changeLineStop; dsimp only; split <;> rfl
@[simp] theorem State.changeLineStop_monitor : (s.changeLineStop f).monitor = s.monitor := by
  unfold State.changeLineStop; dsimp only; split <;> rfl
@[simp] theorem State.changeLineStop_anodes : (s.changeLineStop f).anodes = s.anodes := by
  unfold State.changeLineStop; dsimp only; split <;> rfl
@[simp] theorem State.changeLineStop_moduleLink : (s.changeLineStop f).moduleLink = s.moduleLink := by
  unfold State.changeLineStop; dsimp only; split <;> rfl
@[simp] theorem State.changeLineStop_freeCount : (s.changeLineStop f).freeCount = s.freeCount := by
  unfold State.changeLineStop; dsimp only; split <;> rfl
@[simp] theorem State.changeLineStop_pending : (s.changeLineStop f).pending = s.pending := by
  unfold State.changeLineStop; dsimp only; split <;> rfl

/-- The notices after a change of the cause set: LINE_STOP joins where the set stops being empty (R170). -/
theorem State.changeLineStop_link : (s.changeLineStop f).link =
    if s.lineStop.isEmpty && !(f s.lineStop).isEmpty
    then { s.link with notices := joinNotices .lineStop s.link.notices } else s.link := by
  unfold State.changeLineStop; dsimp only; split <;> rfl

end

end Sys2Proof.Machine
end

