-- ==== Sys2Proof/Laws/Ops.lean ====
section
/-! SUPPORT. One lemma for each shared operation of Machine/Ops.lean, saying once what it does: the reads
of a changed vector, the loops, the notices, the module link, the transmitter, and what ends a command. -/

namespace Sys2Proof.Machine

/-! ### Reads -/

theorem State.chan_def (s : State) (c : Chan) : s.chan c = s.channels[c] := rfl

@[simp] theorem State.updChan_chan_same (s : State) (c : Chan) (f : Channel → Channel) :
    (s.updChan c f).chan c = f (s.chan c) := by simp [State.chan]

@[simp] theorem State.updChan_chan_other (s : State) {c d : Chan} (f : Channel → Channel) (h : d ≠ c) :
    (s.updChan c f).chan d = s.chan d := by
  have : (c : Nat) ≠ d := fun e => h (Fin.ext e.symm)
  simp [State.chan, this]

theorem State.updChan_withChan (s : State) (c : Chan) (f : Channel → Channel) :
    s.updChan c f = { s with channels := s.withChan c (f (s.chan c)) } := rfl

/-! ### Loops -/

/-- What each turn of a loop keeps, the loop keeps. -/
theorem State.forList_keeps {P : State → Prop} {f : Chan → State → State}
    (h : ∀ c s, P s → P (f c s)) : ∀ (l : List Chan) (s : State), P s → P (s.forList l f)
  | [], _, hs => hs
  | c :: l, s, hs => forList_keeps h l (f c s) (h c s hs)

theorem State.forChans_keeps {P : State → Prop} {f : Chan → State → State}
    (h : ∀ c s, P s → P (f c s)) (s : State) (hs : P s) : P (s.forChans f) :=
  State.forList_keeps (P := P) (f := f) h Chan.all s hs

/-- A loop whose turns each change nothing changes nothing. -/
theorem State.forList_eq_self {f : Chan → State → State} (s : State) (h : ∀ c, f c s = s) :
    ∀ l, s.forList l f = s
  | [] => rfl
  | c :: l => by
    have := forList_eq_self s h l
    simpa [State.forList, h c] using this

theorem State.forChans_eq_self {f : Chan → State → State} (s : State) (h : ∀ c, f c s = s) :
    s.forChans f = s := State.forList_eq_self s h Chan.all

/-! ### Notices and orders -/

theorem joinNotices_nodup (k : NoticeKind) {l : List NoticeKind} (h : l.Nodup) : (joinNotices k l).Nodup := by
  unfold joinNotices
  split
  · exact h
  · rename_i hk
    exact List.nodup_append.2 ⟨h, by simp, by rintro a ha b hb rfl; simp at hb; exact hk (hb ▸ ha)⟩

@[simp] theorem sortOrders_nil : sortOrders [] = [] := by
  simp [sortOrders]

theorem sortOrders_single (o : Order) : sortOrders [o] = [o] := by
  obtain ⟨c, b⟩ := o
  have : ∀ c : Chan, sortOrders [⟨c, b⟩] = [⟨c, b⟩] := by
    intro c; fin_cases c <;> rfl
  exact this c

/-! ### What ends a command -/

theorem flushOrders_nil {s : State} (h : s.moduleLink.outbox = []) : flushOrders s = s := by
  unfold flushOrders
  rw [h]
  obtain ⟨⟩ := s
  simp_all only [sortOrders_nil, List.append_nil]
  rename_i m _ _
  obtain ⟨⟩ := m
  simp_all

/-- A settled state, taken apart. -/
theorem State.settled_iff {s : State} : s.settled = true ↔
    s.moduleLink.outbox = [] ∧ (s.moduleLink.sending = none → s.moduleLink.waiting = []) ∧
    (s.link.tx = .idle → s.link.inHand = none ∧ s.link.notices = []) := by
  unfold State.settled
  cases s.moduleLink.sending <;> cases s.link.tx <;> simp [and_assoc]

theorem pumpOrders_of_idle {s : State} (h : s.moduleLink.sending = none → s.moduleLink.waiting = []) :
    pumpOrders s = s := by
  unfold pumpOrders
  split
  · rename_i h1 h2
    simp [h h1] at h2
  · rfl

theorem pumpTransmitter_of_idle {s : State}
    (h : s.link.tx = .idle → s.link.inHand = none ∧ s.link.notices = []) : pumpTransmitter s = s := by
  unfold pumpTransmitter
  split
  · rename_i h1
    simp [h h1]
  · rfl

/-- A settled state stays as it is. -/
theorem settle_of_settled {s : State} (h : s.settled = true) : settle s = s := by
  obtain ⟨h1, h2, h3⟩ := State.settled_iff.1 h
  rw [settle, flushOrders_nil h1, pumpOrders_of_idle h2, pumpTransmitter_of_idle h3]

/-- A command that leaves both links of a settled state as they were leaves the state it computes. -/
theorem done_of_links {s t : State} (h : s.settled = true) (hl : t.link = s.link)
    (hm : t.moduleLink = s.moduleLink) : done t = .next t := by
  have : t.settled = true := by simpa [State.settled, hl, hm] using h
  rw [done, settle_of_settled this]

/-- With no order of the event left over, the module link is untouched by what ends a command. -/
theorem settle_of_noOrders {s t : State} (h : s.settled = true) (hm : t.moduleLink = s.moduleLink) :
    settle t = pumpTransmitter t := by
  obtain ⟨h1, h2, -⟩ := State.settled_iff.1 h
  rw [← hm] at h1 h2
  rw [settle, flushOrders_nil h1, pumpOrders_of_idle h2]

/-- Whatever a command leaves, what ends it leaves both links settled. -/
theorem pumpTransmitter_settles (s : State) : (pumpTransmitter s).link.tx = .idle →
    (pumpTransmitter s).link.inHand = none ∧ (pumpTransmitter s).link.notices = [] := by
  unfold pumpTransmitter
  intro h
  split at h
  · split at h
    · simp at h
    · split at h
      · simp_all
      · simp at h
  · simp_all

@[simp] theorem pumpTransmitter_moduleLink (s : State) : (pumpTransmitter s).moduleLink = s.moduleLink := by
  unfold pumpTransmitter
  split
  · split
    · rfl
    · split <;> rfl
  · rfl

theorem pumpOrders_settles (s : State) : (pumpOrders s).moduleLink.sending = none →
    (pumpOrders s).moduleLink.waiting = [] := by
  unfold pumpOrders startOrder
  intro h
  split at h
  · dsimp only at h
    split at h <;> simp at h
  · rename_i h2
    cases hs : s.moduleLink.sending with
    | some o => simp [hs] at h
    | none =>
      cases hw : s.moduleLink.waiting with
      | nil => rfl
      | cons o r => exact absurd hw (h2 _ _ hs)

@[simp] theorem pumpOrders_outbox (s : State) : (pumpOrders s).moduleLink.outbox = s.moduleLink.outbox := by
  unfold pumpOrders startOrder
  split
  · dsimp only; split <;> rfl
  · rfl

theorem settle_settled (s : State) : (settle s).settled = true := by
  rw [State.settled_iff]
  refine ⟨?_, ?_, pumpTransmitter_settles _⟩
  · simp [settle, flushOrders]
  · rw [settle, pumpTransmitter_moduleLink]
    exact pumpOrders_settles _

/-! ### Orders that fall due -/

@[simp] theorem ModuleLink.ordering_nil {m : ModuleLink} (h : m.sending = none → m.waiting = []) :
    m.ordering [] = m := by
  obtain ⟨a, b, o⟩ := m
  cases a <;> simp_all [ModuleLink.ordering]

/-- An order that is no Zero Order falls due: it is sent at once on an idle module link, and waits behind
the others on a busy one (R100). -/
theorem settle_of_order {s t : State} (h : s.settled = true) {o : Order} (ho : ∀ tag, o.body ≠ .zero tag)
    (hm : t.moduleLink = { s.moduleLink with outbox := s.moduleLink.outbox ++ [o] }) :
    settle t = pumpTransmitter { t with moduleLink := s.moduleLink.ordering [o] } := by
  obtain ⟨h1, h2, -⟩ := State.settled_iff.1 h
  rw [settle]
  congr 1
  unfold flushOrders pumpOrders ModuleLink.ordering startOrder
  rw [hm, h1]
  simp only [List.nil_append, sortOrders_single]
  cases hs : s.moduleLink.sending with
  | none =>
    simp only [h2 hs, List.nil_append]
  | some x => simp_all

/-- A Zero Order falls due: its report window opens where its sending starts at once (R100, R103; log 9). -/
theorem settle_of_zeroOrder {s t : State} (h : s.settled = true) {c : Chan} {tag : Nat}
    (hm : t.moduleLink = { s.moduleLink with outbox := s.moduleLink.outbox ++ [⟨c, .zero tag⟩] }) :
    settle t = pumpTransmitter
      { (if s.moduleLink.sending = none
          then t.updChan c fun ch => { ch with windows := ch.windows ++ [⟨tag, 20, .zeroOrder⟩] } else t) with
        moduleLink := s.moduleLink.ordering [⟨c, .zero tag⟩] } := by
  obtain ⟨h1, h2, -⟩ := State.settled_iff.1 h
  rw [settle]
  congr 1
  unfold flushOrders pumpOrders ModuleLink.ordering startOrder
  rw [hm, h1]
  simp only [List.nil_append, sortOrders_single]
  cases hs : s.moduleLink.sending with
  | none =>
    simp only [h2 hs, List.nil_append, if_true]
    rcases s with ⟨⟩
    simp_all [State.updChan, Config.windowMs]
  | some x => rcases s with ⟨⟩; simp_all

/-! ### Notices that are raised -/

/-- A transmitter that is busy, or has nothing to send, stays as it is; else it begins to send the head of the
pending notices with the snapshot of this moment (R193, R194). -/
theorem pumpTransmitter_raising {t : State} {l : LineLink} {ks : List NoticeKind} {x : Snapshot}
    (h : l.tx = .idle → l.inHand = none) (hx : t.snapshot = x)
    (hl : t.link = { l with notices := ks.foldl (fun p k => joinNotices k p) l.notices }) :
    pumpTransmitter t = { t with link := l.raising x ks } := by
  have back : ∀ y : LineLink, y = t.link → t = { t with link := y } := by rintro _ rfl; rfl
  obtain ⟨r, g, inHand, held, notices, tx, rate⟩ := l
  unfold pumpTransmitter LineLink.raising
  rw [hl, hx]
  dsimp only at *
  generalize List.foldl (fun p k => joinNotices k p) notices ks = p at *
  cases tx with
  | idle =>
    obtain rfl := h rfl
    cases p with
    | nil => exact back _ hl.symm
    | cons k rest => rfl
  | reply _ => exact back _ hl.symm
  | notice _ _ => exact back _ hl.symm

end Sys2Proof.Machine
end

