-- ==== Sys2Proof/Laws/Channels.lean ====
section
/-! SUPPORT. What the shared operations on channels can touch: whatever they do, they leave the mode, the
configuration, the panels waiting and gone, the interlocks, the line-stop cause set and the anode counters. -/

namespace Sys2Proof.Machine

/-- The work on channels from `s` to `t`: only channels, groups, the track's in-flight counts, the monitor, the
two links and the counter of free values may differ. -/
structure ChannelWork (s t : State) : Prop where
  pins : t.pins = s.pins
  mode : t.mode = s.mode
  holdCauses : t.holdCauses = s.holdCauses
  bootTimer : t.bootTimer = s.bootTimer
  profile : t.profile = s.profile
  segments : t.segments = s.segments
  recipes : t.recipes = s.recipes
  ramps : t.ramps = s.ramps
  conveyor : t.conveyor = s.conveyor
  staging : t.staging = s.staging
  exits : t.exits = s.exits
  nextEntry : t.nextEntry = s.nextEntry
  interlocks : t.interlocks = s.interlocks
  lineStop : t.lineStop = s.lineStop
  anodes : t.anodes = s.anodes
  pending : t.pending = s.pending

namespace ChannelWork

theorem refl (s : State) : ChannelWork s s := by constructor <;> rfl

theorem trans {s t u : State} (h : ChannelWork s t) (k : ChannelWork t u) : ChannelWork s u := by
  obtain ⟨⟩ := h; obtain ⟨⟩ := k; constructor <;> simp_all

theorem forList {f : Chan → State → State} (h : ∀ c s, ChannelWork s (f c s)) (l : List Chan) (s : State) :
    ChannelWork s (s.forList l f) :=
  State.forList_keeps (P := ChannelWork s) (fun c t ht => ht.trans (h c t)) l s (refl s)

theorem forChans {f : Chan → State → State} (h : ∀ c s, ChannelWork s (f c s)) (s : State) :
    ChannelWork s (s.forChans f) := forList h Chan.all s

theorem updChan (s : State) (c : Chan) (f : Channel → Channel) : ChannelWork s (s.updChan c f) := by
  constructor <;> rfl

theorem updGroup (s : State) (g : BusGroup) (f : Group → Group) : ChannelWork s (s.updGroup g f) := by
  constructor <;> rfl

theorem order (s : State) (c : Chan) (b : OrderBody) : ChannelWork s (s.order c b) := by constructor <;> rfl

theorem raise (s : State) (k : NoticeKind) : ChannelWork s (s.raise k) := by constructor <;> rfl

theorem raiseCounts (s : State) (l : List Contributor) : ChannelWork s (s.raiseCounts l) := by
  constructor <;> rfl

theorem dequeue (s : State) (c : Chan) : ChannelWork s (s.dequeue c) := by constructor <;> rfl

theorem sample (s : State) (c : Chan) (x : Sample) : ChannelWork s (s.sample c x) := by
  unfold State.sample
  split
  · exact refl s
  · dsimp only; split <;> constructor <;> rfl

theorem grant (s : State) (g : BusGroup) (c : Chan) : ChannelWork s (s.grant g c) := by
  constructor <;> rfl

theorem arbiter (s : State) (g : BusGroup) : ChannelWork s (s.arbiter g) := by
  unfold State.arbiter
  split
  · exact grant ..
  · exact refl s

theorem arbiterOf (s : State) (c : Chan) : ChannelWork s (s.arbiterOf c) := by
  unfold State.arbiterOf
  split
  · exact arbiter ..
  · exact refl s

theorem truncate (s : State) (c : Chan) : ChannelWork s (s.truncate c) := by
  unfold State.truncate
  split
  · exact (order ..).trans (updChan ..)
  · exact refl s

theorem toDormant (s : State) (c : Chan) : ChannelWork s (s.toDormant c) := by
  unfold State.toDormant
  dsimp only
  split
  · exact ((order ..).trans (updChan ..)).trans (arbiterOf ..)
  · exact (order ..).trans (updChan ..)

theorem toFaulted (s : State) (c : Chan) (cause : FaultCause) : ChannelWork s (s.toFaulted c cause) := by
  unfold State.toFaulted
  dsimp only
  split
  · exact refl s
  · have first : ChannelWork s (if ((s.truncate c).chan c).contactorClosed = true
        then (s.truncate c).order c .disarm else s.truncate c) := by
      split
      · exact (truncate s c).trans (order ..)
      · exact truncate s c
    have rest (f : Channel → Channel) :=
      ((first.trans (dequeue _ c)).trans (updChan _ c f)).trans (raise _ .channelFault)
    split
    · exact (rest _).trans (arbiterOf _ c)
    · exact rest _

theorem toAlign (s : State) (c : Chan) (g : Nat) : ChannelWork s (s.toAlign c g) :=
  (updChan ..).trans (sample ..)

theorem startOccasion (s : State) (c : Chan) : ChannelWork s (s.startOccasion c) := by
  unfold State.startOccasion
  split
  · split
    · exact (updChan ..).trans (toAlign ..)
    · exact refl s
  · exact refl s

theorem startOccasions (s : State) : ChannelWork s s.startOccasions := forChans (fun c s => startOccasion s c) s

theorem loneZeroIfDue (s : State) (c : Chan) : ChannelWork s (s.loneZeroIfDue c) := by
  unfold State.loneZeroIfDue
  dsimp only
  split
  · exact (order ..).trans (updChan ..)
  · exact refl s

theorem toReady (s : State) (c : Chan) : ChannelWork s (s.toReady c) :=
  ((updChan ..).trans (loneZeroIfDue ..)).trans (startOccasion ..)

theorem startPeriod (s : State) (c : Chan) (g : Nat) : ChannelWork s (s.startPeriod c g) := by
  unfold State.startPeriod
  split
  · exact toReady ..
  · exact ((raiseCounts ..).trans (order ..)).trans (updChan ..)

theorem takeRule (s : State) (c : Chan) (ended : Option Nat) : ChannelWork s (s.takeRule c ended) := by
  unfold State.takeRule
  split
  · exact toReady ..
  · split
    · exact startPeriod ..
    · exact toAlign ..

theorem realign (s : State) : ChannelWork s s.realign := by
  refine forChans (fun c s => ?_) s
  split
  · split
    · exact takeRule ..
    · exact refl s
  · exact refl s

theorem drainToReady (s : State) (c : Chan) : ChannelWork s (s.drainToReady c) := by
  have h : ChannelWork s { s with freeCount := s.freeCount + 1 } := by constructor <;> rfl
  exact (h.trans (updChan _ c _)).trans (toReady _ c)

theorem drainEnds (s : State) (c : Chan) (d : Destination) : ChannelWork s (s.drainEnds c d) := by
  unfold State.drainEnds
  split
  · split
    · exact drainToReady ..
    · exact toReady ..
  · exact toDormant ..

theorem beginDrain (s : State) (c : Chan) (d : Destination) : ChannelWork s (s.beginDrain c d) := by
  unfold State.beginDrain
  split
  · exact updChan ..
  · split
    · exact toReady ..
    · exact toDormant ..

theorem cancelDrain (s : State) (c : Chan) : ChannelWork s (s.cancelDrain c) := updChan ..

theorem stepDrain (s : State) (c : Chan) (d : Destination) (n : Nat) : ChannelWork s (s.stepDrain c d n) := by
  unfold State.stepDrain
  split
  · exact drainEnds ..
  · split
    · exact startPeriod ..
    · exact drainEnds ..

theorem zeroOutcome (s : State) (c : Chan) (lone valid : Bool) : ChannelWork s (s.zeroOutcome c lone valid) := by
  unfold State.zeroOutcome
  dsimp only
  split
  · exact ((updChan ..).trans (loneZeroIfDue ..)).trans (startOccasion ..)
  · exact (updChan ..).trans (loneZeroIfDue ..)

theorem dropChannel (s : State) (c : Chan) : ChannelWork s (s.dropChannel c) := by
  unfold State.dropChannel
  split
  · exact (truncate ..).trans (toReady ..)
  · exact (truncate ..).trans (drainToReady ..)
  · exact (truncate ..).trans (toDormant ..)
  all_goals exact refl s

theorem inhibitionEnds (s : State) (c : Chan) : ChannelWork s (s.inhibitionEnds c) := by
  unfold State.inhibitionEnds
  split
  · exact (updChan ..).trans (startOccasion ..)
  · exact refl s

/-- What ends a command touches the two links and the windows of Zero Orders, and nothing else. -/
theorem settle (s : State) : ChannelWork s (settle s) := by
  have flush : ChannelWork s (flushOrders s) := by constructor <;> rfl
  have pump (t : State) : ChannelWork t (pumpOrders t) := by
    unfold pumpOrders startOrder
    split
    · dsimp only; split <;> constructor <;> rfl
    · exact refl t
  have send (t : State) : ChannelWork t (pumpTransmitter t) := by
    unfold pumpTransmitter
    split
    · split
      · constructor <;> rfl
      · split <;> constructor <;> rfl
    · exact refl t
  exact (flush.trans (pump _)).trans (send _)

end ChannelWork

/-- A loop of start occasions changes nothing where no channel is READY. -/
theorem State.startOccasions_of_none {s : State} (h : ∀ c, (s.chan c).state ≠ .ready) : s.startOccasions = s :=
  State.forChans_eq_self s fun c => by simp [State.startOccasion, State.mayStart, h c]

end Sys2Proof.Machine
end

