-- ==== Sys2Proof/Laws/Effects.lean ====
section
/-! SUPPORT. How the parts of an event that the statements speak of (Effects in Safety.lean) meet the machine:
the machine's state in the middle of an event, what a part adds to it, and what ends the event. -/

namespace Sys2Proof.Machine

@[simp] theorem State.quiet_state (s : State) : s.quiet.state = s := rfl
@[simp] theorem State.quiet_orders (s : State) : s.quiet.orders = [] := rfl
@[simp] theorem State.quiet_notices (s : State) : s.quiet.notices = [] := rfl

@[simp] theorem Effects.andThen_state (e : Effects) (f : State → Effects) :
    (e.andThen f).state = (f e.state).state := rfl
@[simp] theorem Effects.andThen_orders (e : Effects) (f : State → Effects) :
    (e.andThen f).orders = e.orders ++ (f e.state).orders := rfl
@[simp] theorem Effects.andThen_notices (e : Effects) (f : State → Effects) :
    (e.andThen f).notices = e.notices ++ (f e.state).notices := rfl
@[simp] theorem Effects.andThen_quiet (e : Effects) (f : State → State) :
    e.andThen (fun t => (f t).quiet) = { e with state := f e.state } := by
  simp [Effects.andThen, State.quiet]

@[simp] theorem Effects.each_nil (e : Effects) (f : α → State → Effects) : e.each [] f = e := rfl
@[simp] theorem Effects.each_cons (e : Effects) (a : α) (l : List α) (f : α → State → Effects) :
    e.each (a :: l) f = (e.andThen (f a)).each l f := rfl

/-- The machine's state in the middle of an event: its orders in the outbox, its notices pending. -/
def Effects.live (e : Effects) : State :=
  { e.state with
    moduleLink := { e.state.moduleLink with outbox := e.state.moduleLink.outbox ++ e.orders }
    link := { e.state.link with
      notices := e.notices.foldl (fun p k => joinNotices k p) e.state.link.notices } }

@[simp] theorem State.quiet_live (s : State) : s.quiet.live = s := by
  simp [Effects.live, State.quiet]

/-- A step of the machine that leaves the links to its orders and notices does what the part `f` says. -/
theorem Effects.live_andThen {e : Effects} {f : State → Effects} {t : State}
    (hl : (f e.state).state.link = e.state.link) (hm : (f e.state).state.moduleLink = e.state.moduleLink)
    (ht : t = { (f e.state).state with
      moduleLink := { e.state.moduleLink with
        outbox := e.state.moduleLink.outbox ++ e.orders ++ (f e.state).orders }
      link := { e.state.link with
        notices := (f e.state).notices.foldl (fun p k => joinNotices k p)
          (e.notices.foldl (fun p k => joinNotices k p) e.state.link.notices) } }) :
    t = (e.andThen f).live := by
  simp [ht, Effects.live, hl, hm]

/-- A loop of the machine whose turns do what the parts say does what all of them say. -/
theorem Effects.live_each {f : α → State → Effects} {step : State → α → State}
    (h : ∀ a (e : Effects), step e.live a = (e.andThen (f a)).live) :
    ∀ (l : List α) (e : Effects), l.foldl step e.live = (e.each l f).live
  | [], _ => rfl
  | a :: l, e => by
    rw [List.foldl_cons, h, live_each h l]
    rfl

/-- The orders of an event reach the module link (R100). -/
theorem pumpOrders_live {e : Effects} (h : e.state.settled = true) :
    pumpOrders (flushOrders e.live) = { e.state.issued e.orders with link := e.live.link } := by
  obtain ⟨h1, h2, -⟩ := State.settled_iff.1 h
  unfold flushOrders pumpOrders startOrder State.issued State.sent ModuleLink.ordering Effects.live
  rw [h1, List.nil_append]
  generalize sortOrders e.orders = l
  cases hs : e.state.moduleLink.sending with
  | some x => simp [hs, ← h1]
  | none =>
    simp only [h2 hs, List.nil_append]
    match l with
    | [] => simp [hs, ← h1]
    | ⟨c, b⟩ :: rest => cases b <;> simp [← h1, State.updChan, Config.windowMs, State.chan]

/-- What ends a command leaves the event as the statements say it ends. -/
theorem settle_live {e : Effects} (h : e.state.settled = true) : settle e.live = e.ended := by
  obtain ⟨-, -, h3⟩ := State.settled_iff.1 h
  have hi : (e.state.issued e.orders).link = e.state.link := by
    unfold State.issued State.sent
    split <;> rfl
  rw [settle, pumpOrders_live h]
  exact pumpTransmitter_raising (l := (e.state.issued e.orders).link) (ks := e.notices)
    (fun ht => by rw [hi] at ht ⊢; exact (h3 ht).1) rfl (by rw [hi]; rfl)

theorem done_live {e : Effects} {t : State} (h : e.state.settled = true) (ht : t = e.live) :
    done t = .next e.ended := by
  rw [done, ht, settle_live h]

/-! ### The machine's operations as parts of an event -/

/-- The line-stop cause set changes, with the LINE_STOP notice that brings (R170). -/
theorem changeLineStop_live (e : Effects) (f : LineStopCauses → LineStopCauses) :
    e.live.changeLineStop f =
      (e.andThen fun s => ⟨{ s with lineStop := f s.lineStop }, [], lineStopNotice s.lineStop (f s.lineStop)⟩).live := by
  unfold State.changeLineStop lineStopNotice State.raise Effects.andThen
  change (if (e.state.lineStop.isEmpty && !(f e.state.lineStop).isEmpty) = true then _ else _) = _
  cases h : e.state.lineStop.isEmpty <;> cases k : (f e.state.lineStop).isEmpty <;> simp [Effects.live, h, k]

/-- A notice is raised (R192). -/
theorem raise_live (e : Effects) (k : NoticeKind) :
    e.live.raise k = ({ e with notices := e.notices ++ [k] } : Effects).live := by
  simp [State.raise, Effects.live]

theorem joinExits_eq (x : ExitRecord) (l : List ExitRecord) :
    joinExits x l = if l.length < 16 then l ++ [x] else l.tail ++ [{ x with lossBefore := true }] := rfl

/-- A record leaves the track where it may (R36, R37, R38, R39). -/
theorem leaveIfDone_live (e : Effects) (entry : Nat) :
    e.live.leaveIfDone entry = (e.andThen (State.left entry)).live := by
  unfold State.leaveIfDone State.leaveTrack
  rw [show e.live.find entry = e.state.find entry from rfl]
  cases hf : e.state.find entry with
  | none => simp [Effects.andThen, State.left, State.quiet, hf]
  | some r =>
    by_cases hr : r.departing = true ∧ r.inFlight = 0
    · let gone : Effects :=
        { e with state := { e.state with
          track := e.state.track.filter fun t => t.entry ≠ entry
          exits := joinExits (e.state.exitRecord r) e.state.exits } }
      have h : (Bool.and r.departing (decide (r.inFlight = 0))) = true := by simp [hr]
      simp only [h, if_true]
      change (if e.state.exits.length + 1 = 12 then
        (gone.live.raise .exit).changeLineStop fun l => { l with exitHigh := true } else gone.live.raise .exit) = _
      rw [raise_live, changeLineStop_live]
      simp only [Effects.andThen, State.left, hf, if_pos hr, ← joinExits_eq]
      by_cases h11 : e.state.exits.length = 11
      · simp [h11, gone]
      · simp [h11, gone, lineStopNotice]
    · have h : ¬ (Bool.and r.departing (decide (r.inFlight = 0))) = true := by simpa using hr
      simp [Effects.andThen, State.left, State.quiet, hf, hr, h]

end Sys2Proof.Machine
end

