-- ==== Sys2Proof/Laws/Layouts.lean ====
section
/-! SUPPORT. Fields to bytes and back: the laws through which a layout is read from its own bytes. -/

namespace Sys2Proof.Machine

@[simp] theorem beBytes_length : ∀ w n, (beBytes w n).length = w
  | 0, _ => rfl
  | w + 1, n => by simp [beBytes, beBytes_length w n]

theorem beNat_append (l m : List Byte) : beNat (l ++ m) = beNat l * 256 ^ m.length + beNat m := by
  unfold beNat
  rw [List.foldl_append]
  generalize List.foldl (fun n b => n * 256 + BitVec.toNat b) 0 l = k
  induction m using List.reverseRecOn with
  | nil => simp
  | append_singleton m b ih =>
    simp only [List.foldl_append, List.foldl_cons, List.foldl_nil, ih, List.length_append, List.length_cons,
      List.length_nil, pow_succ]
    ring

/-- The value of a number's bytes is the number, as far as the bytes hold it (R198). -/
theorem beNat_beBytes : ∀ w n, beNat (beBytes w n) = n % 256 ^ w
  | 0, n => by simp [beBytes, beNat, Nat.mod_one]
  | w + 1, n => by
    have h := beNat_append [BitVec.ofNat 8 (n / 256 ^ w)] (beBytes w n)
    rw [List.singleton_append] at h
    rw [beBytes, h, beNat_beBytes w n, beBytes_length]
    simp only [beNat, List.foldl_cons, List.foldl_nil, zero_mul, zero_add, BitVec.toNat_ofNat]
    rw [show (2 : Nat) ^ 8 = 256 from rfl, pow_succ, Nat.mod_mul]
    ring

theorem fieldBytes_cons (f : Field) (l : List Field) :
    fieldBytes (f :: l) = beBytes f.width f.value ++ fieldBytes l := by simp [fieldBytes]

theorem fieldBytes_length (l : List Field) : (fieldBytes l).length = (l.map (·.width)).sum := by
  induction l with
  | nil => rfl
  | cons f l ih => simp [fieldBytes_cons, ih]

/-- Fields whose values fit their widths are read back from their bytes. -/
theorem cutFields_fieldBytes : ∀ l : List Field, (∀ f ∈ l, f.value < 256 ^ f.width) →
    cutFields (l.map (·.width)) (fieldBytes l) = l.map (·.value)
  | [], _ => rfl
  | f :: l, h => by
    rw [fieldBytes_cons, List.map_cons, List.map_cons, cutFields]
    have ht : (beBytes f.width f.value ++ fieldBytes l).take f.width = beBytes f.width f.value := by
      rw [List.take_left' (beBytes_length _ _)]
    have hd : (beBytes f.width f.value ++ fieldBytes l).drop f.width = fieldBytes l := by
      rw [List.drop_left' (beBytes_length _ _)]
    rw [ht, hd, beNat_beBytes, Nat.mod_eq_of_lt (h f (by simp)),
      cutFields_fieldBytes l fun g hg => h g (by simp [hg])]

/-- Each kind's code stands for that kind (R199). -/
theorem requestKind_code (k : RequestKind) : requestKind? (BitVec.ofNat 8 k.code) = some k := by
  cases k <;> rfl

/-! The items a layout is spelled by (Safety), against the fields the link builds. -/

@[simp] theorem spelled_nil : spelled [] = [] := rfl

@[simp] theorem spelled_append (a b : List (Nat × Int)) :
    spelled (a ++ b) = spelled a ++ spelled b := by
  simp [spelled]

theorem spelled_cons (x : Nat × Int) (l : List (Nat × Int)) :
    spelled (x :: l) = spelled [x] ++ spelled l := by
  simp [spelled]

theorem length_spelled (l : List (Nat × Int)) : (spelled l).length = (l.map (·.1)).sum := by
  simp [spelled, List.length_flatMap]

theorem spelled_item_succ (w : Nat) (v : Int) :
    spelled [item (w + 1) v] = BitVec.ofInt 8 (v / 256 ^ w) :: spelled [item w v] := by
  simp [spelled, item, List.range_succ]

/-- An unsigned field's bytes (R198). -/
theorem beBytes_eq_spelled (w n : Nat) : beBytes w n = spelled [item w n] := by
  induction w with
  | zero => rfl
  | succ w ih =>
    rw [spelled_item_succ, beBytes, ih]
    congr 1

/-- A signed field's bytes (R198). -/
theorem signed_eq_spelled (w : Nat) (v : Int) : fieldBytes [signed w v] = spelled [item w v] := by
  have key : ∀ k ≤ w, beBytes k (v % (256 ^ w : Nat)).toNat = spelled [item k v] := by
    intro k hk
    induction k with
    | zero => rfl
    | succ k ih =>
      rw [spelled_item_succ, beBytes, ih (by omega)]
      congr 1
      rw [← BitVec.ofInt_natCast]
      apply BitVec.eq_of_toInt_eq
      simp only [BitVec.toInt_ofInt]
      push_cast
      rw [Int.toNat_of_nonneg (Int.emod_nonneg _ (by positivity))]
      obtain ⟨d, rfl⟩ := Nat.exists_eq_add_of_le hk
      have hk0 : (256 : Int) ^ k ≠ 0 := by positivity
      have hq : v / 256 ^ k = v % 256 ^ (k + 1 + d) / 256 ^ k
          + 256 * (256 ^ d * (v / 256 ^ (k + 1 + d))) := by
        conv_lhs => rw [← Int.emod_add_mul_ediv v (256 ^ (k + 1 + d))]
        rw [show (256 : Int) ^ (k + 1 + d) * (v / 256 ^ (k + 1 + d))
            = 256 ^ k * (256 * (256 ^ d * (v / 256 ^ (k + 1 + d)))) by ring,
          Int.add_mul_ediv_left _ _ hk0]
      rw [hq]
      simp [Int.bmod, Int.add_mul_emod_self_left]
  simpa [fieldBytes, signed] using key w le_rfl

end Sys2Proof.Machine
end

