-- ==== Sys2Proof/Laws/Link.lean ====
section
/-! SUPPORT. What a request meets: the one lemma through which every request row's result is read. -/

namespace Sys2Proof.Machine

/-- The state in which the request's owner acts: the receiver is back in HUNT (R188). -/
def State.hunting (s : State) : State := s.updLink fun l => { l with receiver := .hunt, gap := 0 }

@[simp] theorem State.hunting_pins (s : State) : s.hunting.pins = s.pins := rfl
@[simp] theorem State.hunting_mode (s : State) : s.hunting.mode = s.mode := rfl
@[simp] theorem State.hunting_holdCauses (s : State) : s.hunting.holdCauses = s.holdCauses := rfl
@[simp] theorem State.hunting_bootTimer (s : State) : s.hunting.bootTimer = s.bootTimer := rfl
@[simp] theorem State.hunting_profile (s : State) : s.hunting.profile = s.profile := rfl
@[simp] theorem State.hunting_segments (s : State) : s.hunting.segments = s.segments := rfl
@[simp] theorem State.hunting_recipes (s : State) : s.hunting.recipes = s.recipes := rfl
@[simp] theorem State.hunting_ramps (s : State) : s.hunting.ramps = s.ramps := rfl
@[simp] theorem State.hunting_conveyor (s : State) : s.hunting.conveyor = s.conveyor := rfl
@[simp] theorem State.hunting_staging (s : State) : s.hunting.staging = s.staging := rfl
@[simp] theorem State.hunting_track (s : State) : s.hunting.track = s.track := rfl
@[simp] theorem State.hunting_exits (s : State) : s.hunting.exits = s.exits := rfl
@[simp] theorem State.hunting_nextEntry (s : State) : s.hunting.nextEntry = s.nextEntry := rfl
@[simp] theorem State.hunting_channels (s : State) : s.hunting.channels = s.channels := rfl
@[simp] theorem State.hunting_groups (s : State) : s.hunting.groups = s.groups := rfl
@[simp] theorem State.hunting_interlocks (s : State) : s.hunting.interlocks = s.interlocks := rfl
@[simp] theorem State.hunting_lineStop (s : State) : s.hunting.lineStop = s.lineStop := rfl
@[simp] theorem State.hunting_monitor (s : State) : s.hunting.monitor = s.monitor := rfl
@[simp] theorem State.hunting_anodes (s : State) : s.hunting.anodes = s.anodes := rfl
@[simp] theorem State.hunting_moduleLink (s : State) : s.hunting.moduleLink = s.moduleLink := rfl
@[simp] theorem State.hunting_freeCount (s : State) : s.hunting.freeCount = s.freeCount := rfl
@[simp] theorem State.hunting_pending (s : State) : s.hunting.pending = s.pending := rfl
@[simp] theorem State.hunting_prof (s : State) : s.hunting.prof = s.prof := rfl
@[simp] theorem State.hunting_chan (s : State) (c : Chan) : s.hunting.chan c = s.chan c := rfl
@[simp] theorem State.hunting_segment (s : State) (c : Chan) : s.hunting.segment c = s.segment c := rfl
@[simp] theorem State.hunting_recipe (s : State) (n : Nat) : s.hunting.recipe n = s.recipe n := rfl
@[simp] theorem State.hunting_find (s : State) (n : Nat) : s.hunting.find n = s.find n := rfl
@[simp] theorem State.hunting_group (s : State) (g : BusGroup) : s.hunting.group g = s.group g := rfl
@[simp] theorem State.hunting_busGroup (s : State) (c : Chan) : s.hunting.busGroup c = s.busGroup c := rfl
@[simp] theorem State.hunting_interlock (s : State) (i : Input) : s.hunting.interlock i = s.interlock i := rfl
@[simp] theorem State.hunting_inUse (s : State) (n : Nat) : s.hunting.inUse n = s.inUse n := rfl
@[simp] theorem State.hunting_queued (s : State) (c : Chan) : s.hunting.queued c = s.queued c := rfl
@[simp] theorem State.hunting_lineView (s : State) : s.hunting.lineView = s.lineView := rfl
@[simp] theorem State.hunting_holdLatched (s : State) : s.hunting.holdLatched = s.holdLatched := rfl
@[simp] theorem State.hunting_stopLatched (s : State) : s.hunting.stopLatched = s.stopLatched := rfl
@[simp] theorem State.hunting_anySegment (s : State) : s.hunting.anySegment = s.anySegment := rfl
@[simp] theorem State.hunting_anyArmed (s : State) : s.hunting.anyArmed = s.anyArmed := rfl

/-- A receptive state, taken apart. -/
theorem State.receptive_iff {s : State} : s.receptive = true ↔
    s.settled = true ∧ s.pins.resetHeld = false ∧ s.link.inHand = none ∧ s.mode ≠ .boot := by
  simp [State.receptive, and_assoc]

/-- In a receptive state a request is taken, and its owner acts on it (R189, R190). -/
theorem State.arriveRequest_receptive {s : State} (h : s.receptive = true) (r : Request) :
    s.arriveRequest r =
      (serve r s.hunting).state.putInHand r.frame (serve r s.hunting).code (serve r s.hunting).payload
        (decide (r = .restart ∧ (serve r s.hunting).code = .ok)) := by
  obtain ⟨-, h2, h3, h4⟩ := State.receptive_iff.1 h
  simp only [State.arriveRequest, State.meet, h2, Bool.false_eq_true, if_false, State.updLink_link]
  split
  · have : ¬ (s.mode = .boot ∧ r ≠ .queryLine) := fun x => h4 x.1
    simp only [State.takeRequest, State.hunting, State.updLink_mode, this, if_false]
    congr
  · simp_all
  · simp_all

/-- What ends a taken request whose owner gave no order and raised nothing beyond `n`: the reply is in hand,
and an idle transmitter begins to send it (R189, R194). -/
theorem done_answer {s t : State} (h : s.receptive = true) {f : Frame} {code : ResultCode}
    {payload : ReplyPayload} {n : List NoticeKind}
    (hl : t.link = { s.hunting.link with notices := n }) (hm : t.moduleLink = s.moduleLink) :
    done (t.putInHand f code payload false) =
      .next { t with link := { s.link.answered f code payload with notices := n } } := by
  obtain ⟨h1, -, h3, -⟩ := State.receptive_iff.1 h
  rw [done, settle_of_noOrders h1 (by simpa [State.putInHand] using hm)]
  congr 1
  unfold State.putInHand LineLink.answered
  simp only [State.hunting, State.updLink_link] at hl
  unfold pumpTransmitter
  simp only [State.updLink_link, hl]
  cases htx : s.link.tx <;> simp_all [State.updLink]

/-- The same where the owner gave one order that is no Zero Order (R100). -/
theorem done_answer_order {s t : State} (h : s.receptive = true) {f : Frame} {code : ResultCode}
    {payload : ReplyPayload} {n : List NoticeKind} {o : Order} (ho : ∀ tag, o.body ≠ .zero tag)
    (hl : t.link = { s.hunting.link with notices := n })
    (hm : t.moduleLink = { s.moduleLink with outbox := s.moduleLink.outbox ++ [o] }) :
    done (t.putInHand f code payload false) =
      .next { t with
        moduleLink := s.moduleLink.ordering [o]
        link := { s.link.answered f code payload with notices := n } } := by
  obtain ⟨h1, -, h3, -⟩ := State.receptive_iff.1 h
  rw [done, settle_of_order h1 ho (by simpa [State.putInHand] using hm)]
  congr 1
  unfold State.putInHand LineLink.answered
  simp only [State.hunting, State.updLink_link] at hl
  unfold pumpTransmitter
  simp only [State.updLink_link, hl]
  cases htx : s.link.tx <;> simp_all [State.updLink]

/-- A request that its owner refuses with a code alone (R191) changes nothing but the link. -/
theorem done_refused {s : State} (h : s.receptive = true) {r : Request} {code : ResultCode}
    {payload : ReplyPayload} (hs : serve r s.hunting = ⟨code, payload, s.hunting⟩)
    (hr : r ≠ .restart ∨ code ≠ .ok) :
    done (s.arriveRequest r) = .next { s with link := s.answer r code payload } := by
  rw [State.arriveRequest_receptive h, hs]
  have : decide (r = .restart ∧ code = .ok) = false := by
    rcases hr with hr | hr <;> simp [hr]
  rw [this]
  dsimp only
  rw [done_answer (s := s) (t := s.hunting) (n := s.link.notices) h rfl rfl]
  simp only [State.answer, State.hunting, LineLink.answered]
  rfl

/-- A request whose owner takes it and changes the state to `t`, leaving both links (R189, R191). -/
theorem done_taken {s t : State} (h : s.receptive = true) {r : Request} {code : ResultCode}
    {payload : ReplyPayload} (hs : serve r s.hunting = ⟨code, payload, t⟩) (hr : r ≠ .restart)
    (hl : t.link = s.hunting.link) (hm : t.moduleLink = s.moduleLink) :
    done (s.arriveRequest r) = .next { t with link := s.answer r code payload } := by
  rw [State.arriveRequest_receptive h, hs]
  simp only [hr, false_and, decide_false]
  rw [done_answer (s := s) (t := t) (n := s.link.notices) h (by rw [hl]; rfl) hm]
  rfl

/-- The receiver keeps its state over a gap of at most 5 ms (R188). -/
@[simp] theorem LineLink.listening_of_gap_le {l : LineLink} (h : l.gap ≤ Config.gapMs) : l.listening = l.receiver :=
  if_neg (Nat.not_lt.mpr h)

/-- A longer gap discards the frame being received (R188). -/
@[simp] theorem LineLink.listening_of_lt_gap {l : LineLink} (h : Config.gapMs < l.gap) : l.listening = .hunt :=
  if_pos h

/-- An order is unsent exactly while it stands in the module link's queue (R100). -/
@[simp] theorem State.unsent_iff (s : State) (c : Chan) (b : OrderBody) :
    s.unsent c b = true ↔ (⟨c, b⟩ : Order) ∈ s.moduleLink.waiting := by
  simp [State.unsent]

end Sys2Proof.Machine
end

