-- ==== Sys2Proof/Laws/PerInstr.lean ====
section
/-! SUPPORT. A statement about every command as syntax, one lemma for each constructor of `Instr`. -/

namespace Sys2Proof.Laws.Framed

open Machine

/-- The longest frame holds the request of a well-formed command: a body of at most 240 bytes, kind and
payload (R187, R190). -/
def Statement (i : Instr) : Prop :=
  ∀ r, i.wf = true → requestOf i = some r → r.frame.payload.length ≤ 239

theorem of_none {i : Instr} (h : requestOf i = none) : Statement i := by
  intro r _ hr
  simp [h] at hr

theorem of_fields {i : Instr} {r : Request} (h : requestOf i = some r)
    (hl : i.wf = true → (r.fields.map (·.width)).sum ≤ 239) : Statement i := by
  intro q hw hq
  obtain rfl : r = q := by simpa [h] using hq
  simpa [Request.frame, fieldBytes_length] using hl hw

theorem sum_byteList (l : List Nat) : ((byteList l).map (·.width)).sum = 1 + l.length := by
  induction l with
  | nil => rfl
  | cons a l ih =>
    simp only [byteList, List.map_cons, List.sum_cons, List.length_cons, one] at ih ⊢
    omega

theorem sum_stages (l : List Stage) : ((l.flatMap Stage.fields).map (·.width)).sum = 6 * l.length := by
  induction l with
  | nil => rfl
  | cons a l ih =>
    simp only [List.flatMap_cons, List.map_append, List.sum_append, ih, List.length_cons, Stage.fields,
      List.map_cons, List.map_nil, List.sum_cons, List.sum_nil, two]
    omega

theorem powerOn (strap : BitRate) : Statement (.powerOn strap) := of_none rfl
theorem resetLineActive : Statement .resetLineActive := of_none rfl
theorem resetLineRelease (strap : BitRate) : Statement (.resetLineRelease strap) := of_none rfl
theorem restartTakesEffect (strap : BitRate) : Statement (.restartTakesEffect strap) := of_none rfl
theorem bootEnd : Statement .bootEnd := of_none rfl
theorem presenceReply (c : Chan) : Statement (.presenceReply c) := of_none rfl
theorem forwardPulse : Statement .forwardPulse := of_none rfl
theorem reversePulse : Statement .reversePulse := of_none rfl
theorem eyeChange (level : Level) : Statement (.eyeChange level) := of_none rfl
theorem stallTimerExpiry : Statement .stallTimerExpiry := of_none rfl
theorem phaseIntervalEnd (entry : Nat) : Statement (.phaseIntervalEnd entry) := of_none rfl
theorem phaseBoundary (entry : Nat) : Statement (.phaseBoundary entry) := of_none rfl
theorem channelIntervalEnd (c : Chan) : Statement (.channelIntervalEnd c) := of_none rfl
theorem periodEnd (c : Chan) : Statement (.periodEnd c) := of_none rfl
theorem zeroTimerExpiry (c : Chan) : Statement (.zeroTimerExpiry c) := of_none rfl
theorem loneZeroRetryExpiry (c : Chan) : Statement (.loneZeroRetryExpiry c) := of_none rfl
theorem periodReport (c : Chan) (report : PeriodReport) : Statement (.periodReport c report) :=
  of_none rfl
theorem reportWindowClose (c : Chan) : Statement (.reportWindowClose c) := of_none rfl
theorem armReport (c : Chan) (faultCode : Nat) : Statement (.armReport c faultCode) := of_none rfl
theorem armingTimeout (c : Chan) : Statement (.armingTimeout c) := of_none rfl
theorem contactorRestEnd (c : Chan) : Statement (.contactorRestEnd c) := of_none rfl
theorem armingSpacingReached (g : BusGroup) : Statement (.armingSpacingReached g) := of_none rfl
theorem interlockInputChange (i : Input) (level : Level) : Statement (.interlockInputChange i level) :=
  of_none rfl
theorem frameReceived (kind : Byte) (payload : List Byte) : Statement (.frameReceived kind payload) :=
  of_none rfl
theorem interByteGap : Statement .interByteGap := of_none rfl
theorem framingError : Statement .framingError := of_none rfl
theorem transmitComplete : Statement .transmitComplete := of_none rfl
theorem badKind (kind : Byte) : Statement (.badKind kind) := of_none rfl
theorem setProfile (profile : Profile) : Statement (.setProfile profile) :=
  of_fields rfl fun _ => by
  simp [Request.fields, Profile.fields, recipeOrNone, one, two]
theorem setSegment (side : Side) (index : Nat) (record : Option Segment) : Statement (.setSegment side index record) :=
  of_fields rfl fun _ => by
  simp [Request.fields, segmentFields, Segment.fields, flag, one, two]
theorem setLimits (channel : Nat) (forward : Nat) (reverse : Nat) : Statement (.setLimits channel forward reverse) :=
  of_fields rfl fun _ => Nat.le_of_ble_eq_true rfl
theorem setRecipe (number : Nat) (recipe : Recipe) : Statement (.setRecipe number recipe) :=
  of_fields rfl fun h => by
  have hw : recipe.wf = true := by simp only [Instr.wf, Bool.and_eq_true] at h; exact h.2
  have hl := of_decide_eq_true (Bool.and_eq_true_iff.1 hw).2
  have hs : ((Request.setRecipe number recipe).fields.map (·.width)).sum =
      14 + ((recipe.stages.flatMap Stage.fields).map (·.width)).sum := by
    simp only [Request.fields, Recipe.fields, Timing.fields, List.map_cons, List.map_append, List.sum_cons,
      List.sum_append, List.map_nil, List.sum_nil, one, two, four, orZero]
    omega
  rw [hs, sum_stages]
  omega

theorem clearRecipe (number : Nat) : Statement (.clearRecipe number) :=
  of_fields rfl fun _ => Nat.le_of_ble_eq_true rfl
theorem setRamp (table : Nat) (steps : List Nat) : Statement (.setRamp table steps) :=
  of_fields rfl fun h => by
  simp only [Instr.wf, Bool.and_eq_true] at h
  have h := h.2
  simp only [fitsList, decide_eq_true_eq] at h
  simp only [Request.fields, List.map_cons, List.sum_cons, sum_byteList, one]
  omega
theorem setModeRun : Statement .setModeRun := of_fields rfl fun _ => Nat.le_of_ble_eq_true rfl
theorem setModeHold : Statement .setModeHold := of_fields rfl fun _ => Nat.le_of_ble_eq_true rfl
theorem setModeStandby : Statement .setModeStandby := of_fields rfl fun _ => Nat.le_of_ble_eq_true rfl
theorem setModeOffline : Statement .setModeOffline := of_fields rfl fun _ => Nat.le_of_ble_eq_true rfl
theorem restart : Statement .restart := of_fields rfl fun _ => Nat.le_of_ble_eq_true rfl
theorem armChannels (channels : List Nat) : Statement (.armChannels channels) :=
  of_fields rfl fun h => by
  simp only [Instr.wf, Bool.and_eq_true] at h
  have h := h.2
  simp only [fitsList, decide_eq_true_eq] at h
  simp only [Request.fields, sum_byteList]
  omega
theorem disarmChannels (channels : List Nat) : Statement (.disarmChannels channels) :=
  of_fields rfl fun h => by
  simp only [Instr.wf, Bool.and_eq_true] at h
  have h := h.2
  simp only [fitsList, decide_eq_true_eq] at h
  simp only [Request.fields, sum_byteList]
  omega
theorem clearFault (channels : List Nat) : Statement (.clearFault channels) := of_fields rfl fun h => by
  simp only [Instr.wf, Bool.and_eq_true] at h
  have h := h.2
  simp only [fitsList, decide_eq_true_eq] at h
  simp only [Request.fields, sum_byteList]
  omega
theorem announcePanel (panel : StagingEntry) : Statement (.announcePanel panel) :=
  of_fields rfl fun _ => Nat.le_of_ble_eq_true rfl
theorem withdrawPanel (id : Nat) : Statement (.withdrawPanel id) :=
  of_fields rfl fun _ => Nat.le_of_ble_eq_true rfl
theorem removePanel (name : PanelName) : Statement (.removePanel name) := of_fields rfl fun _ => by
  cases name <;> exact Nat.le_of_ble_eq_true rfl
theorem queryPanel (name : PanelName) : Statement (.queryPanel name) := of_fields rfl fun _ => by
  cases name <;> exact Nat.le_of_ble_eq_true rfl
theorem collectExit : Statement .collectExit := of_fields rfl fun _ => Nat.le_of_ble_eq_true rfl
theorem setInterlock (input : Nat) (config : InterlockConfig) : Statement (.setInterlock input config) :=
  of_fields rfl fun _ => Nat.le_of_ble_eq_true rfl
theorem ackInterlock (input : Nat) : Statement (.ackInterlock input) :=
  of_fields rfl fun _ => Nat.le_of_ble_eq_true rfl
theorem clearLineStop : Statement .clearLineStop := of_fields rfl fun _ => Nat.le_of_ble_eq_true rfl
theorem setMonitor (counter : Nat) (program : MonitorProgram) : Statement (.setMonitor counter program) :=
  of_fields rfl fun _ => Nat.le_of_ble_eq_true rfl
theorem freeze : Statement .freeze := of_fields rfl fun _ => Nat.le_of_ble_eq_true rfl
theorem unfreeze : Statement .unfreeze := of_fields rfl fun _ => Nat.le_of_ble_eq_true rfl
theorem resetCounts : Statement .resetCounts := of_fields rfl fun _ => Nat.le_of_ble_eq_true rfl
theorem clearOverflow : Statement .clearOverflow := of_fields rfl fun _ => Nat.le_of_ble_eq_true rfl
theorem readMonitor : Statement .readMonitor := of_fields rfl fun _ => Nat.le_of_ble_eq_true rfl
theorem readAnode (channel : Nat) : Statement (.readAnode channel) :=
  of_fields rfl fun _ => Nat.le_of_ble_eq_true rfl
theorem setAnode (channel : Nat) (forward : Nat) (reverse : Nat) : Statement (.setAnode channel forward reverse) :=
  of_fields rfl fun _ => Nat.le_of_ble_eq_true rfl
theorem queryChannel (channel : Nat) (firstContributor : Nat) : Statement (.queryChannel channel firstContributor) :=
  of_fields rfl fun _ => Nat.le_of_ble_eq_true rfl
theorem queryLine : Statement .queryLine := of_fields rfl fun _ => Nat.le_of_ble_eq_true rfl
theorem receivedByte (value : Byte) : Statement (.receivedByte value) := of_none rfl
theorem moduleOrderSent : Statement .moduleOrderSent := of_none rfl
theorem holdDwellMillisecond : Statement .holdDwellMillisecond := of_none rfl

end Sys2Proof.Laws.Framed
end

