-- ==== Sys2Proof/Tests/Slice0.lean ====
section
/-! SUPPORT. Tests: the ill-formed commands that WellFormed refuses; the spec's worked examples and figures,
one step each; and for every obligation with hypotheses a state and operands that meet them. -/

namespace Sys2Proof.Tests

open Machine

set_option Elab.async false

/-! ### WellFormed refuses -/

/-- The Line Profile of the worked examples (spec/01 1.8, spec/02 2.12), with a fallback recipe. -/
def profile : Profile := ⟨6000, 200, 4, 1000, 600, 10, some 4, 2500, 2300, 10, #v[300, 300, 300, 300], 2000⟩

/-- Recipe 2 of the worked examples (spec/04 4.9): 20 ms forward, 1 ms reverse, ramp table 1. -/
def recipe2 : Recipe := ⟨⟨20, 0, 1, 0⟩, 1, 40, some 5800, 5, [⟨0, 200, 600⟩, ⟨2000, 220, 660⟩]⟩

/-- Recipe 5 of the worked examples: 40, 2, 2 and 2 ms, ramp table 3. -/
def recipe5 : Recipe := ⟨⟨40, 2, 2, 2⟩, 3, 60, none, 5, [⟨0, 250, 750⟩]⟩

def interlockConfig : InterlockConfig := ⟨true, .low, .edge, true, false, true, true, false, 4, 6⟩

def program : MonitorProgram := ⟨.clamped, .all, 1, false, false, false, 0, 0⟩

def report : PeriodReport := ⟨0, 755, 2270, 20, 1, 400, false, 0, 0⟩

def entry : StagingEntry := ⟨7001, 2, some 600, 2940, 2940, false⟩

theorem test_wf_accepts : ∀ i ∈ ([.setProfile profile, .setRecipe 2 recipe2, .setInterlock 2 interlockConfig,
    .setMonitor 1 program, .periodReport 5 report, .announcePanel entry, .setRamp 1 [50, 100],
    .armChannels [5], .badKind 0x1B#8, .frameReceived 0 (List.replicate 239 0), .removePanel (.byEntry 1),
    .setSegment .b 19 (some ⟨5200, 800, 8000, 24000, 3⟩)] : List Instr), i.wf = true := by decide +kernel

theorem test_wf_refuses_profile : ∀ p ∈ ([{ profile with lineLength := 65536 }, { profile with eye := 65536 },
    { profile with pulsesPerMm := 256 }, { profile with stallTime := 65536 },
    { profile with nominalLength := 65536 }, { profile with tolerance := 256 },
    { profile with fallback := some 255 }, { profile with fallbackAreaA := 65536 },
    { profile with fallbackAreaB := 65536 }, { profile with zeroInterval := 65536 },
    { profile with spacing := #v[300, 65536, 300, 300] }, { profile with contactorRest := 65536 }]
    : List Profile), (Instr.setProfile p).wf = false := by decide +kernel

theorem test_wf_refuses_segment : ∀ i ∈ ([.setSegment .a 256 none,
    .setSegment .a 2 (some ⟨65536, 800, 1, 1, 0⟩), .setSegment .a 2 (some ⟨0, 65536, 1, 1, 0⟩),
    .setSegment .a 2 (some ⟨0, 800, 65536, 1, 0⟩), .setSegment .a 2 (some ⟨0, 800, 1, 65536, 0⟩),
    .setSegment .a 2 (some ⟨0, 800, 1, 1, 256⟩), .setLimits 256 1 1, .setLimits 1 65536 1,
    .setLimits 1 1 65536] : List Instr), i.wf = false := by decide

theorem test_wf_refuses_recipe : ∀ i ∈ ([.setRecipe 256 recipe2,
    .setRecipe 2 { recipe2 with timing := ⟨65536, 0, 1, 0⟩ },
    .setRecipe 2 { recipe2 with timing := ⟨20, 256, 1, 0⟩ }, .setRecipe 2 { recipe2 with timing := ⟨20, 0, 256, 0⟩ },
    .setRecipe 2 { recipe2 with timing := ⟨20, 0, 1, 256⟩ }, .setRecipe 2 { recipe2 with rampTable := 256 },
    .setRecipe 2 { recipe2 with holdFraction := 256 }, .setRecipe 2 { recipe2 with target := some 0 },
    .setRecipe 2 { recipe2 with target := some 4294967296 }, .setRecipe 2 { recipe2 with tolerance := 256 },
    .setRecipe 2 { recipe2 with stages := [⟨65536, 0, 0⟩] }, .setRecipe 2 { recipe2 with stages := [⟨0, 65536, 0⟩] },
    .setRecipe 2 { recipe2 with stages := [⟨0, 0, 65536⟩] },
    .setRecipe 2 { recipe2 with stages := List.replicate 38 ⟨0, 0, 0⟩ },
    .clearRecipe 256, .setRamp 256 [100], .setRamp 0 [256], .setRamp 0 (List.replicate 238 1)] : List Instr),
    i.wf = false := by decide +kernel

theorem test_wf_refuses_lists : ∀ i ∈ ([.armChannels [256], .disarmChannels [256], .clearFault [256],
    .armChannels (List.replicate 239 0), .disarmChannels (List.replicate 239 0),
    .clearFault (List.replicate 239 0)] : List Instr), i.wf = false := by decide +kernel

theorem test_wf_refuses_panels : ∀ i ∈ ([.announcePanel { entry with panelId := 4294967296 },
    .announcePanel { entry with recipe := 256 }, .announcePanel { entry with announced := some 0 },
    .announcePanel { entry with announced := some 65536 }, .announcePanel { entry with areaA := 65536 },
    .announcePanel { entry with areaB := 65536 }, .withdrawPanel 4294967296,
    .removePanel (.byId 4294967296), .removePanel (.byEntry 4294967296), .queryPanel (.byId 4294967296),
    .queryPanel (.byEntry 4294967296)] : List Instr), i.wf = false := by decide

theorem test_wf_refuses_plant : ∀ i ∈ ([.setInterlock 256 interlockConfig,
    .setInterlock 2 { interlockConfig with first := 256 }, .setInterlock 2 { interlockConfig with last := 256 },
    .ackInterlock 256, .setMonitor 256 program, .setMonitor 1 { program with selector := .one 256 },
    .setMonitor 1 { program with threshold := 65536 }, .setMonitor 1 { program with bandLow := 65536 },
    .setMonitor 1 { program with bandHigh := 65536 }, .readAnode 256, .setAnode 256 0 0,
    .setAnode 0 18446744073709551616 0, .setAnode 0 0 18446744073709551616, .queryChannel 256 1,
    .queryChannel 0 256] : List Instr), i.wf = false := by decide

theorem test_wf_refuses_events : ∀ i ∈ ([.phaseIntervalEnd 0, .phaseIntervalEnd 65536, .phaseBoundary 0,
    .phaseBoundary 65536, .periodReport 0 { report with tag := 256 },
    .periodReport 0 { report with averageForward := 65536 }, .periodReport 0 { report with averageReverse := 65536 },
    .periodReport 0 { report with forwardMs := 501 }, .periodReport 0 { report with reverseMs := 51 },
    .periodReport 0 { report with peakVoltage := 65536 }, .periodReport 0 { report with zeroValue := 32768 },
    .periodReport 0 { report with zeroValue := -32769 }, .periodReport 0 { report with faultCode := 256 },
    .armReport 0 256, .frameReceived 0 (List.replicate 240 0), .badKind 0x01#8, .badKind 0x1A#8] : List Instr),
    i.wf = false := by decide +kernel

/-! ### Small states -/

/-- A channel that has answered the Presence Poll. -/
def present : Channel := { Channel.afterReset with present := true }

/-- A READY channel with a valid zero. -/
def ready : Channel :=
  { present with state := .ready, contactorClosed := true, zero := .valid, zeroTimer := some 9000 }

/-- The line in RUN, links idle, channels 4, 5 and 25 on defined segments (spec/04 4.9: channel 5). -/
def line : State :=
  { State.reset with
    mode := .run
    bootTimer := none
    profile := some profile
    segments := (((Vector.replicate 40 none).set 4 (some ⟨2200, 800, 8000, 24000, 0⟩)).set 5
      (some ⟨3000, 800, 8000, 24000, 0⟩)).set 25 (some ⟨3000, 800, 8000, 24000, 1⟩)
    recipes := (((Vector.replicate 16 none).set 2 (some recipe2)).set 4 (some recipe5)).set 5 (some recipe5)
    conveyor := ⟨0, 0, .low, none, .running 1000⟩
    channels := .replicate 40 present
    moduleLink := ⟨none, [], []⟩ }

/-- A record on the line. -/
def record (entry id : Nat) (recipe length lead area : Nat) (clock : PhaseClock) : TrackRecord :=
  ⟨entry, id, some recipe, none, area, area, false, lead, some length, .onLine, false, false, false, 0,
    some clock, .zero⟩

/-- Records 118 and 119 of spec/05 5.7 and spec/07 7.10, channel 5 as given. -/
def plating (ch : Channel) (clock : PhaseClock) : State :=
  { line with
    track := [record 118 1118 5 610 4200 3150 ⟨.fwd, 20, 0⟩, record 119 1119 2 600 3450 2940 clock]
    channels := line.channels.set 5 ch }

/-- Channel 5 in ALIGN towards record 119, its ramp done. -/
def aligned : Channel := { ready with state := .running, period := .align 119, index := 16 }

/-- The period of spec/05 5.7 in its last interval. -/
def flight : InFlight :=
  ⟨(plating aligned ⟨.rev, 0, 0⟩).allocate 5 119 recipe2.timing .normal, 0, false, .rev, 0⟩

/-- Channel 5 delivering that period. -/
def delivering : Channel :=
  { aligned with
    period := .delivering flight, timing := recipe2.timing, forward := 756, reverse := 2268, tag := 1 }

/-- The frame of a request that is in hand. -/
def inHand : InHand := ⟨Request.queryLine.frame, ⟨0x1A#8, .ok, .nothing⟩, false⟩

/-- The line with a request in hand and a reply in transmission. -/
def replying : State := { line with link := { line.link with inHand := some inHand, tx := .reply inHand.reply } }

/-- The state a command leaves, the same state where it stops. -/
def after (i : Instr) (s : State) : State := match exec i s with
  | .next t => t
  | _ => s

theorem witness_line : line.receptive = true ∧ line.linkInv = true ∧ line.holdInv = true ∧
    line.panelInv = true ∧ line.channelInv = true ∧ line.conveyorInv = true := by decide +kernel

theorem witness_plating : (plating aligned ⟨.rev, 0, 0⟩).receptive = true ∧
    (plating delivering ⟨.rev, 0, 0⟩).receptive = true ∧ (plating aligned ⟨.rev, 0, 0⟩).channelInv = true ∧
    (plating aligned ⟨.rev, 0, 0⟩).panelInv = true := by decide +kernel

/-! ### The obligations' hypotheses are met -/

/-- A run's states at the ends of a reset: held in reset, and the reply of a taken Restart being sent. -/
def held : State := after .resetLineActive line

def restarting : State :=
  { line with link := { line.link with
    inHand := some ⟨Request.restart.frame, ⟨0x08#8, .ok, .nothing⟩, true⟩
    tx := .reply ⟨0x08#8, .ok, .nothing⟩ } }

theorem witness_StepOnEmptyQueue : (line.pending = [] ∧ line.due = []) ∧
    { line with conveyor := { line.conveyor with stall := .running 0 } }.due = [.stallTimerExpiry] ∧
    1 < { line with
      conveyor := { line.conveyor with stall := .running 0 }
      bootTimer := some 0 }.due.length := by decide +kernel

theorem witness_PowerOnResets : line.pins.resetHeld = false ∧ held.pins.resetHeld = true := by decide +kernel

theorem witness_ResetLineHolds : held.settled = true ∧ held.pins.resetHeld = true ∧ held.mode = .boot ∧
    held.bootTimer = none ∧ requestOf .queryLine = some .queryLine := by decide +kernel

theorem witness_ResetsKeepConfiguration : held.pins.resetHeld = true ∧ restarting.restartDue = true ∧
    line.settled = true ∧ line.pins.resetHeld = false ∧ line.restartDue = false := by decide +kernel

/-- BOOT with every order of its start sent. -/
def polled : State := { State.reset with moduleLink := ⟨none, [], []⟩ }

theorem witness_BootEnds : State.reset.settled = true ∧ State.reset.channelInv = true ∧
    State.reset.bootTimer.isSome = true ∧ line.settled = true ∧ line.bootTimer = none ∧
    ⟨7, .presencePoll⟩ ∈ State.reset.moduleLink.waiting ∧ polled.settled = true ∧ polled.bootTimer.isSome = true ∧
    ⟨7, .presencePoll⟩ ∉ polled.moduleLink.waiting := by decide +kernel

/-- The line with this remainder and backlash count. -/
def pulses (remainder backlash : Nat) : State :=
  { line with conveyor := { line.conveyor with remainder := remainder, backlash := backlash } }

theorem witness_PulsesWithoutAdvance : State.reset.mode.active = false ∧
    (∀ s ∈ [pulses 0 2, pulses 0 1, pulses 2 0, pulses 0 7998, pulses 0 8000, pulses 0 7999],
      s.settled = true ∧ s.mode.active = true) ∧
    (pulses 0 1).pins.eye = (pulses 0 1).conveyor.accepted ∧
    (fun s : State => s.settled = true ∧ s.conveyor.backlash = 1 ∧ s.pins.eye ≠ s.conveyor.accepted)
      { pulses 0 1 with pins := { line.pins with eye := .high } } ∧
    (pulses 2 0).conveyor.remainder + 1 ≠ (pulses 2 0).prof.pulsesPerMm ∧
    (pulses 0 7998).conveyor.backlash + 1 < 2000 * (pulses 0 7998).prof.pulsesPerMm ∧
    2000 * (pulses 0 8000).prof.pulsesPerMm ≤ (pulses 0 8000).conveyor.backlash ∧
    (pulses 0 7999).conveyor.backlash + 1 = 2000 * (pulses 0 7999).prof.pulsesPerMm := by decide +kernel

/-- One pulse short of a millimetre, with two records on the track, channel 5 as given. -/
def beforeAdvance (ch : Channel) : State :=
  { plating ch ⟨.fwd, 5, 0⟩ with conveyor := { line.conveyor with remainder := 3, debounce := some 2 } }

theorem witness_AdvanceMovesTrack : (fun s : State =>
    s.settled = true ∧ s.mode.active = true ∧ s.conveyor.backlash = 0 ∧
    s.conveyor.remainder + 1 = s.prof.pulsesPerMm ∧
    (∀ r ∈ moveTrack (s.prof.lineLength + 1500) none s.track,
      ¬ (r.state = .entering ∧ s.prof.eye + 1500 + s.prof.tolerance < r.position) ∧
      (r.departing = true ∨
        r.position < s.prof.lineLength + s.effective r ∧ r.position < s.prof.lineLength + 1500)) ∧
    (∀ c, (s.chan c).state ≠ .ready) ∧ s.holdCauses.stall = false ∧
    s.pins.eye = s.conveyor.accepted) (beforeAdvance delivering) ∧
    (beforeAdvance delivering).channels.toList.all (fun ch => match ch.period with
      | .align _ => false
      | _ => true) = true := by decide +kernel

theorem witness_AdvanceRemovesStall : ∀ h ∈ [(⟨true, false, false⟩ : HoldCauses), ⟨true, true, false⟩],
    (fun s : State => s.settled = true ∧ s.mode.active = true ∧ s.conveyor.backlash = 0 ∧
      s.conveyor.remainder + 1 = s.prof.pulsesPerMm ∧ s.holdCauses = h ∧ (s.chan 5).state = .running)
    { beforeAdvance delivering with mode := .hold, holdCauses := h } := by decide +kernel

theorem witness_MoveTrackKeepsOrder : ∀ p ∈ [4199, 4200], (fun l : List TrackRecord =>
    (l.map (·.position)).Pairwise (· > ·) ∧ (∀ r ∈ l, r.position ≤ 4200) ∧
    (l[0]?).map (·.position) = some p ∧ (l[1]?).map (·.position) = some 4198)
    [record 1 0 5 610 p 0 ⟨.fwd, 1, 0⟩, record 2 0 5 610 4198 0 ⟨.fwd, 1, 0⟩] := by decide +kernel

/-- The track full. -/
def full : State := { line with track := List.replicate 32 (record 1 0 5 610 3000 0 ⟨.fwd, 1, 0⟩) }

theorem witness_RisingEdgeBinds : (∀ s ∈ [line, { line with staging := [entry] }, full],
      s.settled = true ∧ s.mode.active = true ∧ s.conveyor.backlash = 0 ∧ s.conveyor.debounce = none ∧
      s.pins.eye = .low ∧ s.conveyor.accepted = .low) ∧
    line.track.length < 32 ∧ line.staging = [] ∧ 32 ≤ full.track.length := by decide +kernel

/-- The eye high, the debounce travel as given. -/
def underEye (accepted : Level) (debounce : Option Nat) : State :=
  { line with
    pins := { line.pins with eye := .high }
    conveyor := { line.conveyor with accepted := accepted, debounce := debounce } }

theorem witness_FallingEdgeMeasures : (∀ s ∈ [underEye .high none, underEye .high (some 3)],
      s.settled = true ∧ s.pins.eye = .high ∧ s.conveyor.accepted = .high ∧ s.mode.active = true ∧
      s.conveyor.backlash = 0) ∧
    ((underEye .high (some 2)).pins.eye ≠ .low ∧ (underEye .high (some 2)).conveyor.debounce = some 2) ∧
    (line.pins.eye ≠ .high ∧ (pulses 0 1).conveyor.backlash = 1) := by decide +kernel

theorem witness_StallTimerExpires : line.settled = true ∧ line.conveyor.stall = .running 1000 ∧
    line.mode = .run ∧ { line with mode := .standby }.mode ≠ .run ∧
    ({ line with channels := line.channels.set 5 ready }.chan 5).state = .ready ∧
    State.reset.settled = true ∧ State.reset.conveyor.stall = .stopped := by decide +kernel

theorem witness_ClocksRun : (fun s : State => s.settled = true ∧
      s.find 119 = some (record 119 1119 2 600 3450 2940 ⟨.fwd, 0, 0⟩) ∧
      s.recipeOf (record 119 1119 2 600 3450 2940 ⟨.fwd, 0, 0⟩) = some recipe2 ∧
      recipe2.timing.next? .fwd = some .rev) (plating ready ⟨.fwd, 0, 0⟩) ∧
    recipe2.timing.next? .rev = none ∧
    (plating ready ⟨.rev, 0, 0⟩).channels.toList.all (fun ch => ch.period = .idle) = true ∧
    (plating delivering ⟨.rev, 0, 0⟩).settled = true ∧
    ((plating delivering ⟨.rev, 0, 0⟩).chan 5).period = .delivering flight ∧
    delivering.timing.next? flight.interval = none ∧
    delivering.timing.next? .fwd = some .rev := by decide +kernel

theorem witness_BoundaryStartsPeriod : ∀ z ∈ [ZeroStatus.valid, .due], (fun s : State => s.settled = true ∧
      s.find 119 = some (record 119 1119 2 600 3450 2940 ⟨.rev, 0, 0⟩) ∧
      s.recipeOf (record 119 1119 2 600 3450 2940 ⟨.rev, 0, 0⟩) = some recipe2 ∧
      recipe2.timing.next? .rev = none ∧ (s.chan 5).state = .running ∧ (s.chan 5).zero = z ∧
      (∀ d, (s.chan d).period = .align 119 ↔ d = 5) ∧
      0 < s.covered 5 (record 119 1119 2 600 3450 2940 ⟨.rev, 0, 0⟩) ∧
      { s with segments := s.segments.set 5 none }.covered 5 (record 119 1119 2 600 3450 2940 ⟨.rev, 0, 0⟩) = 0)
    (plating { aligned with zero := z } ⟨.rev, 0, 0⟩) := by decide +kernel

/-- Channels 5 and 25, of both sides, in ALIGN towards record 119 at its boundary. -/
def bothAligned : State :=
  { plating aligned ⟨.rev, 0, 0⟩ with channels := (line.channels.set 5 aligned).set 25 aligned }

theorem witness_BoundaryStartsPeriod_two : (fun s : State => s.settled = true ∧
      s.find 119 = some (record 119 1119 2 600 3450 2940 ⟨.rev, 0, 0⟩) ∧
      (∀ d, (s.chan d).period = .align 119 → (s.chan d).state = .running) ∧
      (s.chan 5).period = .align 119 ∧ (s.chan 25).period = .align 119) bothAligned := by decide +kernel

/-- At the end of channel 5's period: the governor is record 119 again, record 118, or none. -/
def endings (ch : Channel) : List State :=
  [plating ch ⟨.rev, 0, 0⟩,
   { plating ch ⟨.rev, 0, 0⟩ with track := [record 118 1118 5 610 3600 3150 ⟨.fwd, 20, 0⟩] },
   { plating ch ⟨.rev, 0, 0⟩ with track := [] }]

theorem witness_PeriodEnds : (∀ z ∈ [ZeroStatus.valid, .due], ∀ s ∈ endings { delivering with zero := z },
      s.settled = true ∧ (s.chan 5).state = .running ∧ (s.chan 5).period = .delivering flight) ∧
    delivering.timing.next? flight.interval = none ∧ flight.record.governor = 119 ∧
    (endings delivering).map (fun s => s.governorRule 5) = [some 119, some 118, none] ∧
    (plating delivering ⟨.rev, 0, 0⟩).find 119 = some (record 119 1119 2 600 3450 2940 ⟨.rev, 0, 0⟩) := by
  decide +kernel

theorem witness_DrainEnds : ∀ d ∈ [Destination.ready, .dormant], ∀ k ∈ [(-1 : Int), 0, 2],
    ∀ s ∈ endings { delivering with state := .draining d, index := k }, s.settled = true ∧
      (s.chan 5).state = .draining d ∧ (s.chan 5).period = .delivering flight ∧ (s.chan 5).index = k := by
  decide +kernel

theorem witness_ZeroTimersExpire : line.settled = true ∧ (line.chan 5).zeroTimer = none ∧
    (line.chan 5).retry = none ∧
    (fun ch : Channel => ch.zeroTimer.isSome = true ∧ ch.state ≠ .ready)
      { ready with state := .running } ∧
    (fun ch : Channel => ch.zeroTimer.isSome = true ∧ ch.state = .ready ∧ ch.retry = none ∧
      ch.loneZero = false) ready ∧
    (fun ch : Channel => ch.retry.isSome = true ∧ ch.state = .ready ∧ ch.zero = .due ∧ ch.loneZero = false)
      { ready with retry := some 0, zero := .due } := by decide +kernel

/-- Channel 5 READY with the window of a closed period open (spec/07 7.10). -/
def window : Window := ⟨0, 0, .period flight.record ⟨false, 20, 1, false⟩ false⟩

/-- The same with a zero request, and the window of a Zero Order. -/
def askingWindow : Window := ⟨0, 0, .period flight.record ⟨false, 20, 1, false⟩ true⟩
def zeroWindow : Window := ⟨3, 0, .zeroOrder⟩

def reporting (missing : Nat) (w : Window) : State :=
  plating { ready with windows := [w], missing := missing } ⟨.fwd, 20, 0⟩

/-- Both contributors of that period DEPARTING, with nothing else in flight. -/
def releasing : State :=
  { reporting 0 window with
    track := (reporting 0 window).track.map fun r => { r with state := .departing .passed, inFlight := 1 } }

theorem witness_ReportAccountsPeriod : (∀ s ∈ [reporting 0 window, reporting 0 askingWindow, releasing],
      s.settled = true ∧ (s.chan 5).state.isArming = false ∧ (s.chan 5).state ≠ .faulted .moduleAbsent ∧
      ((s.chan 5).windowOf report.tag).isSome = true) ∧
    ((reporting 0 window).chan 5).windowOf 0 = some window ∧
    ((reporting 0 askingWindow).chan 5).windowOf 0 = some askingWindow ∧
    ((reporting 0 zeroWindow).chan 5).windowOf 3 = some zeroWindow ∧ (reporting 0 zeroWindow).settled = true ∧
    ((reporting 0 window).chan 5).windowOf 255 = none ∧ ((reporting 0 window).chan 5).period = .idle ∧
    (fun s : State => s.settled = true ∧ (s.chan 5).windowOf 0 = none ∧ (s.chan 5).period = .delivering flight ∧
      flight.tag = 0) (plating delivering ⟨.rev, 0, 0⟩) ∧
    (fun s : State => s.settled = true ∧ (s.chan 5).state = .faulted .moduleAbsent)
      (plating { present with state := .faulted .moduleAbsent } ⟨.rev, 0, 0⟩) ∧
    flight.record.contributors.map (·.entry) = [118, 119] := by decide +kernel

theorem witness_WindowClosesEmpty : (∀ n ∈ [0, 1, 2], ∀ w ∈ [window, askingWindow, zeroWindow],
      (fun s : State => s.settled = true ∧ (s.chan 5).windows = [w] ∧ (s.chan 5).missing = n) (reporting n w)) ∧
    (line.settled = true ∧ (line.chan 5).windows = []) ∧
    (fun s : State => s.settled = true ∧ (s.chan 5).period = .delivering flight ∧ (s.chan 5).windows = [window])
      (plating { delivering with windows := [window], missing := 2 } ⟨.rev, 0, 0⟩) := by decide +kernel

/-- Channel 5 ARMING, its Arm Order being sent. -/
def arming : State :=
  { line with
    channels := line.channels.set 5 { present with state := .arming 1500, contactorClosed := true }
    moduleLink := ⟨some ⟨5, .arm⟩, [], []⟩ }

/-- Channel 5 ARMING, its Arm Order behind another order. -/
def unsentArm : State := { arming with moduleLink := ⟨some ⟨4, .disarm⟩, [⟨5, .arm⟩], []⟩ }

theorem witness_ArmReportMakesReady : (∀ m ∈ [arming.moduleLink, ⟨none, [], []⟩], (fun s : State =>
      s.settled = true ∧ (s.chan 5).state = .arming 1500 ∧ ⟨5, .arm⟩ ∉ s.moduleLink.waiting ∧
      (s.chan 5).retry = none ∧ (s.chan 5).loneZero = false ∧ s.allQueued = []) { arming with moduleLink := m }) ∧
    (unsentArm.settled = true ∧ (unsentArm.chan 5).state = .arming 1500 ∧
      ⟨5, .arm⟩ ∈ unsentArm.moduleLink.waiting) ∧
    ((line.chan 5).state.isArming = false ∧ (line.chan 5).state ≠ .faulted .moduleAbsent) := by decide +kernel

theorem witness_ArmingEndsFaulted : arming.settled = true ∧ arming.channelInv = true ∧
    (arming.chan 5).state = .arming 1500 ∧ arming.allQueued = [] ∧ ⟨5, .arm⟩ ∉ arming.moduleLink.waiting ∧
    (line.settled = true ∧ (line.chan 5).state.isArming = false) := by decide +kernel

/-- Channel 5 queued with channel 4 behind it, group 0's time since its last grant as given. -/
def queuedLine (rest since : Option Nat) : State :=
  { line with
    channels := line.channels.set 5 { present with rest := rest }
    groups := line.groups.set 0 ⟨[5, 4], since⟩ }

theorem witness_ArbiterGrants : (∀ s ∈ [queuedLine (some 0) none, queuedLine (some 0) (some 300),
      queuedLine (some 0) (some 299), queuedLine none (some 300)],
      s.settled = true ∧ s.mode.active = true ∧ s.busGroup 5 = some 0 ∧ (s.group 0).queue = [] ++ 5 :: [4] ∧
      (s.group 0).queue = [5] ++ 4 :: [] ∧ (s.chan 4).rest = none ∧ 5 ∈ s.allQueued ∧
      ¬ ∃ d, s.busGroup d = some 0 ∧ (s.chan d).state.isArming = true) ∧
    (queuedLine (some 0) (some 299)).prof.spacing[0] = 300 ∧
    (∀ r ∈ [none, some 0], ((queuedLine r none).chan 5).rest = r) ∧
    (line.settled = true ∧ (line.chan 5).rest = none ∧ (line.group 0).sinceGrant = none ∧ 5 ∉ line.allQueued) ∧
    (∃ d, arming.busGroup d = some 0 ∧ (arming.chan d).state.isArming = true) ∧
    (line.segment 25 = some ⟨3000, 800, 8000, 24000, 1⟩ ∧ line.segment 6 = none) := by decide +kernel

theorem witness_OrderSent : arming.settled = true ∧ arming.moduleLink.waiting = [] ∧
    (∀ o ∈ [(⟨4, .zero 7⟩ : Order), ⟨4, .disarm⟩],
      { arming with moduleLink := ⟨some ⟨5, .arm⟩, [o], []⟩ }.settled = true) := by decide +kernel

/-- Input 2 configured as given, its level high. -/
def watching (k : InterlockConfig) : State :=
  { line with interlocks := line.interlocks.set 2 ⟨k, false, .high⟩ }

theorem witness_InterlockLatches : (∀ k ∈ [({ interlockConfig with drop := false, hold := true } : InterlockConfig),
      { interlockConfig with drop := false, stop := true }],
      (fun s : State => s.settled = true ∧ s.mode ≠ .boot ∧ (s.interlock 2).level ≠ .low ∧
        (s.interlock 2).config.enabled = true ∧ (s.interlock 2).latched = false ∧
        .low = (s.interlock 2).config.activeLevel ∧ (s.interlock 2).config.drop = false) (watching k)) ∧
    (line.interlock 2).level = .low ∧ (line.interlock 2).config.enabled = false := by decide +kernel

/-- Channels 4, 5 and 25 in the scope of input 2's DROP (spec/09 9.7), channel 3 READY outside it. -/
def dropping (hold : Bool) : State :=
  { plating delivering ⟨.rev, 0, 0⟩ with
    interlocks := line.interlocks.set 2 ⟨{ interlockConfig with sideB := true, hold := hold }, false, .high⟩
    channels := (((line.channels.set 5 delivering).set 4
      { delivering with state := .draining .dormant, index := 3 }).set 25
      { delivering with state := .draining .ready, index := 3 }).set 3 ready }

theorem witness_DropReachesScope : ∀ hold ∈ [false, true], (fun s : State => s.settled = true ∧ s.mode = .run ∧
      (s.interlock 2).level ≠ .low ∧ (s.interlock 2).config.enabled = true ∧ (s.interlock 2).latched = false ∧
      .low = (s.interlock 2).config.activeLevel ∧ (s.interlock 2).config.drop = true ∧
      (s.interlock 2).config.hold = hold ∧
      (∀ c ∈ [(4 : Chan), 5, 25], (s.interlock 2).config.inScope c = true ∧ s.inhibited c = false) ∧
      (s.chan 5).state = .running ∧ (s.chan 5).period = .delivering flight ∧
      (s.chan 4).state = .draining .dormant ∧ (s.chan 25).state = .draining .ready ∧
      (s.chan 3).state = .ready ∧ (s.interlock 2).config.inScope 3 = false) (dropping hold) := by decide +kernel

theorem witness_HoldDwellGrows : line.settled = true ∧ line.mode ≠ .hold ∧
    { line with mode := .hold }.mode = .hold := by decide +kernel

theorem witness_ReceiverMoves : (∀ gap ∈ [0, 5, 6], ∀ r ∈ [Receiver.hunt, .length, .body 1 [], .body 240 [],
      .check [0x1A#8] none, .check [0x1A#8] (some 0)],
      (fun s : State => s.settled = true ∧ s.pins.resetHeld = false ∧ s.link.receiver = r ∧ s.link.gap = gap)
        { line with link := { line.link with receiver := r, gap := gap } }) ∧
    checkBytes (BitVec.ofNat 8 ([0x1A#8] : List Byte).length :: [0x1A#8]) ≠ [0#8, 0#8] ∧
    (checkBytes [0x01#8, 0x1A#8]).length = 2 := by decide +kernel

/-- The frame fails the first two checks of R190 with this code. -/
def refusedAs (f : Frame) (code : ResultCode) : Bool := match f.parse with
  | .error c => c = code
  | .ok _ => false

theorem witness_FrameMeetsLink : line.settled = true ∧ line.pins.resetHeld = false ∧ line.link.inHand = none ∧
    replying.settled = true ∧ replying.link.inHand.isSome = true ∧ replying.link.held = none ∧
    { replying with link := { replying.link with held := some inHand.frame } }.settled = true ∧
    refusedAs ⟨0x01#8, []⟩ .badLength = true ∧
    requestKind? 0x1B#8 = none ∧ requestKind? 0x00#8 = none ∧
    State.reset.settled = true ∧ State.reset.mode = .boot ∧ State.reset.link.inHand = none ∧
    requestOf .collectExit = some .collectExit ∧ Request.collectExit ≠ .queryLine ∧
    layoutLength 0x1B#8 [] = none ∧ layoutLength 0x09#8 [3#8] = some 4 ∧ layoutLength 0x00#8 [] = none ∧
    (layoutLength 0x07#8 [4#8] = some [4#8].length ∧ (0x07#8 : Byte) ≠ 0x1A#8 ∧ 3 < (4#8 : Byte).toNat) ∧
    (layoutLength 0x04#8 (List.replicate 13 0#8 ++ [1#8]) = some 20 ∧ line.mode ≠ .boot) := by decide +kernel

/-- The line with this transmitter, request in hand and held frame. -/
def sending (tx : Transmitter) (h : Option InHand) (f : Option Frame) : State :=
  { line with link := { line.link with tx := tx, inHand := h, held := f, notices := [.exit] } }

theorem witness_TransmitCompletes : line.settled = true ∧ line.link.tx = .idle ∧
    (∀ s ∈ [sending (.notice .exit line.snapshot) (some inHand) none,
      sending (.notice .exit line.snapshot) none none, sending (.reply inHand.reply) (some inHand) none,
      sending (.reply inHand.reply) (some inHand) (some ⟨0x1B#8, []⟩),
      sending (.reply inHand.reply) (some inHand) (some (Request.setMode (some .hold)).frame)],
      s.settled = true ∧ s.restartDue = false ∧ s.pins.resetHeld = false ∧ s.link.receiver = .hunt ∧
      s.link.gap = 0) ∧
    refusedAs ⟨0x1B#8, []⟩ .badKind = true ∧
    refusedAs (Request.setMode (some .hold)).frame .badLength = false := by decide +kernel

theorem witness_BytesMakeFrame : line.settled = true ∧ line.pins.resetHeld = false ∧
    line.link.receiver = .hunt ∧ line.link.gap = 0 ∧
    (⟨0x1A#8, []⟩ : Frame).payload.length ≤ 239 ∧
    (⟨0x00#8, List.replicate 239 0⟩ : Frame).payload.length ≤ 239 := by decide +kernel

theorem witness_RequestsRoundTrip : (Instr.setProfile profile).wf = true ∧
    requestOf (.setProfile profile) = some (.setProfile profile) ∧ (Instr.setRecipe 2 recipe2).wf = true ∧
    requestOf (.setRecipe 2 recipe2) = some (.setRecipe 2 recipe2) := by decide +kernel

theorem witness_CheckComputation : (⟨0x1A#8, []⟩ : Frame).payload.length ≤ 239 := by decide

/-- The line in OFFLINE. -/
def offline : State :=
  { line with mode := .offline, conveyor := .afterReset }

theorem witness_SetProfileResult : State.reset.bootReceptive = true ∧ profile.fallback.isSome = true ∧
    line.receptive = true ∧ line.mode ≠ .offline ∧ offline.receptive = true ∧
    offline.mode = .offline ∧ offline.profileOk profile = true ∧
    offline.profileOk { profile with lineLength := 3799 } = false := by decide +kernel

theorem witness_SegmentRequests : line.receptive = true ∧ line.mode ≠ .offline ∧ offline.receptive = true ∧
    { offline with profile := none }.receptive = true ∧ offline.profile = some profile ∧
    (19 : Chan).val = 19 ∧ (20 : Chan).val = 20 + 0 ∧ 19 < 20 ∧
    (⟨5200, 800, 1, 0, 3⟩ : Segment).inRange profile.lineLength = true ∧
    (∀ d, d ≠ (19 : Chan) → (d.val < 20 ↔ (19 : Chan).val < 20) → (offline.segment d).all fun r =>
      decide (5200 + 800 ≤ r.start ∨ r.start + r.length ≤ 5200)) ∧
    (⟨5201, 800, 1, 0, 3⟩ : Segment).inRange profile.lineLength = false ∧
    offline.segmentClash 3 ⟨2999, 50, 1, 0, 3⟩ = true ∧
    (line.segment 5).isSome = true ∧ line.segment 6 = none := by decide +kernel

theorem witness_RecipeRequests : line.receptive = true ∧ offline.receptive = true ∧ offline.mode = .offline ∧
    line.mode ≠ .offline ∧ recipe2.valid = true ∧ { recipe2 with stages := [] }.valid = false ∧
    line.inUse 4 = true ∧ line.inUse 15 = false ∧ line.inUse 2 = false ∧ line.recipe 15 = none ∧
    (line.recipe 2).isSome = true ∧ (line.recipe 4).isSome = true := by decide +kernel

/-- Channel 5 draining to READY. -/
def draining : Channel := { delivering with state := .draining .ready, index := 2 }

theorem witness_SetModeRunResult : line.receptive = true ∧ line.mode = .run ∧ offline.receptive = true ∧
    offline.profile.isSome = true ∧ (∃ c, (offline.segment c).isSome = true) ∧ (¬ ∃ j, (offline.interlock j).latched = true ∧ (offline.interlock j).config.hold = true) ∧
    { offline with profile := none }.receptive = true ∧
    (∀ h ∈ [(⟨true, true, false⟩ : HoldCauses), ⟨false, true, false⟩, ⟨false, true, true⟩],
      { line with mode := .hold, holdCauses := h }.receptive = true) ∧
    (∀ m ∈ [LineMode.offline, .standby],
      (fun s : State => s.receptive = true ∧ ∃ j, (s.interlock j).latched = true ∧ (s.interlock j).config.hold = true)
        { line with
          mode := m
          interlocks := line.interlocks.set 2 ⟨{ interlockConfig with hold := true }, true, .low⟩ }) ∧
    (fun s : State => s.receptive = true ∧ s.mode = .standby ∧ (¬ ∃ j, (s.interlock j).latched = true ∧ (s.interlock j).config.hold = true) ∧
      (s.chan 5).state = .draining .ready ∧ (s.chan 4).state = .dormant)
      { plating draining ⟨.fwd, 5, 0⟩ with mode := .standby } := by decide +kernel

theorem witness_SetModeOtherResults : offline.receptive = true ∧ line.receptive = true ∧ line.mode = .run ∧
    (∀ c, (line.chan c).state.isOut = true) ∧ line.track = [] ∧
    { line with mode := .standby }.receptive = true ∧ { line with mode := .hold }.receptive = true ∧
    (fun s : State => s.receptive = true ∧ s.mode ≠ .offline ∧ s.track ≠ [] ∧
      (s.chan 5).state = .running ∧ (s.chan 5).period = .delivering flight) (plating delivering ⟨.rev, 0, 0⟩) ∧
    ((plating aligned ⟨.rev, 0, 0⟩).chan 5).period = .align 119 ∧
    (fun s : State => s.receptive = true ∧ s.track = [] ∧ ∃ c, (s.chan c).state.isOut = false)
      { line with channels := line.channels.set 5 ready } := by decide +kernel

theorem witness_RestartResult : line.receptive = true ∧ line.track = [] ∧ line.link.tx = .idle ∧
    (plating ready ⟨.fwd, 5, 0⟩).receptive = true ∧ (plating ready ⟨.fwd, 5, 0⟩).mode ≠ .offline ∧
    (plating ready ⟨.fwd, 5, 0⟩).track ≠ [] := by decide +kernel

/-- Channel 5 in this state, the links idle. -/
def channel5 (ch : Channel) : State := { line with channels := line.channels.set 5 ch }

theorem witness_ArmChannelsResult : offline.receptive = true ∧ line.receptive = true ∧
    ([] : List Nat) = [] ∧ 40 < (List.replicate 41 5).length ∧
    (∀ c : Chan, c.val = 6 → line.segment c = none) ∧ (∀ c : Chan, c.val = 40 → line.segment c = none) ∧
    line.busGroup 5 = some 0 ∧ (line.chan 5).state = .dormant ∧ 5 ∉ line.allQueued ∧
    (¬ ∃ d, line.busGroup d = some 0 ∧ (line.chan d).state.isArming = true) ∧ (line.group 0).queue = [] ∧ (line.chan 5).rest = none ∧
    (line.group 0).sinceGrant = none ∧
    (fun s : State => s.receptive = true ∧ 4 ∉ s.allQueued ∧ ∃ d, s.busGroup d = some 0 ∧ (s.chan d).state.isArming = true)
      (channel5 { present with state := .arming 5, contactorClosed := true }) ∧
    (channel5 { present with state := .faulted .armTimeout }).receptive = true ∧
    (channel5 { delivering with state := .draining .dormant }).receptive = true ∧
    5 ∈ (queuedLine none none).allQueued ∧
    ([(25 : Chan), 4, 5].map (·.val) = [25, 4, 25, 5, 4].eraseDups ∧
      ∀ m ∈ [25, 4, 25, 5, 4], (∃ c : Chan, c.val = m ∧ (line.segment c).isSome = true) ∧
        ¬ ∃ c : Chan, c.val = m ∧ (line.chan c).state.isFaulted = true) ∧
    ([25, 6, 40] = [25] ++ 6 :: [40] ∧ (line.segment 25).isSome = true ∧ line.segment 6 = none) := by decide +kernel

theorem witness_DisarmAndClearResults : (∀ ch ∈ [present, ready, aligned, delivering, draining,
      { present with state := .arming 5, contactorClosed := true }, { present with state := .faulted (.moduleFault 255) }],
      (channel5 ch).receptive = true ∧ (channel5 ch).profile = some profile ∧ ((channel5 ch).chan 5) = ch ∧
      (channel5 ch).allQueued = []) ∧
    ([(5 : Chan), 4].map (·.val) = [5, 4, 5].eraseDups ∧ [5, 40] = [5] ++ 40 :: []) ∧
    (∀ p ∈ [some profile, none], (fun s : State => s.receptive = true ∧ s.profile = p ∧
        (s.chan 5).state.isFaulted = true ∧ (s.chan 4).state.isFaulted = false)
      { channel5 { present with state := .faulted .armTimeout } with mode := .offline, profile := p }) := by
  decide +kernel

theorem witness_StagingRequests : State.reset.bootReceptive = true ∧ line.receptive = true ∧ line.entryOk entry = true ∧
    line.entryOk { entry with panelId := 0 } = false ∧ line.staging = [] ∧
    (fun s : State => s.receptive = true ∧ 8 ≤ s.staging.length ∧ ∀ x ∈ s.staging, x.panelId ≠ 7001)
      { line with staging := List.replicate 8 { entry with panelId := 1 } } ∧
    { line with staging := [entry] }.staging = [] ++ entry :: [] ∧ entry.panelId ≠ 0 := by decide +kernel

/-- Record 118 of spec/05 5.7. -/
def record118 : TrackRecord := record 118 1118 5 610 4200 3150 ⟨.fwd, 20, 0⟩

/-- Record 119 of spec/05 5.7. -/
def record119 : TrackRecord := record 119 1119 2 600 3450 2940 ⟨.fwd, 5, 0⟩

theorem witness_RemovePanelResult : (∀ n ∈ [0, 11, 15, 16], (fun s : State => s.receptive = true ∧
      (∀ r ∈ s.track, r.entry ≠ 65535 ∧ r.panelId ≠ 7001) ∧ s.track = [] ++ record118 :: [record119] ∧
      (∀ x ∈ [] ++ [record119], x.entry ≠ record118.entry) ∧ s.exits.length = n ∧
      s.channels.toList.all (fun ch => ch.period = .idle) = true)
      { plating ready ⟨.fwd, 5, 0⟩ with exits := List.replicate n (line.exitRecord record119) }) ∧
    (record118.entry = 118 ∧ record118.panelId = 1118 ∧ record118.departing = false ∧ record118.inFlight = 0) ∧
    (plating aligned ⟨.fwd, 5, 0⟩).receptive = true ∧
    (fun s : State => s.receptive = true ∧ s.track.all (fun r => 0 < r.inFlight) = true)
      { line with track := [{ record118 with inFlight := 1 }] } ∧
    (fun s : State => s.receptive = true ∧ s.track.all (·.departing) = true)
      { line with track := [{ record118 with state := .departing .passed }] } := by
  decide +kernel

/-- An exit record. -/
def exitRecord : ExitRecord := line.exitRecord (record 119 7119 2 600 6600 2940 ⟨.fwd, 5, 5⟩)

theorem witness_CollectExitResult : State.reset.bootReceptive = true ∧ line.receptive = true ∧ line.exits = [] ∧
    (fun s : State => s.receptive = true ∧ s.exits = exitRecord :: List.replicate 11 exitRecord)
      { line with
        exits := List.replicate 12 exitRecord
        lineStop := { line.lineStop with exitHigh := true } } := by decide +kernel

/-- Input 2 latched, with or without DROP, at a level; channel 5 READY. -/
def latchedLine (drop : Bool) (l : Level) : State :=
  { line with
    channels := line.channels.set 5 ready
    interlocks := line.interlocks.set 2
      ⟨{ interlockConfig with drop := drop, sense := .level, stop := true, hold := true }, true, l⟩ }

theorem witness_InterlockRequests : (fun s : State => s.receptive = true ∧ (s.interlock 2).latched = false ∧
      (s.interlock 2).level ≠ interlockConfig.activeLevel ∧ (s.interlock 2).level = .high)
      (watching interlockConfig) ∧
    (interlockConfig.first ≤ 19 ∧ interlockConfig.last ≤ 19 ∧ interlockConfig.first ≤ interlockConfig.last) ∧
    ¬ ({ interlockConfig with last := 20 }.last ≤ 19) ∧ interlockConfig.enabled = true ∧
    { interlockConfig with sense := .level, activeLevel := .high }.activeLevel = .high ∧
    (∀ l ∈ [Level.low, .high], ∀ drop ∈ [false, true], (fun s : State => s.receptive = true ∧
      (s.interlock 2).latched = true ∧ (s.chan 5).state = .ready ∧ s.inhibited 5 = drop)
      (latchedLine drop l)) := by decide +kernel

theorem witness_MonitorRequests : line.receptive = true ∧ program.selector = .all ∧ program.threshold ≠ 0 ∧
    program.event ≠ .band ∧ ¬ (40 ≤ 39) ∧ line.monitor.frozen = false ∧
    { line with monitor := { line.monitor with frozen := true } }.receptive = true := by decide +kernel

theorem witness_ClearLineStopResult : line.receptive = true ∧ State.reset.bootReceptive = true := by
  decide +kernel

theorem witness_AnodeRequests : line.receptive = true ∧ State.reset.bootReceptive = true := by decide +kernel

theorem witness_QueriesReport : line.receptive = true ∧ PanelName.valid (.byEntry 65536) = false ∧
    PanelName.valid (.byId 0) = false ∧ (∀ e ∈ line.staging, e.panelId ≠ 7001) ∧
    (∀ r ∈ line.track, r.panelId ≠ 7001) ∧ (plating ready ⟨.fwd, 5, 0⟩).receptive = true ∧
    (plating ready ⟨.fwd, 5, 0⟩).find 119 = some (record 119 1119 2 600 3450 2940 ⟨.fwd, 5, 0⟩) ∧
    (fun s : State => s.receptive = true ∧ s.staging = [] ++ entry :: []) { line with staging := [entry] } ∧
    (fun s : State => s.track = [record118] ++ record119 :: [] ∧ record119.panelId = 1119 ∧ s.staging = [] ∧
      ∀ x ∈ [record118], x.panelId ≠ 1119) (plating ready ⟨.fwd, 5, 0⟩) ∧
    (fun s : State => 25 ∉ s.allQueued ∧ s.allQueued.Nodup ∧ (s.group 0).queue = [5] ++ 4 :: [] ∧
      s.busGroup 4 = some 0 ∧ s.segment 6 = none) (queuedLine none none) ∧
    ((plating aligned ⟨.fwd, 5, 0⟩).chan 5).period = .align 119 ∧
    (plating aligned ⟨.fwd, 5, 0⟩).find 119 = some record119 := by
  decide +kernel

theorem witness_CoverageRules : line.segment 6 = none ∧ (line.segment 5).isSome = true ∧
    (record 119 1119 2 600 3450 2940 ⟨.fwd, 5, 0⟩).departing = false ∧
    { record119 with state := .departing .removed }.departing = true ∧
    (0 : Int) < min 3450 (3000 + 800) - max (3450 - 600) 3000 ∧ line.track = [] ∧
    (fun s : State => s.track = [record118] ++ record119 :: [] ∧ 0 < s.covered 5 record119 ∧
      s.covered 5 record118 < s.covered 5 record119) (plating ready ⟨.fwd, 5, 0⟩) := by decide +kernel

theorem witness_SetpointRules : line.segment 5 = some ⟨3000, 800, 8000, 24000, 0⟩ ∧
    (recipe2.stages.map (·.start)).Pairwise (· < ·) ∧
    (fun s : State => record119 ∈ s.track ∧ s.recipe 2 = some recipe2 ∧
      stageAt 3400 recipe2.stages = some ⟨2000, 220, 660⟩ ∧ s.find 119 = some record119 ∧
      s.recipeOf record119 = some recipe2 ∧ recipe2.rampTable = (1 : Fin 4).val) (plating ready ⟨.fwd, 5, 0⟩) ∧
    ([25, 50, 75, 100] = [25, 50] ++ 75 :: [100] ∧ [25, 50].length = 2 ∧ [25, 50, 75, 100].length ≤ 4) := by
  decide +kernel

theorem witness_ExitSideRules : (∀ cause ∈ [DepartureCause.passed, .removed],
      { record118 with state := .departing cause }.state = .departing cause) ∧
    (281474976710655 ≤ 281474976710655 ∧ recipe2.target = some 5800 ∧ recipe5.target = none) := by decide

theorem witness_CreditsDivideCharge : (fun l : List Contributor =>
      (l.filter fun p => p.entry = 119).length = 1 ∧ 0 < (l.map (·.forwardWeight)).sum) [⟨119, 10, 3, 0⟩, ⟨118, 10, 4, 0⟩] ∧
    (([⟨119, 10, 0, 0⟩] : List Contributor).map (·.forwardWeight)).sum = 0 ∧
    record118.facing 5 = .a ∧ record118.facing 25 = .b := by decide

theorem witness_CounterCounts : (Counter.cleared program).count < 4294967296 ∧
    (Counter.cleared program).program.threshold ≠ 0 ∧ defaultProgram.threshold = 0 ∧
    (∀ e ∈ [MonitorEvent.aligns, .periods], ({ program with event := e } : MonitorProgram).selector = .all) ∧
    line.monitor.frozen = false ∧
    (fun k : Counter => k.program.notify = true ∧ k.overflow = false ∧ (k.sample 5 .alignEntry).overflow = true)
      ⟨⟨.aligns, .all, 0, false, false, true, 0, 0⟩, 4294967295, false, .replicate 40 false⟩ := by decide

/-- A step of each invariant's statement: the state before meets all of them and answers a next state. -/
theorem witness_StepKeepsInvariants : (∀ s ∈ [line, plating delivering ⟨.rev, 0, 0⟩], s.linkInv = true ∧
      s.holdInv = true ∧ s.panelInv = true ∧ s.channelInv = true ∧ s.conveyorInv = true) ∧
    (fun s : State => s.panelInv = true ∧ s.conveyorInv = true ∧ s.trackInv = true ∧ s.track ≠ [] ∧
      (s.track.map (·.entry)).Nodup ∧ s.nextEntry ∉ s.track.map (·.entry))
      (beforeAdvance delivering) ∧
    (match step { line with pending := [.setModeHold] } with
      | .next t => t.mode = .hold && t.holdInv
      | _ => false) = true := by decide +kernel

/-! ### The spec's figures -/

/-- R187: the check over the nine digits is 0x29B1. -/
theorem test_check : checkOf (("123456789".toList).map fun c => BitVec.ofNat 8 c.toNat) = 0x29B1#16 := by
  decide +kernel

/-- R187: QueryLine's frame is sync, length 1, kind and two check bytes. -/
theorem test_frame_bytes : (Request.frame .queryLine).bytes.take 3 = [0xC3#8, 0x01#8, 0x1A#8] ∧
    (Request.frame .queryLine).bytes.length = 5 := by decide +kernel

/-- spec/01 1.8, steps 1 and 2: the fourth forward pulse completes the millimetre. -/
theorem test_forwardPulse : (after .forwardPulse (pulses 2 0)).conveyor.remainder = 3 ∧
    (after .forwardPulse (pulses 3 0)).conveyor.remainder = 0 := by decide +kernel

/-- spec/01 1.8, steps 5 and 8: reverse travel is repaid pulse by pulse. -/
theorem test_reversePulse : (after .reversePulse (pulses 2 2)).conveyor.backlash = 3 ∧
    (after .forwardPulse (pulses 2 3)).conveyor = { (pulses 2 3).conveyor with backlash := 2 } := by
  decide +kernel

/-- spec/01 1.8, step 12, and spec/02 2.12, steps 2 and 3: a fall awaited by the debounce travel measures 608. -/
theorem test_eye_fall_measures : (after .forwardPulse
    { underEye .high (some 2) with
      pins := line.pins
      conveyor := ⟨3, 0, .high, some 2, .running 1000⟩
      track := [{ record 41 7001 2 600 807 2940 ⟨.fwd, 5, 0⟩ with
        measured := none, announced := some 600, state := .entering }] }).track.map
      (fun r => (r.position, r.measured, r.state, r.lengthMismatch)) = [(808, some 608, .onLine, false)] := by
  decide +kernel

/-- spec/02 2.12, step 5: an unannounced panel takes the fallback recipe and areas. -/
theorem test_eye_rise_binds : ((after (.eyeChange .high) { line with nextEntry := 42 }).track.all fun r =>
      r.entry = 42 && r.panelId = 0 && r.recipe = some 4 && r.areaA = 2500 && r.areaB = 2300 &&
      r.position = 200 && r.unannounced) = true ∧
    (after (.eyeChange .high) line).track.length = 1 := by decide +kernel

/-- spec/02 2.12, the coverage table: channel 2 over record 42, and the floor of its area. -/
theorem test_coverage : (fun s : State =>
    let r := { record 42 0 4 640 840 2500 ⟨.fwd, 5, 0⟩ with areaB := 2300 }
    (s.covered 2 r, s.coveredArea 2 r, s.covered 22 r, s.coveredArea 22 r))
    { line with
      segments := ((Vector.replicate 40 none).set 2 (some ⟨700, 800, 8000, 24000, 0⟩)).set 22
        (some ⟨600, 800, 8000, 24000, 1⟩) } = (140, 546, 240, 862) := by decide +kernel

/-- spec/03 3.7: the replies to recipes 5 to 9. -/
theorem test_recipes_checked : ([⟨⟨40, 2, 2, 2⟩, 3, 60, none, 5, [⟨0, 250, 750⟩]⟩,
    ⟨⟨10, 0, 0, 0⟩, 0, 0, none, 5, [⟨0, 300, 100⟩]⟩, ⟨⟨10, 2, 5, 2⟩, 0, 0, none, 5, [⟨0, 200, 400⟩]⟩,
    ⟨⟨10, 2, 5, 2⟩, 0, 0, none, 5, [⟨0, 200, 350⟩, ⟨0, 210, 350⟩]⟩,
    ⟨⟨10, 2, 5, 2⟩, 0, 0, none, 5, [⟨0, 0, 0⟩, ⟨1500, 200, 300⟩]⟩] : List Recipe).map Recipe.valid =
    [true, false, false, false, true] := by decide

/-- spec/03 3.8: the stage of recipe 2 at the midpoints of A0, A3, A5 and A9. -/
theorem test_stages : ([850, 2000, 3400, 5050].map fun m =>
    (stageAt m [⟨0, 180, 540⟩, ⟨2000, 220, 660⟩, ⟨5000, 200, 600⟩]).map (·.forwardDensity)) =
    [some 180, some 220, some 220, some 200] := by decide

/-- spec/03 3.9: index 3 on table 1, and index 6 on it after six periods under table 3. -/
theorem test_ramp_index : percentageAt [25, 50, 75, 100] 3 = 100 ∧ percentageAt [25, 50, 75, 100] 6 = 100 ∧
    percentageAt [10, 20, 30, 40, 50, 60, 70, 80, 90, 100] 3 = 40 := by decide

/-- spec/05 5.7: the two panels 119 mm further along, at full current. -/
theorem test_setpoints : (flight.record.forward, flight.record.reverse) = (756, 2268) ∧
    (flight.record.forwardSum, flight.record.reverseSum, flight.record.totalArea) = (756100, 2268300, 3289) ∧
    flight.record.clamped = false ∧ flight.record.contributors.map (·.entry) = [118, 119] := by
  decide +kernel

/-- spec/05 5.7: the same period at ramp step 0, and in HOLD. -/
theorem test_setpoints_ramp_and_hold : (fun (a b : PeriodRecord) => (a.forward, a.reverse, b.forward, b.reverse))
    ((plating { aligned with index := 0 } ⟨.rev, 0, 0⟩).allocate 5 119 recipe2.timing .normal)
    ({ plating aligned ⟨.rev, 0, 0⟩ with mode := .hold }.allocate 5 119 recipe2.timing .normal) =
    (189, 567, 357, 1070) := by decide +kernel

/-- spec/05 5.7: SetLimits to a forward limit of 700 clamps the period. -/
theorem test_setLimits : (fun p : PeriodRecord => (p.forward, p.reverse, p.clamped))
    ((after (.setLimits 5 700 2400) (plating aligned ⟨.rev, 0, 0⟩)).allocate 5 119 recipe2.timing .normal) =
    (700, 2268, true) := by decide +kernel

/-- spec/07 7.10: the division of the period's charge from its report. -/
theorem test_periodReport : (after (.periodReport 5 report) (reporting 0 window)).track.map
    (fun r => (r.entry, r.account.forwardA, r.account.reverseA)) = [(118, 5412, 813), (119, 9688, 1457)] := by
  decide +kernel

/-- spec/07 7.10: the same period without a report, from its estimate. -/
theorem test_reportWindowClose : (fun s : State => (s.track.map fun r =>
    (r.entry, r.account.forwardA, r.account.reverseA, r.account.estimatedA), (s.chan 5).missing))
    (after (.reportWindowClose 5) (reporting 0 window)) =
    ([(118, 5419, 812, true), (119, 9701, 1456, true)], 1) := by decide +kernel

/-- spec/07 7.11: the two sides of the exit record, and the variants without area and without target. -/
theorem test_exit_sides :
    ((exitSide (some recipe2) 2940 1235000000 176600000).density,
      (exitSide (some recipe2) 2940 1235000000 176600000).verdict) = (6000, .within) ∧
    ((exitSide (some recipe2) 2940 1090000000 152000000).density,
      (exitSide (some recipe2) 2940 1090000000 152000000).verdict) = (5317, .under) ∧
    ((exitSide (some recipe2) 0 5 0).density, (exitSide (some recipe2) 0 5 0).verdict) = (0, .noArea) ∧
    (exitSide (some { recipe2 with target := none }) 2940 1235000000 176600000).verdict = .noTarget ∧
    (exitSide (some recipe2) 2940 0 1000000).density = -5 := by decide

/-- R199: the exit record takes 66 bytes, and the reply that carries it a body of 68. -/
theorem test_exit_reply : (Reply.frame ⟨0x10#8, .ok, .exit exitRecord⟩).payload.length + 1 = 68 := by
  decide +kernel

/-- R199: the AnnouncePanel payload of panel 7001, recipe 2, 600 mm, 2 940 cm² on either side, written out by hand. -/
theorem test_announcePanel_bytes : (Request.announcePanel (some entry)).frame =
    ⟨0x0C#8, [0x00#8, 0x00#8, 0x1B#8, 0x59#8, 0x02#8, 0x02#8, 0x58#8, 0x0B#8, 0x7C#8, 0x0B#8, 0x7C#8, 0x00#8]⟩ := by
  decide +kernel

/-- R198: a signed field is two's complement, most significant byte first. -/
theorem test_spelled_signed : spelled [item 2 (-5), item 2 258] = [0xFF#8, 0xFB#8, 0x01#8, 0x02#8] := by decide

/-- R193: a TRACKING notice in RUN with REVERSE_LIMIT and inputs 2 and 5 latched, an exit list of 12. -/
theorem test_notice_bytes : noticeFrame .tracking ⟨.run, ⟨false, false, true, false, false⟩, 12, 3,
    [false, false, true, false, false, true, false, false]⟩ =
    ⟨0x45#8, [0x02#8, 0x04#8, 0x0C#8, 0x03#8, 0x24#8]⟩ := by decide

/-- R190: a mode byte that is no mode is answered BAD_VALUE, a list shorter than its count BAD_LENGTH. -/
theorem test_frame_checks : (after (.frameReceived 0x07#8 [4#8]) line).link.inHand.map (·.reply.code) = some .badValue ∧
    (after (.frameReceived 0x09#8 [3#8, 5#8]) line).link.inHand.map (·.reply.code) = some .badLength := by
  decide +kernel

/-- R59, R66: both channels that await a record start their periods at its boundary. -/
theorem test_phaseBoundary_two : (fun s : State => [s.chan 5, s.chan 25].map fun ch => ch.period.code)
    (after (.phaseBoundary 119) bothAligned) = [2, 2] := by decide +kernel

/-- R148, R121: the end of BOOT with channel 7 present and channel 8 silent. -/
theorem test_bootEnd : (fun s : State => (s.mode, (s.chan 7).state, (s.chan 8).state))
    (after .bootEnd (after (.presenceReply 7) polled)) = (.offline, .dormant, .faulted .moduleAbsent) := by
  decide +kernel

/-- R109, R110: the first channel of an idle group is granted at once, with an Arm Order. -/
theorem test_armChannels : (fun s : State => ((s.chan 5).state, (s.group 0).sinceGrant, s.moduleLink.sending))
    (after (.armChannels [5]) line) = (.arming 2000, some 0, some ⟨5, .arm⟩) := by decide +kernel

/-- R112, R114: ClearFault leaves the channel DORMANT with its contactor rest of 2 000 ms. -/
theorem test_clearFault : (fun s : State => ((s.chan 5).state, (s.chan 5).rest))
    (after (.clearFault [5]) (channel5 { present with state := .faulted .armTimeout })) =
    (.dormant, some 2000) := by decide +kernel

/-- R72: a disarm in a period at full ramp on table 1 leaves the drain index at 4 - 2. -/
theorem test_disarmChannels : (fun s : State => ((s.chan 5).state, (s.chan 5).index))
    (after (.disarmChannels [5]) (plating delivering ⟨.rev, 0, 0⟩)) = (.draining .dormant, 2) := by
  decide +kernel

/-- R162, R165, spec/09 9.7: the DROP stops the channels in its scope and sets INTERLOCK. -/
theorem test_interlockInputChange : (fun s : State => ((s.chan 5).state, (s.chan 4).state, (s.chan 25).state,
    (s.interlock 2).latched)) (after (.interlockInputChange 2 .low) (dropping false)) =
    (.ready, .dormant, .ready, true) := by decide +kernel

/-- R188: the sync byte of a fresh frame, more than 5 ms after a byte of another, starts that frame. -/
theorem test_receivedByte_after_gap : (after (.receivedByte 0xC3#8)
    { line with link := { line.link with receiver := .body 3 [0x1A#8], gap := 6 } }).link.receiver = .length ∧
    (after (.receivedByte 0xC3#8)
      { line with link := { line.link with receiver := .body 3 [0x1A#8], gap := 5 } }).link.receiver =
      .body 3 [0x1A#8, 0xC3#8] := by decide +kernel

/-- R61, R64: the timing in force outlasts its period, and the next period start writes it. -/
theorem test_timing_in_force : (fun ch : Channel => (ch.state, ch.period, ch.timing))
      ((after (.periodEnd 5) { plating delivering ⟨.rev, 0, 0⟩ with track := [] }).chan 5) =
        (.ready, .idle, recipe2.timing) ∧
    ((after (.phaseBoundary 119) (plating { aligned with timing := recipe5.timing } ⟨.rev, 0, 0⟩)).chan 5).timing =
      recipe2.timing := by decide +kernel

/-- R61, R74: a drain to READY that another governor ends at step 2 leaves ramp index 2. -/
theorem test_periodEnd_keeps_index : (endings { delivering with state := .draining .ready, index := 2 }).map
    (fun s => ((after (.periodEnd 5) { s with mode := .standby }).chan 5).index) = [1, 2, 2] := by decide +kernel

/-- R101: an arm report before its Arm Order has been sent ends no ARMING. -/
theorem test_armReport_unsent : ((after (.armReport 5 0) unsentArm).chan 5).state = .arming 1500 ∧
    ((after (.armReport 5 0) arming).chan 5).state = .ready := by decide +kernel

/-- R36, R134: the accounting that brings a DEPARTING contributor's count to 0 lets it leave, oldest first. -/
theorem test_periodReport_releases : (fun t : State => (t.track, t.exits.map (·.entry)))
    (after (.periodReport 5 report) releasing) = ([], [118, 119]) := by decide +kernel

/-- R33, R39, R170: the record whose trailing edge reaches the line's end leaves, and at 12 sets EXIT_HIGH. -/
theorem test_forwardPulse_passes_out : (fun t : State => (t.track.map (·.entry), t.exits.length, t.lineStop.exitHigh))
    (after .forwardPulse { beforeAdvance ready with
      track := [record 118 1118 5 610 6609 3150 ⟨.fwd, 20, 0⟩, record119]
      exits := List.replicate 11 (line.exitRecord record119) }) = ([119], 12, true) := by decide +kernel

/-- R109: a channel in contactor rest is passed over, and keeps its place. -/
theorem test_armingSpacingReached_passes_over : (fun t : State => ((t.chan 4).state, (t.group 0).queue))
    (after (.armingSpacingReached 0) (queuedLine (some 9) (some 300))) = (.arming 2000, [5]) := by decide +kernel

/-- R149, R150: RUN is refused without a segment, and taken with one. -/
theorem test_setModeRun : (after .setModeRun offline).mode = .run ∧
    (after .setModeRun { offline with segments := .replicate 40 none }).link.inHand.map (·.reply.code) =
      some .notConfigured := by decide +kernel

/-- R147: during BOOT SetMode is answered BOOTING and QueryLine OK. -/
theorem test_boot_replies : (after .setModeRun State.reset).link.inHand.map (·.reply.code) = some .booting ∧
    (after .queryLine State.reset).link.inHand.map (·.reply.code) = some .ok := by decide +kernel

/-- R178: a count that passes its greatest value wraps, overflows, notifies and freezes. -/
theorem test_counter_wraps : (fun k : Counter => (k.count, k.overflow))
    ((⟨{ program with threshold := 0 }, 4294967295, false, .replicate 40 false⟩ : Counter).take 5 3) =
    (2, true) := by decide +kernel

/-- R8: both phases changing together is no pulse; the order gives the direction. -/
theorem test_phases : pulseOf true ⟨.low, .low⟩ ⟨.high, .low⟩ = some .forward ∧
    pulseOf true ⟨.low, .low⟩ ⟨.low, .high⟩ = some .reverse ∧ pulseOf true ⟨.low, .low⟩ ⟨.high, .high⟩ = none := by
  decide

end Sys2Proof.Tests
end

section
/-! PROOFS. The work on channels and the records: it raises in-flight counts, and changes nothing else on the
track. -/

namespace Sys2Proof.Machine

/-- A record without its in-flight count. -/
def TrackRecord.uncounted (r : TrackRecord) : TrackRecord := { r with inFlight := 0 }

/-- The records of `t` are those of `s` but for their in-flight counts. -/
def SameRecords (s t : State) : Prop :=
  t.track.map TrackRecord.uncounted = s.track.map TrackRecord.uncounted

namespace SameRecords

theorem of_track {s t : State} (h : t.track = s.track) : SameRecords s t := by rw [SameRecords, h]

theorem refl (s : State) : SameRecords s s := of_track rfl

theorem trans {s t u : State} (h : SameRecords s t) (k : SameRecords t u) : SameRecords s u :=
  Eq.trans k h

/-- An empty track stays empty. -/
theorem nil {s t : State} (h : SameRecords s t) (hs : s.track = []) : t.track = [] := by
  simpa [SameRecords, hs] using h

theorem forList {f : Chan → State → State} (h : ∀ c s, SameRecords s (f c s)) (l : List Chan) (s : State) :
    SameRecords s (s.forList l f) :=
  State.forList_keeps (P := SameRecords s) (fun c t ht => ht.trans (h c t)) l s (refl s)

theorem forChans {f : Chan → State → State} (h : ∀ c s, SameRecords s (f c s)) (s : State) :
    SameRecords s (s.forChans f) := forList h Chan.all s

theorem updChan (s : State) (c : Chan) (f : Channel → Channel) : SameRecords s (s.updChan c f) := of_track rfl

theorem order (s : State) (c : Chan) (b : OrderBody) : SameRecords s (s.order c b) := of_track rfl

theorem raise (s : State) (k : NoticeKind) : SameRecords s (s.raise k) := of_track rfl

theorem dequeue (s : State) (c : Chan) : SameRecords s (s.dequeue c) := of_track rfl

/-- The start of a period raises the in-flight counts of its contributors (R35). -/
theorem raiseCounts (s : State) (l : List Contributor) : SameRecords s (s.raiseCounts l) := by
  unfold SameRecords State.raiseCounts
  rw [List.map_map]
  refine List.map_congr_left fun r _ => ?_
  rw [Function.comp_apply]
  split <;> rfl

theorem sample (s : State) (c : Chan) (x : Sample) : SameRecords s (s.sample c x) := by
  unfold State.sample
  split
  · exact refl s
  · dsimp only; split <;> exact of_track rfl

theorem arbiter (s : State) (g : BusGroup) : SameRecords s (s.arbiter g) := by
  unfold State.arbiter
  split
  · exact of_track rfl
  · exact refl s

theorem arbiterOf (s : State) (c : Chan) : SameRecords s (s.arbiterOf c) := by
  unfold State.arbiterOf
  split
  · exact arbiter ..
  · exact refl s

theorem truncate (s : State) (c : Chan) : SameRecords s (s.truncate c) := by
  unfold State.truncate
  split
  · exact of_track rfl
  · exact refl s

theorem toDormant (s : State) (c : Chan) : SameRecords s (s.toDormant c) := by
  unfold State.toDormant
  dsimp only
  split
  · exact ((order ..).trans (updChan ..)).trans (arbiterOf ..)
  · exact of_track rfl

theorem toFaulted (s : State) (c : Chan) (cause : FaultCause) : SameRecords s (s.toFaulted c cause) := by
  unfold State.toFaulted
  dsimp only
  split
  · exact refl s
  · have first : SameRecords s (if ((s.truncate c).chan c).contactorClosed = true
        then (s.truncate c).order c .disarm else s.truncate c) := by
      split
      · exact (truncate s c).trans (order ..)
      · exact truncate s c
    have rest (f : Channel → Channel) :=
      ((first.trans (dequeue _ c)).trans (updChan _ c f)).trans (raise _ .channelFault)
    split
    · exact (rest _).trans (arbiterOf _ c)
    · exact rest _

theorem toAlign (s : State) (c : Chan) (g : Nat) : SameRecords s (s.toAlign c g) :=
  (updChan ..).trans (sample ..)

theorem startOccasion (s : State) (c : Chan) : SameRecords s (s.startOccasion c) := by
  unfold State.startOccasion
  split
  · split
    · exact (updChan ..).trans (toAlign ..)
    · exact refl s
  · exact refl s

theorem startOccasions (s : State) : SameRecords s s.startOccasions := forChans (fun c s => startOccasion s c) s

theorem loneZeroIfDue (s : State) (c : Chan) : SameRecords s (s.loneZeroIfDue c) := by
  unfold State.loneZeroIfDue
  dsimp only
  split
  · exact of_track rfl
  · exact refl s

theorem toReady (s : State) (c : Chan) : SameRecords s (s.toReady c) :=
  ((updChan ..).trans (loneZeroIfDue ..)).trans (startOccasion ..)

theorem startPeriod (s : State) (c : Chan) (g : Nat) : SameRecords s (s.startPeriod c g) := by
  unfold State.startPeriod
  split
  · exact toReady ..
  · exact ((raiseCounts ..).trans (order ..)).trans (updChan ..)

theorem takeRule (s : State) (c : Chan) (ended : Option Nat) : SameRecords s (s.takeRule c ended) := by
  unfold State.takeRule
  split
  · exact toReady ..
  · split
    · exact startPeriod ..
    · exact toAlign ..

theorem realign (s : State) : SameRecords s s.realign := by
  refine forChans (fun c s => ?_) s
  split
  · split
    · exact takeRule ..
    · exact refl s
  · exact refl s

theorem drainToReady (s : State) (c : Chan) : SameRecords s (s.drainToReady c) := by
  have h : SameRecords s { s with freeCount := s.freeCount + 1 } := of_track rfl
  exact (h.trans (updChan _ c _)).trans (toReady _ c)

theorem drainEnds (s : State) (c : Chan) (d : Destination) : SameRecords s (s.drainEnds c d) := by
  unfold State.drainEnds
  split
  · split
    · exact drainToReady ..
    · exact toReady ..
  · exact toDormant ..

theorem beginDrain (s : State) (c : Chan) (d : Destination) : SameRecords s (s.beginDrain c d) := by
  unfold State.beginDrain
  split
  · exact updChan ..
  · split
    · exact toReady ..
    · exact toDormant ..

theorem stepDrain (s : State) (c : Chan) (d : Destination) (n : Nat) : SameRecords s (s.stepDrain c d n) := by
  unfold State.stepDrain
  split
  · exact drainEnds ..
  · split
    · exact startPeriod ..
    · exact drainEnds ..

theorem zeroOutcome (s : State) (c : Chan) (lone valid : Bool) : SameRecords s (s.zeroOutcome c lone valid) := by
  unfold State.zeroOutcome
  dsimp only
  split
  · exact ((updChan ..).trans (loneZeroIfDue ..)).trans (startOccasion ..)
  · exact (updChan ..).trans (loneZeroIfDue ..)

theorem dropChannel (s : State) (c : Chan) : SameRecords s (s.dropChannel c) := by
  unfold State.dropChannel
  split
  · exact (truncate ..).trans (toReady ..)
  · exact (truncate ..).trans (drainToReady ..)
  · exact (truncate ..).trans (toDormant ..)
  all_goals exact refl s

theorem inhibitionEnds (s : State) (c : Chan) : SameRecords s (s.inhibitionEnds c) := by
  unfold State.inhibitionEnds
  split
  · exact (updChan ..).trans (startOccasion ..)
  · exact refl s

theorem settle (s : State) : SameRecords s (settle s) := by
  have pump (t : State) : SameRecords t (pumpOrders t) := by
    unfold pumpOrders startOrder
    split
    · dsimp only; split <;> exact of_track rfl
    · exact refl t
  have send (t : State) : SameRecords t (pumpTransmitter t) := by
    unfold pumpTransmitter
    split
    · split
      · exact of_track rfl
      · split <;> exact of_track rfl
    · exact refl t
  exact ((of_track rfl : SameRecords s (flushOrders s)).trans (pump _)).trans (send _)

end SameRecords

end Sys2Proof.Machine
end

section
/-! PROOFS. O60: the profile's ranges, the pulse remainder, the backlash, and the empty track and STOPPED stall timer
of BOOT and OFFLINE are kept by every step. -/

namespace Sys2Proof.Machine

theorem State.conveyorInv_iff {s : State} : s.conveyorInv = true ↔
    (∀ p, s.profile = some p → p.inRange = true) ∧
    (s.mode.active = true → s.profile.isSome = true ∧ s.conveyor.remainder < s.prof.pulsesPerMm ∧
      s.conveyor.backlash ≤ s.backlashLimit) ∧
    (s.mode.active = false → s.track = [] ∧ s.conveyor.stall = .stopped) ∧
    (s.bootTimer = none ∨ s.mode = .boot) := by
  unfold State.conveyorInv
  cases s.mode.active <;> simp [Option.all_eq_true, and_assoc]

theorem LineMode.ne_boot_of_active {m : LineMode} (h : m.active = true) : m ≠ .boot := by
  rintro rfl; cases h

/-- What most events leave as it is: the profile, whether the line tracks, the boot timer, the pulse remainder and the
backlash; and where the line does not track, the stall timer and an empty track. -/
structure Steady (s t : State) : Prop where
  profile : t.profile = s.profile
  bootTimer : t.bootTimer = s.bootTimer
  active : t.mode.active = s.mode.active
  boot : t.mode = .boot ↔ s.mode = .boot
  remainder : t.conveyor.remainder = s.conveyor.remainder
  backlash : t.conveyor.backlash = s.conveyor.backlash
  stall : s.mode.active = false → t.conveyor.stall = s.conveyor.stall
  track : s.mode.active = false → s.track = [] → t.track = []

namespace Steady

theorem refl (s : State) : Steady s s := by constructor <;> simp

theorem trans {s t u : State} (h : Steady s t) (k : Steady t u) : Steady s u where
  profile := k.profile.trans h.profile
  bootTimer := k.bootTimer.trans h.bootTimer
  active := k.active.trans h.active
  boot := k.boot.trans h.boot
  remainder := k.remainder.trans h.remainder
  backlash := k.backlash.trans h.backlash
  stall hs := (k.stall (h.active.trans hs)).trans (h.stall hs)
  track hs ht := k.track (h.active.trans hs) (h.track hs ht)

/-- The invariant reads nothing that a steady event changes. -/
theorem conveyorInv {s t : State} (h : Steady s t) (hs : s.conveyorInv = true) : t.conveyorInv = true := by
  obtain ⟨range, tracking, still, boot⟩ := State.conveyorInv_iff.1 hs
  refine State.conveyorInv_iff.2 ⟨h.profile ▸ range, ?_, fun ha => ?_, ?_⟩
  · unfold State.backlashLimit State.prof at *
    rw [h.active, h.profile, h.remainder, h.backlash]
    exact tracking
  · rw [h.active] at ha
    exact ⟨h.track ha (still ha).1, (h.stall ha).trans (still ha).2⟩
  · rwa [h.bootTimer, h.boot]

/-- An event that leaves these fields is steady. -/
theorem of_fields {s t : State} (profile : t.profile = s.profile) (bootTimer : t.bootTimer = s.bootTimer)
    (mode : t.mode = s.mode) (conveyor : t.conveyor = s.conveyor) (track : s.track = [] → t.track = []) :
    Steady s t := by
  constructor <;> simp_all

/-- An event in RUN, HOLD or STANDBY is steady whatever it does to the track and the stall timer. -/
theorem of_active {s t : State} (ha : s.mode.active = true) (hb : t.mode.active = true)
    (profile : t.profile = s.profile) (bootTimer : t.bootTimer = s.bootTimer)
    (remainder : t.conveyor.remainder = s.conveyor.remainder)
    (backlash : t.conveyor.backlash = s.conveyor.backlash) : Steady s t where
  profile := profile
  bootTimer := bootTimer
  active := hb.trans ha.symm
  boot := iff_of_false (LineMode.ne_boot_of_active hb) (LineMode.ne_boot_of_active ha)
  remainder := remainder
  backlash := backlash
  stall hs := absurd hs (by simp [ha])
  track hs := absurd hs (by simp [ha])

theorem of_work {s t : State} (h : ChannelWork s t) (k : SameRecords s t) : Steady s t :=
  of_fields h.profile h.bootTimer h.mode h.conveyor k.nil

theorem forList {f : Chan → State → State} (h : ∀ c s, Steady s (f c s)) (l : List Chan) (s : State) :
    Steady s (s.forList l f) :=
  State.forList_keeps (P := Steady s) (fun c t ht => ht.trans (h c t)) l s (refl s)

theorem forChans {f : Chan → State → State} (h : ∀ c s, Steady s (f c s)) (s : State) : Steady s (s.forChans f) :=
  forList h Chan.all s

theorem foldl {f : State → α → State} (h : ∀ s a, Steady s (f s a)) : ∀ (l : List α) (s : State),
    Steady s (l.foldl f s)
  | [], s => refl s
  | a :: l, s => (h s a).trans (foldl h l (f s a))

/-! ### The shared operations -/

theorem updChan (s : State) (c : Chan) (f : Channel → Channel) : Steady s (s.updChan c f) :=
  of_work (.updChan ..) (.updChan ..)

theorem raise (s : State) (k : NoticeKind) : Steady s (s.raise k) := of_fields rfl rfl rfl rfl id

theorem updLink (s : State) (f : LineLink → LineLink) : Steady s (s.updLink f) := of_fields rfl rfl rfl rfl id

theorem changeLineStop (s : State) (f : LineStopCauses → LineStopCauses) : Steady s (s.changeLineStop f) :=
  of_fields (by simp) (by simp) (by simp) (by simp) (by simp)

theorem updInterlock (s : State) (i : Input) (f : Interlock → Interlock) : Steady s (s.updInterlock i f) :=
  of_fields rfl rfl rfl rfl id

theorem settle (s : State) : Steady s (settle s) := of_work (.settle s) (.settle s)

theorem startOccasions (s : State) : Steady s s.startOccasions := of_work (.startOccasions s) (.startOccasions s)

theorem zeroOutcome (s : State) (c : Chan) (lone valid : Bool) : Steady s (s.zeroOutcome c lone valid) :=
  of_work (.zeroOutcome ..) (.zeroOutcome ..)

theorem toFaulted (s : State) (c : Chan) (cause : FaultCause) : Steady s (s.toFaulted c cause) :=
  of_work (.toFaulted ..) (.toFaulted ..)

theorem arbiter (s : State) (g : BusGroup) : Steady s (s.arbiter g) := of_work (.arbiter ..) (.arbiter ..)

theorem arbiterOf (s : State) (c : Chan) : Steady s (s.arbiterOf c) := of_work (.arbiterOf ..) (.arbiterOf ..)

theorem loneZeroIfDue (s : State) (c : Chan) : Steady s (s.loneZeroIfDue c) :=
  of_work (.loneZeroIfDue ..) (.loneZeroIfDue ..)

theorem startPeriod (s : State) (c : Chan) (g : Nat) : Steady s (s.startPeriod c g) :=
  of_work (.startPeriod ..) (.startPeriod ..)

theorem takeRule (s : State) (c : Chan) (ended : Option Nat) : Steady s (s.takeRule c ended) :=
  of_work (.takeRule ..) (.takeRule ..)

theorem beginDrain (s : State) (c : Chan) (d : Destination) : Steady s (s.beginDrain c d) :=
  of_work (.beginDrain ..) (.beginDrain ..)

/-! ### Records and reports -/

theorem mapTrack (s : State) (f : TrackRecord → TrackRecord) : Steady s { s with track := s.track.map f } :=
  of_fields rfl rfl rfl rfl (by rintro h; simp [h])

theorem leaveIfDone (s : State) (entry : Nat) : Steady s (s.leaveIfDone entry) := by
  have arrives (t : State) (e : ExitRecord) : Steady t (t.exitArrives e) := by
    unfold State.exitArrives
    dsimp only
    have first : Steady t (({ t with exits := joinExits e t.exits } : State).raise .exit) :=
      of_fields rfl rfl rfl rfl id
    split
    · exact first.trans (changeLineStop ..)
    · exact first
  unfold State.leaveIfDone State.leaveTrack
  split
  · exact refl s
  · split
    · split
      · exact refl s
      · have gone : Steady s { s with track := s.track.filter fun t => t.entry ≠ entry } :=
          of_fields rfl rfl rfl rfl (fun h => by simp [h])
        exact gone.trans (arrives _ _)
    · exact refl s

theorem account (s : State) (p : PeriodRecord) (note : CloseNote) (report : Option PeriodReport) :
    Steady s (s.account p note report) := by
  have credited (e : Bool) (q : Nat × Nat) : Steady s (s.creditAll p note e q) := mapTrack ..
  have counted (t : State) (x : Sample) (f r : Nat) :
      Steady t ((t.sample p.channel x).anodeCount p.channel f r) :=
    (of_work (.sample ..) (.sample ..)).trans (of_fields rfl rfl rfl rfl id)
  exact ((credited _ _).trans (foldl (fun t (q : Contributor) => leaveIfDone t q.entry) _ _)).trans (counted ..)

theorem settleWindow (s : State) (c : Chan) (w : Window) (report : Option PeriodReport) :
    Steady s (s.settleWindow c w report) := by
  unfold State.settleWindow
  dsimp only
  split
  · exact zeroOutcome ..
  · split
    · exact (account ..).trans (zeroOutcome ..)
    · exact account ..

theorem heard_keepZero (s : State) (c : Chan) (r : PeriodReport) : Steady s ((s.heard c).keepZero c r) := by
  unfold State.keepZero
  split
  · exact (updChan ..).trans (updChan ..)
  · exact updChan ..

theorem reportFault (s : State) (c : Chan) (r : PeriodReport) : Steady s (s.reportFault c r) := by
  unfold State.reportFault
  split
  · exact refl s
  · exact toFaulted ..

theorem useReport (s : State) (c : Chan) (w : Window) (r : PeriodReport) : Steady s (s.useReport c w r) :=
  (((updChan ..).trans (heard_keepZero ..)).trans (settleWindow ..)).trans (reportFault ..)

theorem earlyStop (s : State) (c : Chan) (p : InFlight) (r : PeriodReport) : Steady s (s.earlyStop c p r) := by
  unfold State.earlyStop
  dsimp only
  have first := ((updChan s c fun ch => { ch.zeroed with period := .idle }).trans (heard_keepZero _ c r)).trans
    (account _ p.record (closeNote p true (s.chan c).stale) (some r))
  split
  · exact (first.trans (zeroOutcome ..)).trans (reportFault ..)
  · exact first.trans (reportFault ..)

theorem takeReport (s : State) (c : Chan) (r : PeriodReport) : Steady s (s.takeReport c r) := by
  unfold State.takeReport
  split
  · exact refl s
  · split
    · exact useReport ..
    · split
      · split
        · exact earlyStop ..
        · exact updChan ..
      · exact updChan ..

theorem windowCloses (s : State) (c : Chan) : Steady s (s.windowCloses c) := by
  have missed (t : State) : Steady t (t.missed c) := by
    unfold State.missed
    split
    · exact refl t
    · split
      · exact toFaulted ..
      · exact updChan ..
  unfold State.windowCloses
  split
  · exact refl s
  · exact ((updChan ..).trans (settleWindow ..)).trans (missed _)

theorem takeArmReport (s : State) (c : Chan) (code : Nat) : Steady s (s.takeArmReport c code) := by
  unfold State.takeArmReport
  split
  · split
    · exact ((updChan ..).trans (of_work (.toReady ..) (.toReady ..))).trans (arbiterOf ..)
    · exact toFaulted ..
  · split
    · exact refl s
    · exact updChan ..

/-! ### Clocks and timers -/

theorem passBoundary (s : State) (entry : Nat) (k : PhaseClock) (t : Timing) : Steady s (s.passBoundary entry k t) := by
  refine (mapTrack ..).trans (forChans (fun c u => ?_) _)
  split
  · unfold State.alignEnds
    split
    · exact startPeriod ..
    · exact takeRule ..
  · exact refl u

theorem phaseIntervalEnds (s : State) (entry : Nat) : Steady s (s.phaseIntervalEnds entry) := by
  unfold State.phaseIntervalEnds
  split
  · exact refl s
  · split
    · exact mapTrack ..
    · exact passBoundary ..

theorem phaseBoundaryComes (s : State) (entry : Nat) : Steady s (s.phaseBoundaryComes entry) := by
  unfold State.phaseBoundaryComes
  split
  · exact refl s
  · split
    · exact passBoundary ..
    · exact refl s

theorem endPeriod (s : State) (c : Chan) (p : InFlight) : Steady s (s.endPeriod c p) := by
  unfold State.endPeriod
  dsimp only
  split
  · exact (updChan ..).trans (of_work (.stepDrain ..) (.stepDrain ..))
  · exact (updChan ..).trans (takeRule ..)

theorem channelIntervalEnds (s : State) (c : Chan) : Steady s (s.channelIntervalEnds c) := by
  unfold State.channelIntervalEnds
  split
  · split
    · exact updChan ..
    · exact endPeriod ..
  · exact refl s

theorem periodEnds (s : State) (c : Chan) : Steady s (s.periodEnds c) := by
  unfold State.periodEnds
  split
  · split
    · exact endPeriod ..
    · exact refl s
  · exact refl s

theorem zeroTimerEnds (s : State) (c : Chan) : Steady s (s.zeroTimerEnds c) := by
  unfold State.zeroTimerEnds
  split
  · exact (updChan ..).trans (loneZeroIfDue ..)
  · exact refl s

theorem retryEnds (s : State) (c : Chan) : Steady s (s.retryEnds c) := by
  unfold State.retryEnds
  split
  · exact (updChan ..).trans (loneZeroIfDue ..)
  · exact refl s

theorem armingExpires (s : State) (c : Chan) : Steady s (s.armingExpires c) := by
  unfold State.armingExpires
  split
  · exact toFaulted ..
  · exact refl s

theorem restEnds (s : State) (c : Chan) : Steady s (s.restEnds c) := by
  unfold State.restEnds
  dsimp only
  split
  · split
    · exact (updChan ..).trans (arbiterOf ..)
    · exact updChan ..
  · exact refl s

theorem spacingReached (s : State) (g : BusGroup) : Steady s (s.spacingReached g) := by
  unfold State.spacingReached
  dsimp only
  split
  · exact (of_work (.updGroup ..) (.of_track rfl)).trans (arbiter ..)
  · exact refl s

theorem holdMillisecond (s : State) : Steady s s.holdMillisecond := by
  unfold State.holdMillisecond
  split
  · exact mapTrack ..
  · exact refl s

/-! ### Interlocks -/

theorem addHoldCause (s : State) (f : HoldCauses → HoldCauses) : Steady s (s.addHoldCause f) := by
  unfold State.addHoldCause
  split
  · rename_i hm
    have first : Steady s { s with mode := .hold, holdCauses := f s.holdCauses } :=
      of_active (by rw [hm]; rfl) rfl rfl rfl rfl rfl
    exact (first.trans (startOccasions _)).trans (raise _ _)
  · exact of_fields rfl rfl rfl rfl id
  · exact refl s

theorem latch (s : State) (i : Input) : Steady s (s.latch i) := by
  unfold State.latch
  dsimp only
  have dropped : Steady s (((s.updInterlock i fun x => { x with latched := true }).raise .interlock).forList
      (Chan.all.filter fun c =>
        (s.interlock i).config.drop && (s.interlock i).config.inScope c && !s.inhibited c)
      fun c s => s.dropChannel c) :=
    ((updInterlock ..).trans (raise ..)).trans (forList (fun c t => of_work (.dropChannel ..) (.dropChannel ..)) _ _)
  split <;> split
  · exact (dropped.trans (addHoldCause ..)).trans (changeLineStop ..)
  · exact dropped.trans (changeLineStop ..)
  · exact dropped.trans (addHoldCause ..)
  · exact dropped

theorem latchIfLevel (s : State) (i : Input) : Steady s (s.latchIfLevel i) := by
  unfold State.latchIfLevel
  dsimp only
  split
  · exact latch ..
  · exact refl s

theorem unlatch (s : State) (i : Input) : Steady s (s.unlatch i) := by
  unfold State.unlatch
  dsimp only
  have turned (t : State) : Steady t t.interlockToCommand := by
    unfold State.interlockToCommand
    split
    · exact of_fields rfl rfl rfl rfl id
    · exact refl t
  have freed (l : List Chan) : Steady s
      ((s.updInterlock i fun x => { x with latched := false }).forList l fun c s => s.inhibitionEnds c) :=
    (updInterlock ..).trans (forList (fun c t => of_work (.inhibitionEnds ..) (.inhibitionEnds ..)) _ _)
  split <;> split
  · exact ((freed _).trans (turned _)).trans (changeLineStop ..)
  · exact (freed _).trans (turned _)
  · exact (freed _).trans (changeLineStop ..)
  · exact freed _

theorem interlockChanges (s : State) (i : Input) (l : Level) : Steady s (s.interlockChanges i l) := by
  unfold State.interlockChanges State.followLevel
  dsimp only
  have moved : Steady s { s with pins := { s.pins with interlocks := s.pins.interlocks.set i l } } :=
    of_fields rfl rfl rfl rfl id
  split
  · exact moved
  · split
    · exact (moved.trans (updInterlock ..)).trans (latch ..)
    · exact moved.trans (updInterlock ..)

theorem setInterlock (s : State) (n : Nat) (k : Option InterlockConfig) : Steady s (s.setInterlock n k).2 := by
  unfold State.setInterlock
  split
  · split
    · exact refl s
    · split
      · exact refl s
      · dsimp only
        split
        · exact ((unlatch ..).trans (updInterlock ..)).trans (latchIfLevel ..)
        · exact (updInterlock ..).trans (latchIfLevel ..)
  · exact refl s

theorem ackInterlock (s : State) (n : Nat) : Steady s (s.ackInterlock n).2 := by
  unfold State.ackInterlock
  split
  · exact refl s
  · dsimp only
    split
    · exact refl s
    · split
      · exact refl s
      · exact unlatch ..

/-! ### The eye and the millimetre -/

theorem trackingCause (s : State) (f : LineStopCauses → LineStopCauses) : Steady s (s.trackingCause f) :=
  (raise ..).trans (changeLineStop ..)

theorem risingEdge {s : State} (h : s.mode.active = true) : Steady s s.risingEdge := by
  unfold State.risingEdge
  split
  · exact trackingCause ..
  · have bound (rest : List StagingEntry) (track : List TrackRecord) (n : Nat) :
        Steady s { s with staging := rest, track := track, nextEntry := n } := of_active h h rfl rfl rfl rfl
    dsimp only
    split <;> exact (bound ..).trans (startOccasions _)

theorem examineEye (s : State) : Steady s s.examineEye := by
  unfold State.examineEye
  split
  · rename_i hs
    have ha : s.mode.active = true := by
      simp only [State.edgeAccepted, Bool.and_eq_true] at hs
      exact hs.1.1.1
    have seen : Steady s { s with conveyor := { s.conveyor with accepted := s.pins.eye, debounce := some 0 } } :=
      of_active ha ha rfl rfl rfl rfl
    dsimp only
    split
    · exact seen.trans (risingEdge ha)
    · exact seen.trans (mapTrack ..)
  · exact refl s

theorem eyeChanges (s : State) (l : Level) : Steady s (s.eyeChanges l) := by
  unfold State.eyeChanges
  split
  · exact refl s
  · exact (of_fields rfl rfl rfl rfl id : Steady s { s with pins := { s.pins with eye := l } }).trans (examineEye _)

theorem removeStall {s : State} (h : s.mode.active = true) : Steady s s.removeStall := by
  unfold State.removeStall
  dsimp only
  split
  · split
    · exact of_active h rfl rfl rfl rfl rfl
    · exact of_fields rfl rfl rfl rfl id
  · exact refl s

theorem growDebounce {s : State} (h : s.mode.active = true) : Steady s s.growDebounce := by
  unfold State.growDebounce
  dsimp only
  have grown : Steady s (s.updConveyor fun v => { v with debounce := debounceAfter v.debounce }) :=
    of_active h h rfl rfl rfl rfl
  split
  · exact grown.trans (examineEye _)
  · exact grown

theorem restartStall {s : State} (h : s.mode.active = true) : Steady s s.restartStall :=
  of_active h h rfl rfl rfl rfl

theorem advance {s : State} (h : s.mode.active = true) : Steady s s.advance := by
  have moved : Steady s s.moveRecords := of_active h h rfl rfl rfl rfl
  have judged (t : State) : Steady t t.judgeEyeStuck := by
    unfold State.judgeEyeStuck
    split
    · exact (mapTrack ..).trans (trackingCause ..)
    · exact refl t
  have departed (t : State) : Steady t t.judgeDepartures :=
    ((mapTrack ..).trans (of_work (.realign _) (.realign _))).trans (foldl leaveIfDone _ _)
  have tracked := ((moved.trans (judged _)).trans (departed _)).trans (startOccasions _)
  have ha := tracked.active.trans h
  have restarted := tracked.trans (restartStall ha)
  have removed := restarted.trans (removeStall (restarted.active.trans h))
  exact removed.trans (growDebounce (removed.active.trans h))

end Steady

end Sys2Proof.Machine
end

section
/-! PROOFS. O60, continued: requests, resets, the links, time; and what every command and every step keeps. -/

namespace Sys2Proof.Machine

/-! ### Commands and steps -/

/-- A request row is the arrival of its request (log 4). -/
theorem exec_of_request {i : Instr} {r : Request} (h : requestOf i = some r) (s : State) :
    exec i s = done (s.arriveRequest r) := by
  cases i <;> cases h <;> rfl

theorem done_eq_next {s t : State} : done s = .next t ↔ settle s = t := by simp [done]

theorem getElem?_getD_mem {l : List α} {a : α} (h : a ∈ l) (k : Nat) : (l[k]?).getD a ∈ l := by
  cases hk : l[k]? with
  | none => exact h
  | some b => exact List.mem_of_getElem? hk

/-- What an idle step chooses (logs 2, 3): a millisecond where nothing stands due, else one of the events that do, a
free value being spent where there are several. -/
theorem State.idleChoice_cases (s : State) :
    (s.due = [] ∧ s.idleChoice = (none, s)) ∨
    (∃ c, s.due = [c] ∧ s.idleChoice = (some c, s)) ∨
    (1 < s.due.length ∧ ∃ c ∈ s.due, s.idleChoice = (some c, { s with freeCount := s.freeCount + 1 })) := by
  unfold State.idleChoice
  match s.due with
  | [] => exact .inl ⟨rfl, rfl⟩
  | [c] => exact .inr (.inl ⟨c, rfl, rfl⟩)
  | c :: d :: rest => exact .inr (.inr ⟨by simp, _, getElem?_getD_mem List.mem_cons_self _, rfl⟩)

/-- What every command and every millisecond keeps, every step keeps; the queue and the free values do not matter. -/
theorem step_keeps {P : State → Prop} (queue : ∀ s l, P s → P { s with pending := l })
    (free : ∀ s n, P s → P { s with freeCount := n }) (ms : ∀ s, P s → P s.millisecond)
    (command : ∀ i s t, P s → exec i s = .next t → P t) {s t : State} (hs : P s) (h : step s = .next t) : P t := by
  unfold step at h
  split at h
  · exact command _ _ _ (queue s _ hs) h
  · rcases s.idleChoice_cases with ⟨-, e⟩ | ⟨c, -, e⟩ | ⟨-, c, -, e⟩ <;> rw [e] at h
    · cases h; exact ms s hs
    · exact command c s t hs h
    · exact command c _ t (free s _ hs) h

/-! ### Requests -/

theorem Steady.serveConfiguration (s : State) :
    (∀ x, Steady s (serveSetSegment x s).state) ∧ (∀ c f r, Steady s (serveSetLimits c f r s).state) ∧
    (∀ n r, Steady s (serveSetRecipe n r s).state) ∧ (∀ n, Steady s (serveClearRecipe n s).state) ∧
    ∀ n l, Steady s (serveSetRamp n l s).state := by
  have put (n : Nat) (r : Option Recipe) : Steady s (s.putRecipe n r) := by
    unfold State.putRecipe
    split <;> exact of_fields rfl rfl rfl rfl id
  refine ⟨fun x => ?_, fun c f r => ?_, fun n r => ?_, fun n => ?_, fun n l => ?_⟩
  · unfold serveSetSegment
    (repeat' split) <;> exact of_fields rfl rfl rfl rfl id
  · unfold serveSetLimits
    (repeat' split) <;> exact of_fields rfl rfl rfl rfl id
  · unfold serveSetRecipe
    split
    · exact refl s
    · split
      · exact refl s
      · exact put ..
  · unfold serveClearRecipe
    split
    · exact refl s
    · split
      · exact refl s
      · split
        · exact refl s
        · exact put ..
  · unfold serveSetRamp
    (repeat' split) <;> exact of_fields rfl rfl rfl rfl id

theorem Steady.serveArmChannels (l : List Nat) (s : State) : Steady s (serveArmChannels l s).state := by
  have armed (t : State) (c : Chan) : Steady t (t.armChannel c) := by
    unfold State.armChannel
    split
    · split
      · exact refl t
      · split
        · exact (of_work (.updGroup ..) (.of_track rfl)).trans (arbiter ..)
        · exact refl t
    · exact updChan ..
    all_goals exact refl t
  unfold Machine.serveArmChannels
  split
  · exact refl s
  · split
    · exact refl s
    · exact refl s
    · exact forList (fun c t => armed t c) _ s

theorem Steady.serveDisarmChannels (l : List Nat) (s : State) : Steady s (serveDisarmChannels l s).state := by
  have disarmed (t : State) (c : Chan) : Steady t (t.disarmChannel c) := by
    unfold State.disarmChannel
    split
    · exact of_work (.dequeue ..) (.of_track rfl)
    · exact of_work (.toDormant ..) (.toDormant ..)
    · exact of_work (.toDormant ..) (.toDormant ..)
    · exact beginDrain ..
    · exact updChan ..
    · exact refl t
  unfold Machine.serveDisarmChannels
  split
  · exact refl s
  · exact forList (fun c t => disarmed t c) _ s

theorem Steady.serveClearFault (l : List Nat) (s : State) : Steady s (serveClearFault l s).state := by
  have rested (t : State) : Steady t t.clearedRest.2 := by
    unfold State.clearedRest
    split <;> exact of_fields rfl rfl rfl rfl id
  have cleared (t : State) (c : Chan) : Steady t (t.clearFaultOf c) :=
    (rested t).trans (updChan t.clearedRest.2 c fun ch => { ch with state := .dormant, rest := t.clearedRest.1 })
  unfold Machine.serveClearFault
  split
  · exact refl s
  · exact refl s
  · exact forList (fun c t => cleared t c) _ s

theorem Steady.servePanels (s : State) :
    (∀ e, Steady s (serveAnnouncePanel e s).state) ∧ (∀ n, Steady s (serveWithdrawPanel n s).state) ∧
    (∀ n, Steady s (serveRemovePanel n s).state) ∧ (∀ n, Steady s (serveQueryPanel n s).state) ∧
    Steady s (serveCollectExit s).state := by
  have removed (r : TrackRecord) : Steady s (s.removeRecord r) := by
    unfold State.removeRecord
    split
    · exact refl s
    · exact ((mapTrack ..).trans (of_work (.realign _) (.realign _))).trans (leaveIfDone ..)
  refine ⟨fun e => ?_, fun n => ?_, fun n => ?_, fun n => ?_, ?_⟩
  · unfold serveAnnouncePanel
    (repeat' split) <;> exact of_fields rfl rfl rfl rfl id
  · unfold serveWithdrawPanel
    (repeat' split) <;> exact of_fields rfl rfl rfl rfl id
  · unfold serveRemovePanel
    split
    · exact refl s
    · split
      · exact refl s
      · split
        · exact refl s
        · exact removed _
  · unfold serveQueryPanel
    (repeat' split) <;> exact refl s
  · unfold serveCollectExit
    split
    · exact refl s
    · dsimp only
      have popped (l : List ExitRecord) : Steady s { s with exits := l } := of_fields rfl rfl rfl rfl id
      split
      · exact (popped _).trans (changeLineStop ..)
      · exact popped _

theorem Steady.serveMonitors (s : State) :
    (∀ n p, Steady s (serveSetMonitor n p s).state) ∧ (∀ o, Steady s (serveControlMonitor o s).state) ∧
    (∀ n, Steady s (serveReadAnode n s).state) ∧ (∀ n f r, Steady s (serveSetAnode n f r s).state) ∧
    ∀ n k, Steady s (serveQueryChannel n k s).state := by
  refine ⟨fun n p => ?_, fun o => ?_, fun n => ?_, fun n f r => ?_, fun n k => ?_⟩
  · unfold serveSetMonitor
    (repeat' split) <;> exact of_fields rfl rfl rfl rfl id
  · unfold serveControlMonitor
    (repeat' split) <;> exact of_fields rfl rfl rfl rfl id
  · unfold serveReadAnode
    split <;> exact refl s
  · unfold serveSetAnode
    split <;> exact of_fields rfl rfl rfl rfl id
  · unfold serveQueryChannel
    (repeat' split) <;> exact refl s

/-- Every request but SetProfile and SetMode is steady. -/
theorem Steady.serve {r : Request} (hp : ∀ p, r ≠ .setProfile p) (hm : ∀ m, r ≠ .setMode m) (s : State) :
    Steady s (serve r s).state := by
  obtain ⟨setSegment, setLimits, setRecipe, clearRecipe, setRamp⟩ := serveConfiguration s
  obtain ⟨announce, withdraw, remove, queryPanel, collect⟩ := servePanels s
  obtain ⟨setMonitor, control, readAnode, setAnode, queryChannel⟩ := serveMonitors s
  cases r with
  | setProfile p => exact absurd rfl (hp p)
  | setMode m => exact absurd rfl (hm m)
  | setSegment x => exact setSegment x
  | setLimits c f r => exact setLimits c f r
  | setRecipe n r => exact setRecipe n r
  | clearRecipe n => exact clearRecipe n
  | setRamp n l => exact setRamp n l
  | restart =>
    change Steady s (serveRestart s).state
    unfold serveRestart
    split <;> exact refl s
  | armChannels l => exact serveArmChannels l s
  | disarmChannels l => exact serveDisarmChannels l s
  | clearFault l => exact serveClearFault l s
  | announcePanel e => exact announce e
  | withdrawPanel id => exact withdraw id
  | removePanel n => exact remove n
  | queryPanel n => exact queryPanel n
  | collectExit => exact collect
  | setInterlock n k => exact setInterlock s n k
  | ackInterlock n => exact ackInterlock s n
  | clearLineStop => exact changeLineStop ..
  | setMonitor n p => exact setMonitor n p
  | controlMonitor o => exact control o
  | readMonitor => exact refl s
  | readAnode n => exact readAnode n
  | setAnode n f r => exact setAnode n f r
  | queryChannel n k => exact queryChannel n k
  | queryLine => exact refl s

/-- SetProfile puts a profile in its ranges in place, in OFFLINE (R3). -/
theorem conveyorInv_serveSetProfile {s : State} (h : s.conveyorInv = true) (p : Profile) :
    (serveSetProfile p s).state.conveyorInv = true := by
  unfold serveSetProfile
  split
  · exact h
  · split
    · rename_i hm hp
      have hi : p.inRange = true := by
        simp only [State.profileOk, Bool.and_eq_true] at hp
        exact hp.1.1
      have off : s.mode = .offline := not_not.1 hm
      obtain ⟨-, -, still, boot⟩ := State.conveyorInv_iff.1 h
      refine State.conveyorInv_iff.2 ⟨?_, ?_, still, boot⟩
      · rintro q ⟨⟩; exact hi
      · simp [taken, off, LineMode.active]
    · exact h

/-- The pulses of a millimetre are at least one (R2). -/
theorem Profile.pulsesPerMm_pos {p : Profile} (h : p.inRange = true) : 0 < p.pulsesPerMm := by
  simp only [Profile.inRange, Bool.and_eq_true, within, decide_eq_true_eq] at h
  omega

/-- Entry into RUN from OFFLINE starts the remainder and the backlash at 0 (R16). -/
theorem conveyorInv_offlineToRun {s : State} (h : s.conveyorInv = true) (hm : s.mode = .offline)
    (hp : s.profile.isSome = true) : s.offlineToRun.conveyorInv = true := by
  obtain ⟨range, -, -, boot⟩ := State.conveyorInv_iff.1 h
  obtain ⟨p, hp⟩ := Option.isSome_iff_exists.1 hp
  refine State.conveyorInv_iff.2 ⟨range, fun _ => ⟨?_, ?_, Nat.zero_le _⟩, ?_, ?_⟩
  · simp [State.offlineToRun, hp]
  · simpa [State.offlineToRun, State.prof, hp] using Profile.pulsesPerMm_pos (range p hp)
  · simp [State.offlineToRun, LineMode.active]
  · simpa [hm, State.offlineToRun] using boot

theorem Steady.holdToRun {s : State} (h : s.mode.active = true) : Steady s s.holdToRun :=
  of_active h rfl rfl rfl rfl rfl

theorem Steady.standbyToRun {s : State} (h : s.mode.active = true) : Steady s s.standbyToRun := by
  have first : Steady s (State.restartStall { s with mode := .run }) := of_active h rfl rfl rfl rfl rfl
  refine (first.trans (forChans (fun c t => ?_) _)).trans (startOccasions _)
  split
  · exact updChan ..
  · exact refl t

theorem Steady.runToHold {s : State} (h : s.mode.active = true) (causes : HoldCauses) :
    Steady s (s.runToHold causes) := by
  have first : Steady s { s with mode := .hold, holdCauses := causes } := of_active h rfl rfl rfl rfl rfl
  exact first.trans (startOccasions _)

theorem Steady.toStandby {s : State} (h : s.mode.active = true) : Steady s s.toStandby := by
  have first : Steady s { s with mode := .standby, holdCauses := HoldCauses.none } := of_active h rfl rfl rfl rfl rfl
  refine first.trans (forChans (fun c t => ?_) _)
  split
  · exact beginDrain ..
  · exact refl t

/-- Entry into OFFLINE stops the stall timer (R14, R153). -/
theorem conveyorInv_toOffline {s : State} (h : s.conveyorInv = true) (hm : s.mode ≠ .boot) (ht : s.track = []) :
    s.toOffline.conveyorInv = true := by
  obtain ⟨range, -, -, boot⟩ := State.conveyorInv_iff.1 h
  exact State.conveyorInv_iff.2 ⟨range, by simp [State.toOffline, LineMode.active], fun _ => ⟨ht, rfl⟩,
    .inl (boot.resolve_right hm)⟩

theorem conveyorInv_setModeRun {s : State} (h : s.conveyorInv = true) : s.setModeRun.2.conveyorInv = true := by
  unfold State.setModeRun
  split
  case h_1 hm =>
    split
    · exact h
    · rename_i hp
      split
      · exact h
      · refine conveyorInv_offlineToRun h hm ?_
        simp only [Bool.or_eq_true, not_or, Option.isNone_iff_eq_none] at hp
        exact Option.isSome_iff_ne_none.2 hp.1
  case h_2 => exact h
  case h_3 hm =>
    split
    · exact h
    · have command (x : HoldCauses) : Steady s { s with holdCauses := x } := .of_fields rfl rfl rfl rfl id
      dsimp only
      split
      · exact ((command _).trans (.holdToRun (by simp [hm, LineMode.active]))).conveyorInv h
      · exact (command _).conveyorInv h
  case h_4 hm =>
    split
    · exact h
    · dsimp only
      exact (Steady.standbyToRun (s := s) (by simp [hm, LineMode.active])).conveyorInv h
  case h_5 => exact h

theorem conveyorInv_setModeHold {s : State} (h : s.conveyorInv = true) : s.setModeHold.2.conveyorInv = true := by
  unfold State.setModeHold
  split
  case h_1 hm =>
    dsimp only
    exact (Steady.runToHold (s := s) (by simp [hm, LineMode.active]) _).conveyorInv h
  case h_2 =>
    have command (x : HoldCauses) : Steady s { s with holdCauses := x } := .of_fields rfl rfl rfl rfl id
    exact (command _).conveyorInv h
  all_goals exact h

theorem conveyorInv_setModeStandby {s : State} (h : s.conveyorInv = true) :
    s.setModeStandby.2.conveyorInv = true := by
  unfold State.setModeStandby
  split
  case h_1 hm =>
    dsimp only
    exact (Steady.toStandby (s := s) (by simp [hm, LineMode.active])).conveyorInv h
  case h_2 hm =>
    dsimp only
    exact (Steady.toStandby (s := s) (by simp [hm, LineMode.active])).conveyorInv h
  all_goals exact h

theorem conveyorInv_setModeOffline {s : State} (h : s.conveyorInv = true) :
    s.setModeOffline.2.conveyorInv = true := by
  have offline (hm : s.mode ≠ .boot) : (if (!s.track.isEmpty) = true then (ResultCode.trackNotEmpty, s)
      else if s.anyArmed = true then (.channelsArmed, s) else (.ok, s.toOffline)).2.conveyorInv = true := by
    split
    · exact h
    · split
      · exact h
      · rename_i ht _
        exact conveyorInv_toOffline h hm (by simpa using ht)
  unfold State.setModeOffline
  split
  case h_1 => exact h
  case h_5 => exact h
  all_goals rename_i hm; exact offline (by rw [hm]; decide)

theorem modeServed_state (x : ResultCode × State) : (modeServed x).state = x.2 := by
  unfold modeServed
  split <;> rfl

theorem conveyorInv_serve {s : State} (h : s.conveyorInv = true) (r : Request) :
    (serve r s).state.conveyorInv = true := by
  by_cases hp : ∃ p, r = .setProfile p
  · obtain ⟨p, rfl⟩ := hp
    exact conveyorInv_serveSetProfile h p
  by_cases hm : ∃ m, r = .setMode m
  · obtain ⟨m, rfl⟩ := hm
    change (serveSetMode m s).state.conveyorInv = true
    unfold serveSetMode
    split
    · exact h
    · rw [modeServed_state]; exact conveyorInv_setModeOffline h
    · rw [modeServed_state]; exact conveyorInv_setModeRun h
    · rw [modeServed_state]; exact conveyorInv_setModeHold h
    · rw [modeServed_state]; exact conveyorInv_setModeStandby h
  exact (Steady.serve (fun p e => hp ⟨p, e⟩) (fun m e => hm ⟨m, e⟩) s).conveyorInv h

/-! ### The links -/

theorem conveyorInv_takeRequest {s : State} (h : s.conveyorInv = true) (f : Frame) (r : Request) :
    (s.takeRequest f r).conveyorInv = true := by
  unfold State.takeRequest
  split
  · exact (Steady.updLink ..).conveyorInv h
  · exact (Steady.updLink ..).conveyorInv (conveyorInv_serve h r)

theorem conveyorInv_takeFrame {s : State} (h : s.conveyorInv = true) (f : Frame) :
    (s.takeFrame f).conveyorInv = true := by
  unfold State.takeFrame
  split
  · exact (Steady.updLink ..).conveyorInv h
  · exact conveyorInv_takeRequest h ..

theorem conveyorInv_meet {s : State} (h : s.conveyorInv = true) (f : Frame) {take : State → State}
    (ht : ∀ t : State, t.conveyorInv = true → (take t).conveyorInv = true) : (s.meet f take).conveyorInv = true := by
  unfold State.meet
  have hunting := (Steady.updLink s fun l => { l with receiver := .hunt, gap := 0 }).conveyorInv h
  split
  · exact h
  · dsimp only
    split
    · exact ht _ hunting
    · exact (Steady.updLink ..).conveyorInv hunting
    · exact hunting

theorem conveyorInv_arrive {s : State} (h : s.conveyorInv = true) (f : Frame) : (s.arrive f).conveyorInv = true :=
  conveyorInv_meet h f fun _ ht => conveyorInv_takeFrame ht f

theorem conveyorInv_takeByte {s : State} (h : s.conveyorInv = true) (b : Byte) :
    (s.takeByte b).conveyorInv = true := by
  have moved (r : Receiver) : (s.receive r).conveyorInv = true := (Steady.updLink ..).conveyorInv h
  unfold State.takeByte State.checkEnds
  split
  · exact h
  · split
    case h_5 =>
      split
      · split
        · exact conveyorInv_arrive h _
        · exact moved _
      · exact moved _
    all_goals exact moved _

/-! ### Resets and BOOT -/

/-- A state of BOOT with an empty track and a STOPPED stall timer. -/
theorem conveyorInv_of_boot {s t : State} (h : s.conveyorInv = true)
    (hp : t.profile = s.profile ∨ t.profile = none) (hm : t.mode = .boot) (ht : t.track = [])
    (hv : t.conveyor.stall = .stopped) : t.conveyorInv = true := by
  refine State.conveyorInv_iff.2 ⟨?_, by simp [hm, LineMode.active], fun _ => ⟨ht, hv⟩, .inr hm⟩
  rcases hp with hp | hp
  · rw [hp]; exact (State.conveyorInv_iff.1 h).1
  · simp [hp]

theorem conveyorInv_powersOn {s : State} (h : s.conveyorInv = true) : s.powersOn.conveyorInv = true := by
  unfold State.powersOn
  dsimp only
  split <;> exact conveyorInv_of_boot h (.inr rfl) rfl rfl rfl

theorem conveyorInv_restarts {s : State} (h : s.conveyorInv = true) : s.restarts.conveyorInv = true :=
  conveyorInv_of_boot h (.inl rfl) rfl rfl rfl

/-- The end of BOOT finds the track empty and the stall timer STOPPED, and goes on to OFFLINE (R148). -/
theorem conveyorInv_bootEnds {s : State} (h : s.conveyorInv = true) : s.bootEnds.conveyorInv = true := by
  unfold State.bootEnds
  split
  · rename_i hb
    obtain ⟨range, -, still, boot⟩ := State.conveyorInv_iff.1 h
    have hm : s.mode = .boot := boot.resolve_left (Option.isSome_iff_ne_none.1 hb)
    let u : State := { s with bootTimer := none, channels := mapVec Channel.settled s.channels, mode := .offline }
    have offline : u.conveyorInv = true :=
      State.conveyorInv_iff.2 ⟨range, by simp [u, LineMode.active], fun _ => still (by simp [hm, LineMode.active]), .inl rfl⟩
    have levels (t : State) : Steady t t.takeLevels := .foldl (fun t i => .updInterlock ..) _ t
    exact (((Steady.raise u _).trans (levels _)).trans (.foldl Steady.latchIfLevel _ _)).conveyorInv offline
  · exact h

theorem conveyorInv_transmitted {s : State} (h : s.conveyorInv = true) : s.transmitted.conveyorInv = true := by
  unfold State.transmitted
  split
  · exact h
  · exact (Steady.updLink ..).conveyorInv h
  · split
    · exact conveyorInv_restarts h
    · unfold State.replySent
      have sent := (Steady.updLink s fun l => { l with tx := .idle, inHand := none, held := none }).conveyorInv h
      dsimp only
      split
      · exact conveyorInv_takeFrame sent _
      · exact sent

/-! ### Pulses and the stall timer -/

/-- A forward pulse repays backlash, counts in the remainder below a millimetre's pulses, or completes one (R9). -/
theorem conveyorInv_takeForwardPulse {s : State} (h : s.conveyorInv = true) :
    s.takeForwardPulse.conveyorInv = true := by
  obtain ⟨range, tracking, -, boot⟩ := State.conveyorInv_iff.1 h
  unfold State.takeForwardPulse
  split
  · exact h
  · rename_i ha
    have ha : s.mode.active = true := by simpa using ha
    obtain ⟨hp, hr, hb⟩ := tracking ha
    have counts {n m : Nat} (hn : n < s.prof.pulsesPerMm) (hm : m ≤ s.backlashLimit) :
        State.conveyorInv { s with conveyor := { s.conveyor with remainder := n, backlash := m } } = true :=
      State.conveyorInv_iff.2 ⟨range, fun _ => ⟨hp, hn, hm⟩, fun hs => absurd hs (by simp [ha]), boot⟩
    split
    · have repaid := counts hr (Nat.le_trans (Nat.sub_le _ 1) hb)
      dsimp only
      split
      · exact (Steady.examineEye _).conveyorInv repaid
      · exact repaid
    · split
      · have completed : (s.updConveyor fun v => { v with remainder := 0 }).conveyorInv = true :=
          counts (Nat.zero_lt_of_lt hr) hb
        exact (Steady.advance (s := s.updConveyor fun v => { v with remainder := 0 }) ha).conveyorInv completed
      · exact counts (by omega) hb

/-- A reverse pulse raises the backlash up to its saturation (R10). -/
theorem conveyorInv_takeReversePulse {s : State} (h : s.conveyorInv = true) :
    s.takeReversePulse.conveyorInv = true := by
  obtain ⟨range, tracking, -, boot⟩ := State.conveyorInv_iff.1 h
  unfold State.takeReversePulse
  split
  · exact h
  · rename_i ha
    simp only [Bool.or_eq_true, Bool.not_eq_true', decide_eq_true_eq, not_or, Bool.not_eq_false, not_le] at ha
    obtain ⟨ha, hlt⟩ := ha
    obtain ⟨hp, hr, -⟩ := tracking ha
    have raised : State.conveyorInv (s.updConveyor fun v => { v with backlash := v.backlash + 1 }) = true :=
      State.conveyorInv_iff.2 ⟨range, fun _ => ⟨hp, hr, hlt⟩, fun hs => absurd hs (by simp [ha]), boot⟩
    dsimp only
    split
    · exact (Steady.trackingCause ..).conveyorInv raised
    · exact raised

/-- A stall timer runs only where the line tracks, so its expiry finds RUN, HOLD or STANDBY (R15). -/
theorem conveyorInv_stallExpires {s : State} (h : s.conveyorInv = true) : s.stallExpires.conveyorInv = true := by
  unfold State.stallExpires
  split
  · rename_i hn
    have ha : s.mode.active = true := by
      by_contra hs
      have := ((State.conveyorInv_iff.1 h).2.2.1 (by simpa using hs)).2
      simp [hn] at this
    have expired : Steady s (s.updConveyor fun v => { v with stall := .expired }) := .of_active ha ha rfl rfl rfl rfl
    dsimp only
    split
    · exact (expired.trans (.addHoldCause ..)).conveyorInv h
    · exact expired.conveyorInv h
  · exact h

/-! ### Time -/

theorem conveyorInv_millisecond {s : State} (h : s.conveyorInv = true) : s.millisecond.conveyorInv = true := by
  refine (Steady.holdMillisecond _).conveyorInv ?_
  obtain ⟨range, tracking, still, boot⟩ := State.conveyorInv_iff.1 h
  refine State.conveyorInv_iff.2 ⟨range, tracking, fun hs => ?_, ?_⟩
  · obtain ⟨ht, hv⟩ := still hs
    simp [State.timersTick, ht, hv, StallTimer.tick]
  · exact boot.imp (fun hb => by simp [State.timersTick, hb, countDown]) id

/-! ### Every command, every step -/

theorem conveyorInv_done {s t : State} (hs : s.conveyorInv = true) (h : done s = .next t) : t.conveyorInv = true :=
  done_eq_next.1 h ▸ (Steady.settle s).conveyorInv hs

theorem conveyorInv_exec (i : Instr) (s t : State) (hs : s.conveyorInv = true) (h : exec i s = .next t) :
    t.conveyorInv = true := by
  cases hr : requestOf i with
  | some r =>
    rw [exec_of_request hr] at h
    exact conveyorInv_done (conveyorInv_meet hs _ fun _ ht => conveyorInv_takeRequest ht ..) h
  | none =>
    have strapped (b : BitRate) : (s.strapped b).conveyorInv = true :=
      (Steady.of_fields rfl rfl rfl rfl id : Steady s (s.strapped b)).conveyorInv hs
    have steady {u : State} (hu : Steady s u) (h : done u = .next t) := conveyorInv_done (hu.conveyorInv hs) h
    cases i with
    | powerOn b => exact conveyorInv_done (conveyorInv_powersOn (strapped b)) h
    | resetLineActive =>
      have held : s.resetHolds.conveyorInv = true := conveyorInv_of_boot hs (.inl rfl) rfl rfl rfl
      exact conveyorInv_done held h
    | resetLineRelease b =>
      refine conveyorInv_done ?_ h
      split
      · exact conveyorInv_of_boot hs (.inl rfl) rfl rfl rfl
      · exact hs
    | restartTakesEffect b =>
      refine conveyorInv_done ?_ h
      split
      · exact conveyorInv_restarts (strapped b)
      · exact hs
    | bootEnd => exact conveyorInv_done (conveyorInv_bootEnds hs) h
    | presenceReply c =>
      refine steady ?_ h
      unfold State.takePresence
      split
      · exact .updChan ..
      · exact .refl s
    | forwardPulse => exact conveyorInv_done (conveyorInv_takeForwardPulse hs) h
    | reversePulse => exact conveyorInv_done (conveyorInv_takeReversePulse hs) h
    | eyeChange l => exact steady (.eyeChanges s l) h
    | stallTimerExpiry => exact conveyorInv_done (conveyorInv_stallExpires hs) h
    | phaseIntervalEnd n => exact steady (.phaseIntervalEnds s n) h
    | phaseBoundary n => exact steady (.phaseBoundaryComes s n) h
    | channelIntervalEnd c => exact steady (.channelIntervalEnds s c) h
    | periodEnd c => exact steady (.periodEnds s c) h
    | zeroTimerExpiry c => exact steady (.zeroTimerEnds s c) h
    | loneZeroRetryExpiry c => exact steady (.retryEnds s c) h
    | periodReport c r => exact steady (.takeReport s c r) h
    | reportWindowClose c => exact steady (.windowCloses s c) h
    | armReport c n => exact steady (.takeArmReport s c n) h
    | armingTimeout c => exact steady (.armingExpires s c) h
    | contactorRestEnd c => exact steady (.restEnds s c) h
    | armingSpacingReached g => exact steady (.spacingReached s g) h
    | interlockInputChange i l => exact steady (.interlockChanges s i l) h
    | frameReceived k p => exact conveyorInv_done (conveyorInv_arrive hs _) h
    | interByteGap => exact steady (.updLink ..) h
    | framingError => exact steady (.updLink ..) h
    | transmitComplete => exact conveyorInv_done (conveyorInv_transmitted hs) h
    | badKind k =>
      refine conveyorInv_done ?_ h
      split
      · exact conveyorInv_arrive hs _
      · exact hs
    | receivedByte b => exact conveyorInv_done (conveyorInv_takeByte hs b) h
    | moduleOrderSent =>
      have sent : Steady s s.orderSent := .of_fields rfl rfl rfl rfl id
      exact steady sent h
    | holdDwellMillisecond => exact steady (.holdMillisecond s) h
    | _ => cases hr

/-- Settles O60: every step keeps the conveyor's invariant, command by command; most events are steady, and the pulses,
the resets, SetProfile, SetMode and the millisecond are looked at one by one. -/
theorem stepKeepsConveyorInv : Obligations.StepKeepsConveyorInv := by
  unfold Obligations.StepKeepsConveyorInv
  intro s t hs h
  exact step_keeps (P := fun u => u.conveyorInv = true)
    (fun u _ hu => (Steady.of_fields rfl rfl rfl rfl id : Steady u _).conveyorInv hu)
    (fun u _ hu => (Steady.of_fields rfl rfl rfl rfl id : Steady u _).conveyorInv hu)
    (fun _ hu => conveyorInv_millisecond hu) conveyorInv_exec hs h

end Sys2Proof.Machine
end

section
/-! PROOFS. The machine's operations as parts of an event: samples, start occasions, the eye. Each part leaves both
links to its orders and notices. -/

namespace Sys2Proof.Machine

/-! ### Settled states and the end of an event -/

theorem State.settled_of_links {s t : State} (h : s.settled = true) (hl : t.link = s.link)
    (hm : t.moduleLink = s.moduleLink) : t.settled = true := by
  simpa [State.settled, hl, hm] using h

/-- With no orders the module link stays, and no report window opens. -/
theorem State.issued_nil {s : State} (h : s.settled = true) : s.issued [] = s := by
  unfold State.issued State.sent
  rw [sortOrders_nil, ModuleLink.ordering_nil (State.settled_iff.1 h).2.1]
  cases s.moduleLink.sending <;> rfl

/-- With no notices the line link stays. -/
theorem State.raised_nil {s : State} (h : s.settled = true) : s.raised [] = s := by
  have : s.link.raising s.snapshot [] = s.link := by
    obtain ⟨-, -, idle⟩ := State.settled_iff.1 h
    unfold LineLink.raising
    dsimp only [List.foldl_nil]
    split
    · rename_i ht hn
      simp [(idle ht).2] at hn
    · rfl
  rw [State.raised, this]

theorem Effects.ended_of_noOrders {e : Effects} (h : e.state.settled = true) (ho : e.orders = []) :
    e.ended = e.state.raised e.notices := by
  rw [Effects.ended, ho, State.issued_nil h]

theorem State.quiet_ended {s : State} (h : s.settled = true) : s.quiet.ended = s := by
  rw [Effects.ended_of_noOrders (by exact h) rfl]
  exact State.raised_nil h

/-- A part of an event leaves both links as they stood. -/
def LeavesLinks (f : State → Effects) : Prop :=
  ∀ s, (f s).state.link = s.link ∧ (f s).state.moduleLink = s.moduleLink

namespace LeavesLinks

theorem andThen {f g : State → Effects} (hf : LeavesLinks f) (hg : LeavesLinks g) :
    LeavesLinks fun s => (f s).andThen g := fun s =>
  ⟨(hg _).1.trans (hf s).1, (hg _).2.trans (hf s).2⟩

theorem each {f : α → State → Effects} (hf : ∀ a, LeavesLinks (f a)) : ∀ (l : List α) (e : Effects),
    (e.each l f).state.link = e.state.link ∧ (e.each l f).state.moduleLink = e.state.moduleLink
  | [], _ => ⟨rfl, rfl⟩
  | a :: l, e =>
    have ih := each hf l (e.andThen (f a))
    ⟨ih.1.trans (hf a _).1, ih.2.trans (hf a _).2⟩

theorem settled {f : State → Effects} (hf : LeavesLinks f) {s : State} (h : s.settled = true) :
    (f s).state.settled = true := State.settled_of_links h (hf s).1 (hf s).2

/-- A command that does what a part says ends as the part says. -/
theorem done {f : State → Effects} (hf : LeavesLinks f) {s t : State} (h : s.settled = true)
    (ht : t = (s.quiet.andThen f).live) : done t = .next (f s).ended := by
  have he : s.quiet.andThen f = f s := rfl
  exact done_live (hf.settled h) (he ▸ ht)

end LeavesLinks

/-! ### Samples -/

/-- The monitor after a sample of a channel (R174, R178). -/
def Monitor.sampled (m : Monitor) (c : Chan) (x : Sample) : Monitor :=
  if m.frozen then m
  else ⟨mapVec (fun k => k.sample c x) m.counters, m.counters.toList.any fun k => k.freezes c x⟩

@[simp] theorem State.sample_monitor (s : State) (c : Chan) (x : Sample) :
    (s.sample c x).monitor = s.monitor.sampled c x := by
  unfold State.sample Monitor.sampled
  split
  · rfl
  · dsimp only; split <;> rfl

theorem Monitor.sampled_frozen {m : Monitor} {c : Chan} {x : Sample} (h : m.frozen = true) :
    (m.sampled c x).frozen = true := by simp [Monitor.sampled, h]

/-- The monitor after samples of several channels is reached through the monitor alone. -/
theorem State.foldl_sample_monitor (x : Sample) : ∀ (l : List Chan) (s : State),
    (l.foldl (fun t c => t.sample c x) s).monitor = l.foldl (fun m c => m.sampled c x) s.monitor
  | [], _ => rfl
  | c :: l, s => by
    rw [List.foldl_cons, List.foldl_cons, foldl_sample_monitor x l, State.sample_monitor]

theorem Monitor.foldl_sampled_frozen (x : Sample) : ∀ (l : List Chan) (m : Monitor), m.frozen = true →
    (l.foldl (fun m c => m.sampled c x) m).frozen = true
  | [], _, h => h
  | c :: l, m, h => foldl_sampled_frozen x l (m.sampled c x) (Monitor.sampled_frozen h)

@[simp] theorem monitorNotice_self (m : Monitor) : monitorNotice m m = [] := by simp [monitorNotice]

/-- Of several samples the one that freezes the monitor raises the notice (R178). -/
theorem monitorNotice_trans {a b c : Monitor} (h : a.frozen = true → b.frozen = true)
    (k : b.frozen = true → c.frozen = true) :
    monitorNotice a b ++ monitorNotice b c = monitorNotice a c := by
  unfold monitorNotice
  cases ha : a.frozen <;> cases hb : b.frozen <;> cases hc : c.frozen <;> simp_all

/-- A sample as a part of an event. -/
def State.sampling (c : Chan) (x : Sample) (s : State) : Effects :=
  ⟨{ s with monitor := s.monitor.sampled c x }, [], monitorNotice s.monitor (s.monitor.sampled c x)⟩

theorem sample_live (e : Effects) (c : Chan) (x : Sample) :
    e.live.sample c x = (e.andThen (State.sampling c x)).live := by
  unfold State.sample State.sampling Monitor.sampled monitorNotice Effects.andThen
  change (if e.state.monitor.frozen = true then _ else
    if (e.state.monitor.counters.toList.any fun k => k.freezes c x) = true then _ else _) = _
  generalize hz : e.state.monitor.counters.toList.any (fun k => k.freezes c x) = z
  rw [Vector.any_toList] at hz
  by_cases hf : e.state.monitor.frozen = true
  · simp [hf]
  · cases z <;> simp [hf, hz, Effects.live, State.raise]

/-! ### Start occasions -/

/-- The channels after a start occasion of those in a list. -/
def State.channelsStarted (s : State) (l : List Chan) : Vector Channel 40 :=
  Vector.ofFn fun i : Fin 40 => if i ∈ l then s.looked i (s.chan i) else s.chan i

/-- The monitor after a start occasion of the channels in a list: each run that starts is a sample (R174). -/
def State.monitorStarted (s : State) (l : List Chan) : Monitor :=
  (l.filter fun c => (s.runStarts c (s.chan c)).isSome).foldl (fun m c => m.sampled c .alignEntry) s.monitor

theorem State.runsStarted_eq (s : State) (l : List Chan) : s.runsStarted l =
    { s with channels := s.channelsStarted l, monitor := s.monitorStarted l } := by
  rw [State.runsStarted, State.foldl_sample_monitor, State.channelsStarted, State.monitorStarted]

theorem State.channelsStarted_get (s : State) (l : List Chan) (c : Chan) :
    (s.channelsStarted l)[c] = if c ∈ l then s.looked c (s.chan c) else s.chan c := by
  simp [State.channelsStarted]

@[simp] theorem State.runsStarted_channels (s : State) (l : List Chan) :
    (s.runsStarted l).channels = s.channelsStarted l := by rw [State.runsStarted_eq]

@[simp] theorem State.runsStarted_monitor (s : State) (l : List Chan) :
    (s.runsStarted l).monitor = s.monitorStarted l := by rw [State.runsStarted_eq]

@[simp] theorem State.runsStarted_link (s : State) (l : List Chan) : (s.runsStarted l).link = s.link := by
  rw [State.runsStarted_eq]

@[simp] theorem State.runsStarted_moduleLink (s : State) (l : List Chan) :
    (s.runsStarted l).moduleLink = s.moduleLink := by rw [State.runsStarted_eq]

theorem State.runsStarted_chan (s : State) (l : List Chan) (c : Chan) :
    (s.runsStarted l).chan c = if c ∈ l then s.looked c (s.chan c) else s.chan c := by
  rw [State.chan_def, State.runsStarted_channels, State.channelsStarted_get]

/-- A run starts on a READY channel alone (R63). -/
theorem State.runStarts_of_not_ready {s : State} {c : Chan} {ch : Channel} (h : ch.state ≠ .ready) :
    s.runStarts c ch = none := by simp [State.runStarts, h]

theorem State.looked_of_none {s : State} {c : Chan} {ch : Channel} (h : s.runStarts c ch = none) :
    s.looked c ch = ch := by simp [State.looked, h]

theorem State.runsStarted_chan_of_not_ready {s : State} {l : List Chan} {c : Chan}
    (h : (s.chan c).state ≠ .ready) : (s.runsStarted l).chan c = s.chan c := by
  rw [State.runsStarted_chan, State.looked_of_none (State.runStarts_of_not_ready h), ite_self]

/-- Two states that agree on every channel hold the same channels. -/
theorem State.channels_ext {v w : Vector Channel 40} (h : ∀ c : Chan, v[c] = w[c]) : v = w :=
  Vector.ext fun i hi => h ⟨i, hi⟩

/-- Where no run starts, a start occasion changes nothing. -/
theorem State.runsStarted_of_none {s : State} {l : List Chan}
    (h : ∀ c ∈ l, s.runStarts c (s.chan c) = none) : s.runsStarted l = s := by
  have hc : s.channelsStarted l = s.channels := State.channels_ext fun c => by
    rw [State.channelsStarted_get]
    split
    · rename_i hl
      rw [State.looked_of_none (h c hl), State.chan_def]
    · rw [State.chan_def]
  have hm : s.monitorStarted l = s.monitor := by
    have : (l.filter fun c => (s.runStarts c (s.chan c)).isSome) = [] :=
      List.filter_eq_nil_iff.2 fun c hl => by simp [h c hl]
    rw [State.monitorStarted, this, List.foldl_nil]
  rw [State.runsStarted_eq, hc, hm]

/-- A start occasion of one channel looks at that channel alone. -/
theorem State.runsStarted_single {s : State} {c : Chan} {g : Nat} (h : s.runStarts c (s.chan c) = some g) :
    s.runsStarted [c] =
    { s with
      channels := s.channels.set c (s.looked c (s.chan c))
      monitor := s.monitor.sampled c .alignEntry } := by
  have hc : s.channelsStarted [c] = s.channels.set c (s.looked c (s.chan c)) := by
    refine State.channels_ext fun d => (s.channelsStarted_get [c] d).trans ?_
    by_cases hd : d = c
    · subst hd; simp
    · have : (c : Nat) ≠ d := fun e => hd (Fin.ext e.symm)
      simp [hd, this, State.chan]
  have hm : s.monitorStarted [c] = s.monitor.sampled c .alignEntry := by simp [State.monitorStarted, h]
  rw [State.runsStarted_eq, hc, hm]

theorem State.runStarts_of_channels (s : State) (v : Vector Channel 40) (m : Monitor) (c : Chan) (ch : Channel) :
    ({ s with channels := v, monitor := m } : State).runStarts c ch = s.runStarts c ch := rfl

/-- Whether a run starts on a channel is read from that channel and from what no start occasion changes. -/
theorem State.runStarts_runsStarted (s : State) (l : List Chan) (c : Chan) (ch : Channel) :
    (s.runsStarted l).runStarts c ch = s.runStarts c ch := by
  rw [State.runsStarted_eq, State.runStarts_of_channels]

theorem State.looked_runsStarted (s : State) (l : List Chan) (c : Chan) (ch : Channel) :
    (s.runsStarted l).looked c ch = s.looked c ch := by
  rw [State.looked, State.runStarts_runsStarted, State.looked]

/-- The start occasions of a list are those of its first channel, then those of the rest. -/
theorem State.runsStarted_cons (s : State) {c : Chan} {l : List Chan} (h : c ∉ l) :
    (s.runsStarted [c]).runsStarted l = s.runsStarted (c :: l) := by
  have other {d : Chan} (hd : d ∈ l) : (s.runsStarted [c]).chan d = s.chan d := by
    have : d ≠ c := fun e => h (e ▸ hd)
    rw [State.runsStarted_chan]; simp [this]
  have hc : (s.runsStarted [c]).channelsStarted l = s.channelsStarted (c :: l) := by
    refine State.channels_ext fun d => ?_
    rw [State.channelsStarted_get, State.channelsStarted_get, State.looked_runsStarted]
    by_cases hd : d ∈ l
    · simp [hd, other hd]
    · simp [hd, State.runsStarted_chan]
  have hm : (s.runsStarted [c]).monitorStarted l = s.monitorStarted (c :: l) := by
    have : (l.filter fun d => ((s.runsStarted [c]).runStarts d ((s.runsStarted [c]).chan d)).isSome) =
        l.filter fun d => (s.runStarts d (s.chan d)).isSome := by
      refine List.filter_congr fun d hd => ?_
      rw [other hd, State.runStarts_runsStarted]
    rw [State.monitorStarted, this, State.runsStarted_monitor, State.monitorStarted, State.monitorStarted]
    cases hr : (s.runStarts c (s.chan c)).isSome <;> simp [hr]
  rw [State.runsStarted_eq _ l, hc, hm, State.runsStarted_eq s (c :: l), State.runsStarted_eq s [c]]

theorem State.runsStarted_frozen {s : State} {l : List Chan} (h : s.monitor.frozen = true) :
    (s.runsStarted l).monitor.frozen = true := by
  rw [State.runsStarted_monitor]
  exact Monitor.foldl_sampled_frozen _ _ _ h

theorem LeavesLinks.started (l : List Chan) : LeavesLinks (State.started l) := fun s =>
  ⟨s.runsStarted_link l, s.runsStarted_moduleLink l⟩

theorem started_cons {c : Chan} {l : List Chan} (h : c ∉ l) (e : Effects) :
    (e.andThen (State.started [c])).andThen (State.started l) = e.andThen (State.started (c :: l)) := by
  have notices : monitorNotice e.state.monitor (e.state.runsStarted [c]).monitor ++
      monitorNotice (e.state.runsStarted [c]).monitor (e.state.runsStarted (c :: l)).monitor =
      monitorNotice e.state.monitor (e.state.runsStarted (c :: l)).monitor :=
    monitorNotice_trans State.runsStarted_frozen fun k =>
      State.runsStarted_cons e.state h ▸ State.runsStarted_frozen k
  unfold Effects.andThen State.started
  dsimp only
  rw [State.runsStarted_cons _ h, List.append_assoc e.notices, notices]
  simp

/-- Start occasions one after another are those of the list. -/
theorem each_started : ∀ {l : List Chan}, l.Nodup → ∀ e : Effects,
    e.each l (fun c => State.started [c]) = e.andThen (State.started l)
  | [], _, e => by
    have : e.state.runsStarted [] = e.state := State.runsStarted_of_none (by simp)
    simp [Effects.andThen, State.started, this]
  | c :: l, h, e => by
    obtain ⟨hc, hl⟩ := List.nodup_cons.1 h
    rw [Effects.each_cons, each_started hl, started_cons hc]

/-- A start occasion of a channel is a run where one starts, and nothing else. -/
theorem State.startOccasion_eq (s : State) (c : Chan) : s.startOccasion c =
    match s.runStarts c (s.chan c) with
    | some _ => State.sample { s with channels := s.channels.set c (s.looked c (s.chan c)) } c .alignEntry
    | none => s := by
  unfold State.startOccasion
  have hm : s.mayStart c = true ↔ (s.chan c).state = .ready ∧ (s.mode = .run ∨ s.mode = .hold) ∧
      s.inhibited c = false ∧ (s.chan c).loneZero = false := by
    simp [State.mayStart, and_assoc]
  by_cases h : s.mayStart c = true
  · rw [if_pos h]
    have hr : s.runStarts c (s.chan c) = s.governorRule c := by rw [State.runStarts, if_pos (hm.1 h)]
    rw [State.looked, hr]
    cases s.governorRule c with
    | none => rfl
    | some g => simp [State.toAlign, State.updChan, Channel.zeroed, State.chan]
  · rw [if_neg h]
    have hr : s.runStarts c (s.chan c) = none := by rw [State.runStarts, if_neg fun k => h (hm.2 k)]
    rw [hr]

theorem startOccasion_live (e : Effects) (c : Chan) :
    e.live.startOccasion c = (e.andThen (State.started [c])).live := by
  rw [State.startOccasion_eq, show e.live.runStarts c (e.live.chan c) = e.state.runStarts c (e.state.chan c) from rfl]
  cases h : e.state.runStarts c (e.state.chan c) with
  | none =>
    have : e.state.runsStarted [c] = e.state := State.runsStarted_of_none (by simpa using h)
    simp [Effects.andThen, State.started, this]
  | some g =>
    let u : Effects := { e with state := { e.state with
      channels := e.state.channels.set c (e.state.looked c (e.state.chan c)) } }
    have run : State.started [c] e.state = State.sampling c .alignEntry u.state := by
      rw [State.started, State.runsStarted_single h]
      rfl
    change u.live.sample c .alignEntry = _
    rw [sample_live, Effects.andThen, Effects.andThen, run]

/-- Start occasions of all channels, in increasing number (R63, log 15). -/
theorem startOccasions_live (e : Effects) :
    e.live.startOccasions = (e.andThen (State.started Chan.all)).live := by
  unfold State.startOccasions State.forChans
  rw [Effects.live_each (f := fun c => State.started [c]) (step := fun s c => s.startOccasion c)
    (fun c e => startOccasion_live e c), each_started (show Chan.all.Nodup from List.nodup_finRange 40)]

/-! ### The eye -/

theorem trackingCause_live (e : Effects) (f : LineStopCauses → LineStopCauses) :
    e.live.trackingCause f = (e.andThen fun s =>
      ⟨{ s with lineStop := f s.lineStop }, [], .tracking :: lineStopNotice s.lineStop (f s.lineStop)⟩).live := by
  rw [State.trackingCause, raise_live, changeLineStop_live]
  simp [Effects.andThen]

theorem LeavesLinks.risen : LeavesLinks State.risen := by
  intro s
  unfold State.risen
  split
  · exact LeavesLinks.started _ _
  · exact ⟨rfl, rfl⟩

theorem LeavesLinks.fallen : LeavesLinks State.fallen := fun _ => ⟨rfl, rfl⟩

theorem LeavesLinks.eyeSeen : LeavesLinks State.eyeSeen := by
  intro s
  unfold State.eyeSeen
  split
  · dsimp only
    split
    · exact LeavesLinks.risen _
    · exact LeavesLinks.fallen _
  · exact ⟨rfl, rfl⟩

/-- A rising edge with room on the track and a panel announced binds that panel (R23). -/
theorem State.risingEdge_announced {s : State} {x : StagingEntry} {rest : List StagingEntry}
    (h : s.track.length < 32) (hs : s.staging = x :: rest) : s.risingEdge = State.startOccasions
      { s with
        staging := rest
        track := s.track ++ [s.boundRecord x]
        nextEntry := nextEntryAfter s.nextEntry } := by
  rw [State.risingEdge, if_neg (by simpa [Config.trackCapacity] using h)]
  simp only [hs]

/-- With room and no panel announced it binds an unannounced record (R24). -/
theorem State.risingEdge_unannounced {s : State} (h : s.track.length < 32) (hs : s.staging = []) :
    s.risingEdge = State.startOccasions
      { s with track := s.track ++ [s.unannouncedRecord], nextEntry := nextEntryAfter s.nextEntry } := by
  rw [State.risingEdge, if_neg (by simpa [Config.trackCapacity] using h)]
  simp only [hs]

theorem State.risen_announced {s : State} {x : StagingEntry} {rest : List StagingEntry}
    (h : s.track.length < 32) (hs : s.staging = x :: rest) : s.risen = State.started Chan.all
      { s with
        staging := rest
        track := s.track ++ [s.boundRecord x]
        nextEntry := nextEntryAfter s.nextEntry } := by
  rw [State.risen, if_pos h]
  simp only [hs]
  rfl

theorem State.risen_unannounced {s : State} (h : s.track.length < 32) (hs : s.staging = []) :
    s.risen = State.started Chan.all
      { s with track := s.track ++ [s.unannouncedRecord], nextEntry := nextEntryAfter s.nextEntry } := by
  rw [State.risen, if_pos h]
  simp only [hs]
  rw [← hs]
  rfl

theorem State.risen_full {s : State} (h : 32 ≤ s.track.length) : s.risen =
    ⟨{ s with lineStop := { s.lineStop with trackFull := true } }, [],
      .tracking :: lineStopNotice s.lineStop { s.lineStop with trackFull := true }⟩ := by
  rw [State.risen, if_neg (by omega)]

theorem risingEdge_live (e : Effects) : e.live.risingEdge = (e.andThen State.risen).live := by
  by_cases h : e.state.track.length < 32
  · cases hs : e.state.staging with
    | nil =>
      let u : Effects := { e with state := { e.state with
        track := e.state.track ++ [e.state.unannouncedRecord], nextEntry := nextEntryAfter e.state.nextEntry } }
      rw [State.risingEdge_unannounced (s := e.live) h hs, Effects.andThen, State.risen_unannounced h hs]
      exact startOccasions_live u
    | cons x rest =>
      let u : Effects := { e with state := { e.state with
        staging := rest, track := e.state.track ++ [e.state.boundRecord x]
        nextEntry := nextEntryAfter e.state.nextEntry } }
      rw [State.risingEdge_announced (s := e.live) h hs, Effects.andThen, State.risen_announced h hs]
      exact startOccasions_live u
  · have h : 32 ≤ e.state.track.length := by omega
    rw [State.risingEdge, if_pos (by exact h), trackingCause_live, Effects.andThen, Effects.andThen, State.risen_full h]

end Sys2Proof.Machine
end

section
/-! PROOFS. The eye filter as a part of an event; O13, O12, O8 and O14. -/

namespace Sys2Proof.Machine

/-! ### The eye filter -/

/-- The difference of two lengths passes the tolerance on one side or on the other (R26). -/
theorem measure_eq (eye tolerance : Nat) (r : TrackRecord) : measure eye tolerance r =
    { r with
      measured := some (r.position - eye)
      lengthMismatch := r.lengthMismatch ||
        r.announced.any fun a =>
          decide (a + tolerance < r.position - eye) || decide (r.position - eye + tolerance < a)
      state := .onLine } := by
  have apart (m a : Nat) : decide (tolerance < difference m a) =
      (decide (a + tolerance < m) || decide (m + tolerance < a)) := by
    rw [← Bool.decide_or, decide_eq_decide, difference]
    omega
  simp only [measure, apart]

theorem State.fallingEdge_eq (s : State) : s.fallingEdge = s.fallen.state := by
  simp only [State.fallingEdge, State.fallen, State.quiet, measure_eq]

theorem fallingEdge_live (e : Effects) : e.live.fallingEdge = (e.andThen State.fallen).live := by
  rw [State.fallingEdge_eq]
  simp only [State.fallen, State.quiet, Effects.andThen, List.append_nil]
  rfl

/-- The state in which an accepted edge takes effect (R12). -/
def State.edgeTaken (s : State) : State :=
  { s with conveyor := { s.conveyor with accepted := s.pins.eye, debounce := some 0 } }

/-- When an edge is accepted (R12). -/
theorem State.edgeAccepted_iff {s : State} : s.edgeAccepted = true ↔
    s.mode.active = true ∧ s.conveyor.backlash = 0 ∧
      (s.conveyor.debounce = none ∨ s.conveyor.debounce = some 3) ∧ s.pins.eye ≠ s.conveyor.accepted := by
  unfold State.edgeAccepted
  cases s.conveyor.debounce with
  | none => simp [and_assoc]
  | some n =>
    have travelled : decide (n = Config.debounceMm) = true ↔ n = 3 := decide_eq_true_iff
    simp only [Bool.and_eq_true, Option.all_some, travelled, decide_eq_true_eq, Option.some.injEq, reduceCtorEq,
      false_or, and_assoc]

theorem State.examineEye_refused {s : State} (h : s.edgeAccepted = false) : s.examineEye = s := by
  simp [State.examineEye, h]

theorem State.eyeSeen_refused {s : State} (h : s.edgeAccepted = false) : s.eyeSeen = s.quiet := by
  rw [State.eyeSeen, if_neg fun k => by simp [State.edgeAccepted_iff.2 k] at h]

theorem State.eyeSeen_rising {s : State} (h : s.edgeAccepted = true) (hl : s.pins.eye = .high) :
    s.eyeSeen = s.edgeTaken.risen := by
  rw [State.eyeSeen, if_pos (State.edgeAccepted_iff.1 h)]
  simp only [hl, State.edgeTaken]

theorem State.eyeSeen_falling {s : State} (h : s.edgeAccepted = true) (hl : s.pins.eye = .low) :
    s.eyeSeen = s.edgeTaken.fallen := by
  rw [State.eyeSeen, if_pos (State.edgeAccepted_iff.1 h)]
  simp only [hl, State.edgeTaken]

theorem examineEye_live (e : Effects) : e.live.examineEye = (e.andThen State.eyeSeen).live := by
  by_cases h : e.state.edgeAccepted = true
  · have hm : e.live.edgeAccepted = true := h
    let u : Effects := { e with state := e.state.edgeTaken }
    have taken : e.live.examineEye = match e.state.pins.eye with
        | .high => u.live.risingEdge
        | .low => u.live.fallingEdge := by
      rw [State.examineEye, if_pos hm]
      rfl
    rw [taken]
    cases hl : e.state.pins.eye with
    | high =>
      rw [Effects.andThen, State.eyeSeen_rising h hl]
      exact risingEdge_live u
    | low =>
      rw [Effects.andThen, State.eyeSeen_falling h hl]
      exact fallingEdge_live u
  · have h : e.state.edgeAccepted = false := by simpa using h
    rw [State.examineEye_refused (s := e.live) h, Effects.andThen, State.eyeSeen_refused h]
    simp

/-- Examining the eye of a settled state ends as the statements say. -/
theorem done_examineEye {s t : State} (h : t.settled = true) (hs : s = t.examineEye) :
    done s = .next t.eyeSeen.ended := by
  refine LeavesLinks.eyeSeen.done h ?_
  rw [← examineEye_live, State.quiet_live, hs]

/-- Settles O13: an accepted falling edge is the eye filter's fall, any other change is refused by the filter, and an
unchanged level is no change. -/
theorem fallingEdgeMeasures : Obligations.FallingEdgeMeasures := by
  unfold Obligations.FallingEdgeMeasures
  intro s h
  have moved (l : Level) : State.settled { s with pins := { s.pins with eye := l } } = true := h
  refine ⟨fun l hl => ?_, fun l hl hr => ?_, fun he ha hm hb hd => ?_⟩
  · change done (s.eyeChanges l) = _
    rw [State.eyeChanges, if_pos hl, done, settle_of_settled h]
  · change done (s.eyeChanges l) = _
    have refused : State.edgeAccepted { s with pins := { s.pins with eye := l } } = false := by
      rw [Bool.eq_false_iff]
      intro k
      obtain ⟨hm, hb, hd, ha⟩ := State.edgeAccepted_iff.1 k
      rcases hr with hr | hr | hr | ⟨n, hn, h3⟩
      · simp_all
      · exact absurd hb (Nat.ne_of_gt hr)
      · exact ha hr.symm
      · simp_all
    rw [State.eyeChanges, if_neg hl, State.examineEye_refused refused, done, settle_of_settled (moved l)]
  · have accepted : State.edgeAccepted { s with pins := { s.pins with eye := .low } } = true :=
      State.edgeAccepted_iff.2 ⟨hm, hb, hd, by simp [ha]⟩
    have hc : s.eyeChanges .low = State.examineEye { s with pins := { s.pins with eye := .low } } := by
      rw [State.eyeChanges, if_neg (by simp [he])]
    change done (s.eyeChanges .low) = _
    rw [done_examineEye (moved .low) hc, State.eyeSeen_falling accepted rfl]
    exact congrArg Host.Outcome.next (State.quiet_ended (by exact h))

/-- Settles O12: the accepted edge is the eye filter's rise, with room on the track the start occasions after the
binding, and without room TRACK_FULL. -/
theorem risingEdgeBinds : Obligations.RisingEdgeBinds := by
  unfold Obligations.RisingEdgeBinds
  intro s h hm hb hd he ha clock high binds
  let up : State := { s with pins := { s.pins with eye := .high } }
  have settled : up.settled = true := h
  have accepted : up.edgeAccepted = true := State.edgeAccepted_iff.2 ⟨hm, hb, hd, by simp [up, ha]⟩
  have hc : s.eyeChanges .high = up.examineEye := by rw [State.eyeChanges, if_neg (by simp [he])]
  have seen : exec (.eyeChange .high) s = .next (high.risen).ended := by
    change done (s.eyeChanges .high) = _
    rw [done_examineEye settled hc, State.eyeSeen_rising accepted rfl]
    rfl
  have started {u : State} (hu : u.settled = true) : (State.started Chan.all u).ended =
      (u.runsStarted Chan.all).raised (monitorNotice u.monitor (u.runsStarted Chan.all).monitor) :=
    Effects.ended_of_noOrders ((LeavesLinks.started _).settled hu) rfl
  refine ⟨fun room => ⟨fun e rest hs => ⟨?_, fun c hc => ?_⟩, fun hs => ⟨?_, fun c hc => ?_⟩⟩, fun full => ?_⟩
  · rw [seen, State.risen_announced (s := high) room hs, started (by exact h)]
    rfl
  · exact State.runsStarted_chan_of_not_ready hc
  · rw [seen, State.risen_unannounced (s := high) room hs, started (by exact h)]
    rw [show high.staging = [] from hs]
    rfl
  · exact State.runsStarted_chan_of_not_ready hc
  · rw [seen, State.risen_full (s := high) full, Effects.ended_of_noOrders (by exact h) rfl]

end Sys2Proof.Machine
end

section
/-! PROOFS. Pulses and the stall timer, case by case (R9, R10, R15); O8 and O14. -/

namespace Sys2Proof.Machine

/-! ### What a pulse does -/

theorem State.takeForwardPulse_inactive {s : State} (h : s.mode.active = false) : s.takeForwardPulse = s := by
  simp [State.takeForwardPulse, h]

/-- A forward pulse repays backlash beyond its last millimetre pulse. -/
theorem State.takeForwardPulse_repays {s : State} (h : s.mode.active = true) (hb : 1 < s.conveyor.backlash) :
    s.takeForwardPulse = { s with conveyor := { s.conveyor with backlash := s.conveyor.backlash - 1 } } := by
  have h0 : 0 < s.conveyor.backlash := by omega
  have h1 : s.conveyor.backlash ≠ 1 := by omega
  simp only [State.takeForwardPulse, h, h0, h1, Bool.not_true, Bool.false_eq_true, if_false, if_true]
  rfl

/-- The last pulse of backlash lets the eye be examined (R13). -/
theorem State.takeForwardPulse_repaid {s : State} (h : s.mode.active = true) (hb : s.conveyor.backlash = 1) :
    s.takeForwardPulse = State.examineEye { s with conveyor := { s.conveyor with backlash := 0 } } := by
  simp only [State.takeForwardPulse, h, hb, Bool.not_true, Bool.false_eq_true, if_false, if_true, zero_lt_one,
    State.updConveyor, Nat.sub_self]

theorem State.takeForwardPulse_counts {s : State} (h : s.mode.active = true) (hb : s.conveyor.backlash = 0)
    (hr : s.conveyor.remainder + 1 ≠ s.prof.pulsesPerMm) :
    s.takeForwardPulse = { s with conveyor := { s.conveyor with remainder := s.conveyor.remainder + 1 } } := by
  simp only [State.takeForwardPulse, h, hb, hr, Bool.not_true, Bool.false_eq_true, if_false, lt_self_iff_false,
    State.updConveyor]

/-- A forward pulse that completes a millimetre is an advance event (R9, R11). -/
theorem State.takeForwardPulse_completes {s : State} (h : s.mode.active = true) (hb : s.conveyor.backlash = 0)
    (hr : s.conveyor.remainder + 1 = s.prof.pulsesPerMm) :
    s.takeForwardPulse = State.advance { s with conveyor := { s.conveyor with remainder := 0 } } := by
  simp only [State.takeForwardPulse, h, hb, hr, Bool.not_true, Bool.false_eq_true, if_false, if_true,
    lt_self_iff_false, State.updConveyor]

theorem State.takeReversePulse_discarded {s : State}
    (h : s.mode.active = false ∨ 2000 * s.prof.pulsesPerMm ≤ s.conveyor.backlash) : s.takeReversePulse = s := by
  have : (!s.mode.active || decide (s.backlashLimit ≤ s.conveyor.backlash)) = true := by
    simp only [Bool.or_eq_true, Bool.not_eq_true', decide_eq_true_eq]
    exact h
  rw [State.takeReversePulse, if_pos this]

/-- The state in which a reverse pulse has been counted (R10). -/
def State.reversed (s : State) : State :=
  { s with conveyor := { s.conveyor with backlash := s.conveyor.backlash + 1 } }

theorem State.takeReversePulse_taken {s : State} (h : s.mode.active = true)
    (hb : s.conveyor.backlash < 2000 * s.prof.pulsesPerMm) : s.takeReversePulse =
      if s.conveyor.backlash + 1 = 2000 * s.prof.pulsesPerMm then
        s.reversed.trackingCause fun l => { l with reverseLimit := true }
      else s.reversed := by
  have : ¬ (!s.mode.active || decide (s.backlashLimit ≤ s.conveyor.backlash)) = true := by
    simp only [h, Bool.not_true, Bool.false_or, decide_eq_true_eq]
    exact Nat.not_le_of_lt hb
  rw [State.takeReversePulse, if_neg this]
  rfl

/-- A tracking cause set in a settled state, with the notices it brings (R170). -/
theorem done_trackingCause {s : State} (h : s.settled = true) (f : LineStopCauses → LineStopCauses) :
    done (s.trackingCause f) = .next (State.raised { s with lineStop := f s.lineStop }
      (.tracking :: lineStopNotice s.lineStop (f s.lineStop))) := by
  have part : LeavesLinks fun s : State =>
      ⟨{ s with lineStop := f s.lineStop }, [], .tracking :: lineStopNotice s.lineStop (f s.lineStop)⟩ :=
    fun _ => ⟨rfl, rfl⟩
  have he := trackingCause_live s.quiet f
  rw [State.quiet_live] at he
  rw [part.done h he, Effects.ended_of_noOrders (part.settled h) rfl]

/-- Settles O8, one kind of pulse after another. -/
theorem pulsesWithoutAdvance : Obligations.PulsesWithoutAdvance := by
  unfold Obligations.PulsesWithoutAdvance
  intro s h
  have forward : exec .forwardPulse s = done s.takeForwardPulse := rfl
  have reverse : exec .reversePulse s = done s.takeReversePulse := rfl
  have repaid : State.settled { s with conveyor := { s.conveyor with backlash := 0 } } = true := h
  refine ⟨fun hm => ⟨?_, ?_⟩, fun hm => ⟨fun hb => ?_, fun hb => ?_, fun hb hr => ?_, fun hb => ?_, fun hb => ?_,
    fun hb => ?_⟩⟩
  · rw [forward, State.takeForwardPulse_inactive hm, done, settle_of_settled h]
  · rw [reverse, State.takeReversePulse_discarded (.inl hm), done, settle_of_settled h]
  · rcases hb with hb | ⟨hb, he⟩
    · rw [forward, State.takeForwardPulse_repays hm hb]
      exact done_of_links h rfl rfl
    · have refused : State.edgeAccepted { s with conveyor := { s.conveyor with backlash := 0 } } = false := by
        rw [Bool.eq_false_iff]
        exact fun k => (State.edgeAccepted_iff.1 k).2.2.2 he
      rw [forward, State.takeForwardPulse_repaid hm hb, State.examineEye_refused refused, done,
        settle_of_settled repaid, hb]
  · rw [forward, done_examineEye repaid (State.takeForwardPulse_repaid hm hb)]
  · rw [forward, State.takeForwardPulse_counts hm hb hr]
    exact done_of_links h rfl rfl
  · rw [reverse, State.takeReversePulse_taken hm (by omega), if_neg (by omega)]
    exact done_of_links h rfl rfl
  · rw [reverse, State.takeReversePulse_discarded (.inr hb), done, settle_of_settled h]
  · rw [reverse, State.takeReversePulse_taken hm (by omega), if_pos hb, done_trackingCause (by exact h)]
    rfl

/-! ### The stall timer -/

/-- The stall timer's expiry in RUN as a part of an event: STALL, the entry into HOLD with its start occasions, and
LINE_MODE (R15, R151, R158). -/
def State.stalled (s : State) : Effects :=
  let t := State.runsStarted
    { s with
      conveyor := { s.conveyor with stall := .expired }
      mode := .hold
      holdCauses := { s.holdCauses with stall := true } } Chan.all
  ⟨t, [], monitorNotice s.monitor t.monitor ++ [.lineMode]⟩

theorem LeavesLinks.stalled : LeavesLinks State.stalled := fun _ =>
  ⟨State.runsStarted_link _ _, State.runsStarted_moduleLink _ _⟩

theorem State.stallExpires_of_not_running {s : State} (h : ∀ n, s.conveyor.stall ≠ .running n) :
    s.stallExpires = s := by
  unfold State.stallExpires
  split
  · rename_i hn
    exact absurd hn (h _)
  · rfl

theorem State.stallExpires_of_not_run {s : State} {n : Nat} (h : s.conveyor.stall = .running n)
    (hm : s.mode ≠ .run) : s.stallExpires = { s with conveyor := { s.conveyor with stall := .expired } } := by
  unfold State.stallExpires
  rw [h]
  dsimp only
  split
  · rename_i hr
    exact absurd hr hm
  · rfl

theorem State.stallExpires_run {s : State} {n : Nat} (h : s.conveyor.stall = .running n) (hm : s.mode = .run) :
    s.stallExpires = (s.quiet.andThen State.stalled).live := by
  let u : State :=
    { s with
      conveyor := { s.conveyor with stall := .expired }
      mode := .hold
      holdCauses := { s.holdCauses with stall := true } }
  have entered : s.stallExpires = (State.startOccasions u).raise .lineMode := by
    unfold State.stallExpires State.addHoldCause State.updConveyor
    rw [h]
    dsimp only
    rw [hm]
    rfl
  have started := startOccasions_live u.quiet
  rw [State.quiet_live] at started
  rw [entered, started, raise_live]
  rfl

/-- Settles O14: a timer that runs expires, and in RUN the line enters HOLD. -/
theorem stallTimerExpires : Obligations.StallTimerExpires := by
  unfold Obligations.StallTimerExpires
  intro s h
  have expiry : exec .stallTimerExpiry s = done s.stallExpires := rfl
  refine ⟨fun hn => ?_, fun n hn => ⟨fun hm => ?_, fun hm => ⟨?_, fun c hc => ?_⟩⟩⟩
  · rw [expiry, State.stallExpires_of_not_running hn, done, settle_of_settled h]
  · rw [expiry, State.stallExpires_of_not_run hn hm]
    exact done_of_links h rfl rfl
  · rw [expiry, LeavesLinks.stalled.done h (State.stallExpires_run hn hm),
      Effects.ended_of_noOrders (LeavesLinks.stalled.settled h) rfl]
    rfl
  · exact State.runsStarted_chan_of_not_ready hc

end Sys2Proof.Machine
end

section
/-! PROOFS. The parts of an advance event (R11, in the order of log 17), one law for each; O9. -/

namespace Sys2Proof.Machine

/-! ### Parts after parts -/

theorem Effects.andThen_assoc (e : Effects) (f g : State → Effects) :
    (e.andThen f).andThen g = e.andThen fun s => (f s).andThen g := by
  simp [Effects.andThen, List.append_assoc]

/-- A loop of parts after a part is a loop after both. -/
theorem Effects.andThen_each (f : α → State → Effects) : ∀ (l : List α) (e : Effects) (g : State → Effects),
    (e.andThen fun s => (g s).each l f) = (e.andThen g).each l f
  | [], _, _ => rfl
  | a :: l, e, g => by
    have := andThen_each f l e fun s => (g s).andThen (f a)
    rw [Effects.each_cons, Effects.andThen_assoc, ← this]
    rfl

/-- A loop whose every part is quiet is quiet. -/
theorem Effects.each_of_quiet {f : α → State → Effects} {s : State} : ∀ {l : List α},
    (∀ a ∈ l, f a s = s.quiet) → s.quiet.each l f = s.quiet
  | [], _ => rfl
  | a :: l, h => by
    rw [Effects.each_cons, show s.quiet.andThen (f a) = f a s from rfl, h a List.mem_cons_self]
    exact each_of_quiet fun b hb => h b (List.mem_cons_of_mem _ hb)

/-! ### Entries into READY and ALIGN -/

/-- A channel takes what a function of its record gives, with the orders to it. -/
def State.putChannel (c : Chan) (f : Channel → Channel × List OrderBody) (s : State) : Effects :=
  ⟨{ s with channels := s.channels.set c (f (s.chan c)).1 }, ordersTo c (f (s.chan c)).2, []⟩

theorem LeavesLinks.putChannel (c : Chan) (f : Channel → Channel × List OrderBody) :
    LeavesLinks (State.putChannel c f) := fun _ => ⟨rfl, rfl⟩

theorem State.set_chan (s : State) (c : Chan) : s.channels.set c (s.chan c) = s.channels := by
  simp [State.chan]

/-- A lone Zero Order where it falls due (R80). -/
theorem loneZeroIfDue_live (e : Effects) (c : Chan) :
    e.live.loneZeroIfDue c = (e.andThen (State.putChannel c Channel.asking)).live := by
  unfold State.loneZeroIfDue State.putChannel Channel.asking Effects.andThen
  dsimp only
  rw [show e.live.chan c = e.state.chan c from rfl]
  split
  · simp [Effects.live, State.order, State.updChan, ordersTo, State.chan]
  · simp [ordersTo, State.set_chan]

/-- Entry into READY: the lone Zero Order, then a start occasion (R63, R80). -/
theorem toReady_live (e : Effects) (c : Chan) : e.live.toReady c =
    ((e.andThen (State.putChannel c Channel.readied)).andThen (State.started [c])).live := by
  let ready (ch : Channel) : Channel := { ch with state := .ready, period := .idle, forward := 0, reverse := 0 }
  let u : Effects := { e with state := { e.state with channels := e.state.channels.set c (ready (e.state.chan c)) } }
  have asked : u.andThen (State.putChannel c Channel.asking) = e.andThen (State.putChannel c Channel.readied) := by
    simp [u, Effects.andThen, State.putChannel, Channel.readied, ready, State.chan]
  change (u.live.loneZeroIfDue c).startOccasion c = _
  rw [loneZeroIfDue_live, startOccasion_live, asked]

/-- Entry into ALIGN: zero setpoints and an ALIGN-entry sample (R65, R93, R174). -/
theorem toAlign_live (e : Effects) (c : Chan) (g : Nat) : e.live.toAlign c g =
    ((e.andThen (State.putChannel c fun ch =>
      ({ ch with period := .align g, forward := 0, reverse := 0 }, []))).andThen
        (State.sampling c .alignEntry)).live := by
  rw [← sample_live]
  simp [State.toAlign, State.putChannel, Effects.andThen, ordersTo, Channel.zeroed, Effects.live, State.updChan,
    State.chan]

/-- The governor rule reads no channel. -/
theorem State.governorRule_of_channels (s : State) (v : Vector Channel 40) (c : Chan) :
    ({ s with channels := v } : State).governorRule c = s.governorRule c := rfl

theorem State.runStarts_of_no_governor {s : State} {c : Chan} {ch : Channel} (h : s.governorRule c = none) :
    s.runStarts c ch = none := by simp [State.runStarts, h]

/-- The governor rule's outcome for a channel with no period in flight (R65, R66, R67). -/
theorem takeRule_live (e : Effects) (c : Chan) : e.live.takeRule c none = (e.andThen (State.ruled c)).live := by
  unfold State.takeRule
  rw [show e.live.governorRule c = e.state.governorRule c from rfl]
  cases h : e.state.governorRule c with
  | none =>
    have ruled : State.ruled c e.state = State.putChannel c Channel.readied e.state := by
      simp [State.ruled, h, State.putChannel]
    have still (v : Vector Channel 40) : State.started [c] { e.state with channels := v } =
        State.quiet { e.state with channels := v } := by
      have none : ∀ d ∈ [c], ({ e.state with channels := v } : State).runStarts d
          (({ e.state with channels := v } : State).chan d) = none := by
        simp only [List.mem_singleton, forall_eq]
        exact State.runStarts_of_no_governor (by rw [State.governorRule_of_channels, h])
      simp [State.started, State.runsStarted_of_none none, State.quiet]
    rw [toReady_live]
    simp [Effects.andThen, ruled, State.putChannel, still]
  | some g =>
    change (if none = some g then e.live.startPeriod c g else e.live.toAlign c g) = _
    rw [if_neg (by simp), toAlign_live]
    simp only [State.ruled, State.sampling, State.putChannel, Effects.andThen, h, State.sample_monitor, ordersTo,
      List.map_nil, List.append_nil]

/-! ### What each part of an advance event does -/

theorem judgeEyeStuck_live (e : Effects) : e.live.judgeEyeStuck = (e.andThen State.stuckSeen).live := by
  have seen (s : State) : s.stuckSeen = if s.track.any s.eyeStuck then
      ⟨{ s with
        track := s.track.map fun r => if s.eyeStuck r then { r with state := .onLine, provisionalLength := true } else r
        lineStop := { s.lineStop with eyeStuck := true } }, [],
        .tracking :: lineStopNotice s.lineStop { s.lineStop with eyeStuck := true }⟩
      else s.quiet := rfl
  unfold State.judgeEyeStuck
  change (if e.state.track.any e.state.eyeStuck = true then _ else _) = _
  by_cases h : e.state.track.any e.state.eyeStuck = true
  · let judge (r : TrackRecord) : TrackRecord :=
      if e.state.eyeStuck r then { r with state := .onLine, provisionalLength := true } else r
    let u : Effects := { e with state := { e.state with track := e.state.track.map judge } }
    rw [if_pos h, Effects.andThen, seen, if_pos h]
    exact trackingCause_live u _
  · rw [if_neg h, Effects.andThen, seen, if_neg h]
    simp

theorem LeavesLinks.stuckSeen : LeavesLinks State.stuckSeen := by
  intro s
  unfold State.stuckSeen
  dsimp only
  split <;> exact ⟨rfl, rfl⟩

/-- A channel's turn when records have departed (R67). -/
def State.reawait (s : State) (c : Chan) : State :=
  match (s.chan c).period with
  | .align g => if (s.find g).any (·.departing) then s.takeRule c none else s
  | _ => s

theorem State.realign_eq (s : State) : s.realign = Chan.all.foldl State.reawait s := rfl

theorem reawait_live (e : Effects) (c : Chan) : e.live.reawait c = (e.andThen (State.reawaits c)).live := by
  unfold State.reawait Effects.andThen State.reawaits
  rw [show e.live.chan c = e.state.chan c from rfl]
  cases (e.state.chan c).period with
  | align g =>
    dsimp only
    rw [show e.live.find g = e.state.find g from rfl]
    split
    · exact takeRule_live e c
    · simp
  | idle => simp
  | delivering p => simp

theorem realign_live (e : Effects) : e.live.realign = (e.each Chan.all State.reawaits).live := by
  rw [State.realign_eq]
  exact Effects.live_each (fun c e => reawait_live e c) Chan.all e

theorem LeavesLinks.reawaits (c : Chan) : LeavesLinks (State.reawaits c) := by
  intro s
  have ruled : (State.ruled c s).state.link = s.link ∧ (State.ruled c s).state.moduleLink = s.moduleLink := by
    unfold State.ruled
    split <;> exact ⟨rfl, rfl⟩
  unfold State.reawaits
  split
  · split
    · exact ruled
    · exact ⟨rfl, rfl⟩
  · exact ⟨rfl, rfl⟩

theorem LeavesLinks.left (entry : Nat) : LeavesLinks (State.left entry) := by
  intro s
  unfold State.left
  split
  · exact ⟨rfl, rfl⟩
  · split <;> exact ⟨rfl, rfl⟩

/-- The records that have passed out are DEPARTING, with cause PASSED (R28, R33). -/
def State.passing (s : State) : State :=
  { s with track := s.track.map fun r => if s.passedOut r then r.depart .passed else r }

theorem State.departed_eq (s : State) : s.departed =
    (s.passing.quiet.each Chan.all State.reawaits).each ((s.track.filter s.passedOut).map (·.entry)) State.left := rfl

theorem judgeDepartures_live (e : Effects) : e.live.judgeDepartures = (e.andThen State.departed).live := by
  let u : Effects := { e with state := e.state.passing }
  have departed : e.andThen State.departed =
      (u.each Chan.all State.reawaits).each ((e.state.track.filter e.state.passedOut).map (·.entry)) State.left := by
    have hu : u.andThen State.quiet = u := by simp [Effects.andThen]
    have start := Effects.andThen_each State.reawaits Chan.all u State.quiet
    rw [hu] at start
    rw [← start]
    exact Effects.andThen_each State.left _ u fun s => s.quiet.each Chan.all State.reawaits
  rw [departed, ← Effects.live_each (f := State.left) (step := State.leaveIfDone)
    (fun entry e => leaveIfDone_live e entry), ← realign_live]
  rfl

theorem LeavesLinks.departed : LeavesLinks State.departed := by
  intro s
  rw [State.departed_eq]
  have first := LeavesLinks.each LeavesLinks.reawaits Chan.all s.passing.quiet
  have second := LeavesLinks.each LeavesLinks.left ((s.track.filter s.passedOut).map (·.entry))
    (s.passing.quiet.each Chan.all State.reawaits)
  exact ⟨second.1.trans first.1, second.2.trans first.2⟩

theorem mapVec_eq_map {n : Nat} (f : α → α) (v : Vector α n) : mapVec f v = v.map f := by
  ext i hi
  simp [mapVec]

theorem stallCleared_live (e : Effects) :
    e.live.restartStall.removeStall = (e.andThen State.stallCleared).live := by
  have running : (Channel.whenRunning fun ch => { ch with index := 0 }) =
      fun ch : Channel => if ch.state = .running then { ch with index := 0 } else ch := rfl
  unfold State.removeStall Effects.andThen State.stallCleared
  change (if e.state.holdCauses.stall = true then _ else _) = _
  rcases hc : e.state.holdCauses with ⟨stall, command, interlock⟩
  cases stall with
  | false =>
    have still : ({ e.state.holdCauses with stall := false } : HoldCauses) = e.state.holdCauses := by rw [hc]
    simp [Effects.live, State.restartStall, hc, State.quiet]
    rfl
  | true =>
    cases command <;> cases interlock <;>
      simp [Effects.live, State.restartStall, State.holdToRun, State.raise, hc, HoldCauses.isEmpty, mapVec_eq_map,
        running, State.quiet] <;> rfl

theorem LeavesLinks.stallCleared : LeavesLinks State.stallCleared := by
  intro s
  unfold State.stallCleared
  dsimp only
  split <;> exact ⟨rfl, rfl⟩

theorem travelled_live (e : Effects) : e.live.growDebounce = (e.andThen State.travelled).live := by
  let u : Effects := { e with state := e.state.updConveyor fun v => { v with debounce := debounceAfter v.debounce } }
  have seen (s : State) : s.travelled = if s.conveyor.debounce = some 2 then
      State.eyeSeen (s.updConveyor fun v => { v with debounce := debounceAfter v.debounce })
      else State.quiet (s.updConveyor fun v => { v with debounce := debounceAfter v.debounce }) := rfl
  have grown : e.live.growDebounce = if e.state.conveyor.debounce = some 2 then u.live.examineEye else u.live := rfl
  rw [grown, Effects.andThen, seen]
  split
  · exact examineEye_live u
  · simp [State.quiet, u]

theorem LeavesLinks.travelled : LeavesLinks State.travelled := by
  intro s
  unfold State.travelled
  dsimp only
  split
  · exact LeavesLinks.eyeSeen _
  · exact ⟨rfl, rfl⟩

/-! ### The advance event -/

/-- The records have moved, and the remainder starts again (R9, R29). -/
def State.moved (s : State) : State :=
  { s with
    track := moveTrack (s.prof.lineLength + 1500) none s.track
    conveyor := { s.conveyor with remainder := 0 } }

theorem State.advanced_eq (s : State) : s.advanced =
    (((s.moved.stuckSeen.andThen State.departed).andThen (State.started Chan.all)).andThen
      State.stallCleared).andThen State.travelled := rfl

theorem advance_live (s : State) :
    State.advance { s with conveyor := { s.conveyor with remainder := 0 } } = s.advanced.live := by
  have moved : s.moved.quiet.andThen State.stuckSeen = s.moved.stuckSeen := rfl
  rw [State.advanced_eq, ← travelled_live, ← stallCleared_live, ← startOccasions_live, ← judgeDepartures_live, ← moved,
    ← judgeEyeStuck_live, State.quiet_live]
  rfl

theorem LeavesLinks.advanced : LeavesLinks State.advanced := fun s =>
  ((((LeavesLinks.stuckSeen.andThen .departed).andThen (.started _)).andThen .stallCleared).andThen .travelled) s.moved

/-- A forward pulse that completes a millimetre ends as the parts of the advance event say (R9, R11). -/
theorem exec_forwardPulse_advance {s : State} (h : s.settled = true) (hm : s.mode.active = true)
    (hb : s.conveyor.backlash = 0) (hr : s.conveyor.remainder + 1 = s.prof.pulsesPerMm) :
    exec .forwardPulse s = .next s.advanced.ended := by
  change done s.takeForwardPulse = _
  rw [State.takeForwardPulse_completes hm hb hr]
  exact done_live (LeavesLinks.advanced.settled h) (advance_live s)

end Sys2Proof.Machine
end

section
/-! PROOFS. An advance event in which no part finds anything to do; O9. -/

namespace Sys2Proof.Machine

/-- A record after a millimetre is a record of before, moved by a millimetre or withheld (R29). -/
theorem mem_moveTrack {limit : Nat} {r : TrackRecord} : ∀ {l : List TrackRecord} {ahead : Option Nat},
    r ∈ moveTrack limit ahead l → ∃ t ∈ l, r = t ∨ r = { t with position := t.position + 1 }
  | [], _, h => by simp [moveTrack] at h
  | t :: l, ahead, h => by
    have later {a : Option Nat} (k : r ∈ moveTrack limit a l) :
        ∃ u ∈ t :: l, r = u ∨ r = { u with position := u.position + 1 } := by
      obtain ⟨u, hu, e⟩ := mem_moveTrack k
      exact ⟨u, List.mem_cons_of_mem _ hu, e⟩
    unfold moveTrack at h
    split at h
    · rcases List.mem_cons.1 h with rfl | k
      · exact ⟨r, List.mem_cons_self, .inl rfl⟩
      · exact later k
    · rcases List.mem_cons.1 h with rfl | k
      · exact ⟨t, List.mem_cons_self, .inr rfl⟩
      · exact later k

theorem State.mem_of_find {s : State} {g : Nat} {r : TrackRecord} (h : s.find g = some r) :
    r ∈ s.track ∧ r.entry = g :=
  ⟨List.mem_of_find?_eq_some h, by simpa using List.find?_some h⟩

/-! ### Parts with nothing to do -/

theorem State.stuckSeen_quiet {s : State}
    (h : ∀ r ∈ s.track, ¬ (r.state = .entering ∧ s.prof.eye + 1500 + s.prof.tolerance < r.position)) :
    s.stuckSeen = s.quiet := by
  unfold State.stuckSeen
  refine if_neg ?_
  simp only [List.any_eq_true, Bool.and_eq_true, decide_eq_true_eq, not_exists, not_and]
  exact fun r hr he hp => h r hr ⟨he, hp⟩

theorem State.departed_quiet {s : State}
    (h : ∀ r ∈ s.track, r.departing = true ∨
      r.position < s.prof.lineLength + s.effective r ∧ r.position < s.prof.lineLength + 1500)
    (awaits : ∀ c g, (s.chan c).period = .align g → ∀ r, s.find g = some r → r.departing = false) :
    s.departed = s.quiet := by
  have inside : ∀ r ∈ s.track, s.passedOut r = false := by
    intro r hr
    have hp := h r hr
    unfold State.passedOut Config.overrunMm
    rcases hd : r.departing with - | -
    · simp only [hd, Bool.false_eq_true, false_or] at hp
      simp only [Bool.not_false, Bool.true_and, Bool.or_eq_false_iff, decide_eq_false_iff_not]
      omega
    · rfl
  have passing : s.passing = s := by
    have : (s.track.map fun r => if s.passedOut r then r.depart .passed else r) = s.track := by
      conv_rhs => rw [← List.map_id s.track]
      exact List.map_congr_left fun r hr => by simp [inside r hr]
    rw [State.passing, this]
  have leaving : s.track.filter s.passedOut = [] :=
    List.filter_eq_nil_iff.2 fun r hr => by simp [inside r hr]
  have waiting (c : Chan) : State.reawaits c s = s.quiet := by
    unfold State.reawaits
    split
    · rename_i g hg
      refine if_neg ?_
      simp only [Option.any_eq_true, not_exists, not_and, Bool.not_eq_true]
      exact fun r hr => awaits c g hg r hr
    · rfl
  rw [State.departed_eq, passing, leaving, Effects.each_of_quiet fun c _ => waiting c]
  rfl

theorem State.started_quiet {s : State} {l : List Chan} (h : ∀ c ∈ l, s.runStarts c (s.chan c) = none) :
    s.started l = s.quiet := by
  rw [State.started, State.runsStarted_of_none h, monitorNotice_self]
  rfl

theorem State.stallCleared_quiet {s : State} (h : s.holdCauses.stall = false) :
    s.stallCleared = State.quiet { s with conveyor := { s.conveyor with stall := .running s.prof.stallTime } } := by
  have cause : s.holdCauses ≠ ⟨true, false, false⟩ := fun k => by simp [k] at h
  have still : ({ s.holdCauses with stall := false } : HoldCauses) = s.holdCauses := by rw [← h]
  rw [State.stallCleared, if_neg cause, still]

theorem State.travelled_quiet {s : State} (h : s.conveyor.debounce ≠ some 2 ∨ s.pins.eye = s.conveyor.accepted) :
    s.travelled = State.quiet { s with conveyor := { s.conveyor with
      debounce := s.conveyor.debounce.map fun n => if n < 3 then n + 1 else n } } := by
  unfold State.travelled
  dsimp only
  split
  · rename_i hd
    refine State.eyeSeen_refused ?_
    rw [Bool.eq_false_iff]
    exact fun k => (State.edgeAccepted_iff.1 k).2.2.2 (h.resolve_left (not_not.2 hd))
  · rfl

/-- Settles O9: the parts of the advance event one after another; with nothing to do for any of them each is quiet. -/
theorem advanceMovesTrack : Obligations.AdvanceMovesTrack := by
  unfold Obligations.AdvanceMovesTrack
  intro s h hm hb hr
  refine ⟨exec_forwardPulse_advance h hm hb hr, fun place starts awaits stall eye => ?_⟩
  have stuck : s.moved.stuckSeen = s.moved.quiet := State.stuckSeen_quiet fun r hr => (place r hr).1
  have departed : s.moved.departed = s.moved.quiet := by
    refine State.departed_quiet (fun r hr => (place r hr).2) fun c g hg r hf => ?_
    obtain ⟨hmem, he⟩ := State.mem_of_find hf
    obtain ⟨t, ht, rfl | rfl⟩ := mem_moveTrack hmem
    · exact awaits c g hg _ ht he
    · exact awaits c g hg t ht he
  have started : s.moved.started Chan.all = s.moved.quiet := by
    refine State.started_quiet fun c _ => ?_
    by_cases hc : (s.chan c).state = .ready
    · exact starts c hc
    · exact State.runStarts_of_not_ready hc
  let u : State := { s.moved with conveyor := { s.moved.conveyor with stall := .running s.prof.stallTime } }
  have cleared : s.moved.stallCleared = u.quiet := State.stallCleared_quiet stall
  have travelled := State.travelled_quiet (s := u) eye
  have quiet : s.advanced = State.quiet { u with conveyor := { u.conveyor with
      debounce := u.conveyor.debounce.map fun n => if n < 3 then n + 1 else n } } := by
    have next {t v : State} {f : State → Effects} (e : f t = v.quiet) : t.quiet.andThen f = v.quiet := e
    rw [State.advanced_eq, stuck, next departed, next started, next cleared, next travelled]
  rw [exec_forwardPulse_advance h hm hb hr, quiet, State.quiet_ended (by exact h)]
  rfl

end Sys2Proof.Machine
end

section
/-! PROOFS. What an advance event can touch, and what it does to STALL; O10. -/

namespace Sys2Proof.Machine

/-! ### The links after an event -/

theorem mem_joinNotices {k j : NoticeKind} {l : List NoticeKind} : k ∈ joinNotices j l ↔ k ∈ l ∨ k = j := by
  unfold joinNotices
  split
  · rename_i hj
    exact ⟨.inl, fun h => h.elim id fun e => e ▸ hj⟩
  · simp

theorem mem_foldl_joinNotices {k : NoticeKind} : ∀ {ks l : List NoticeKind},
    k ∈ ks.foldl (fun p k => joinNotices k p) l ↔ k ∈ l ∨ k ∈ ks
  | [], _ => by simp
  | j :: ks, l => by
    rw [List.foldl_cons, mem_foldl_joinNotices, mem_joinNotices, List.mem_cons, or_assoc]

/-- A notice that is raised is pending, or in transmission (R192, R194). -/
theorem LineLink.raising_mem (l : LineLink) (x : Snapshot) {k : NoticeKind} {ks : List NoticeKind} (h : k ∈ ks) :
    k ∈ (l.raising x ks).notices ∨ ∃ y, (l.raising x ks).tx = .notice k y := by
  have hk : k ∈ ks.foldl (fun p k => joinNotices k p) l.notices := mem_foldl_joinNotices.2 (.inr h)
  unfold LineLink.raising
  dsimp only
  split
  · rename_i hp
    rw [hp] at hk
    rcases List.mem_cons.1 hk with rfl | hk
    · exact .inr ⟨x, rfl⟩
    · exact .inl hk
  · exact .inl hk

/-- A notice that is not raised is pending or in transmission only where it was. -/
theorem LineLink.raising_of_not_mem {l : LineLink} {x : Snapshot} {k : NoticeKind} {ks : List NoticeKind}
    (idle : l.tx = .idle → l.notices = []) (h : k ∉ ks) :
    (k ∈ (l.raising x ks).notices → k ∈ l.notices) ∧
    ∀ y, (l.raising x ks).tx = .notice k y → l.tx = .notice k y := by
  have hk : k ∈ ks.foldl (fun p k => joinNotices k p) l.notices → k ∈ l.notices := fun m =>
    (mem_foldl_joinNotices.1 m).resolve_right h
  unfold LineLink.raising
  dsimp only
  split
  · rename_i j rest ht hp
    rw [hp] at hk
    refine ⟨fun m => hk (List.mem_cons_of_mem _ m), fun y e => ?_⟩
    obtain ⟨rfl, -⟩ := Transmitter.notice.inj e
    have := hk List.mem_cons_self
    simp [idle ht] at this
  · exact ⟨hk, fun y e => e⟩

theorem mem_sortOrders {o : Order} {l : List Order} : o ∈ sortOrders l ↔ o ∈ l := by
  simp [sortOrders, Chan.all]

/-- A channel without its report windows. -/
def Channel.windowless (ch : Channel) : Channel := { ch with windows := [] }

/-- Orders reach the module link; the first may be a Zero Order, which opens a window of its channel (R103). -/
theorem State.issued_cases (s : State) (l : List Order) :
    s.issued l = { s with moduleLink := s.moduleLink.ordering (sortOrders l) } ∨
    ∃ c tag, (⟨c, .zero tag⟩ : Order) ∈ l ∧ s.issued l =
      { s with
        moduleLink := s.moduleLink.ordering (sortOrders l)
        channels := s.channels.set c
          { s.chan c with windows := (s.chan c).windows ++ [⟨tag, 20, .zeroOrder⟩] } } := by
  unfold State.issued State.sent
  dsimp only
  split
  · rename_i c tag rest _ hl
    exact .inr ⟨c, tag, mem_sortOrders.1 (hl ▸ List.mem_cons_self), rfl⟩
  · exact .inl rfl

theorem State.chan_set_same (s : State) (c : Chan) (ch : Channel) :
    ({ s with channels := s.channels.set c ch } : State).chan c = ch := by simp [State.chan]

theorem State.chan_set_other (s : State) {c d : Chan} (ch : Channel) (h : d ≠ c) :
    ({ s with channels := s.channels.set c ch } : State).chan d = s.chan d :=
  s.updChan_chan_other (fun _ => ch) h

/-- Orders touch nothing of a channel but its windows. -/
theorem State.issued_windowless (s : State) (l : List Order) (c : Chan) :
    ((s.issued l).chan c).windowless = (s.chan c).windowless := by
  rcases s.issued_cases l with e | ⟨d, tag, -, e⟩ <;> rw [e]
  · rfl
  · change (State.chan { s with channels := _ } c).windowless = _
    by_cases hc : c = d
    · subst hc
      rw [State.chan_set_same]
      rfl
    · rw [State.chan_set_other _ _ hc]

/-- A channel to which no order goes is untouched by the orders of an event. -/
theorem State.issued_chan {s : State} {l : List Order} {c : Chan} (h : ∀ o ∈ l, o.channel ≠ c) :
    (s.issued l).chan c = s.chan c := by
  rcases s.issued_cases l with e | ⟨d, tag, hd, e⟩ <;> rw [e]
  · rfl
  · exact State.chan_set_other _ _ (h _ hd).symm

/-! ### What the parts of an advance event can touch -/

/-- The channel takes no part in an advance event: it is neither READY nor in ALIGN. -/
def Channel.aloof (ch : Channel) : Prop := ch.state ≠ .ready ∧ ∀ g, ch.period ≠ .align g

/-- The fields that every part of an advance event but the stall timer's leaves. -/
structure TrackFrame (s t : State) : Prop where
  pins : t.pins = s.pins
  bootTimer : t.bootTimer = s.bootTimer
  profile : t.profile = s.profile
  segments : t.segments = s.segments
  recipes : t.recipes = s.recipes
  ramps : t.ramps = s.ramps
  groups : t.groups = s.groups
  interlocks : t.interlocks = s.interlocks
  anodes : t.anodes = s.anodes
  freeCount : t.freeCount = s.freeCount
  pending : t.pending = s.pending
  mode : t.mode = s.mode
  holdCauses : t.holdCauses = s.holdCauses
  remainder : t.conveyor.remainder = s.conveyor.remainder
  backlash : t.conveyor.backlash = s.conveyor.backlash
  stall : t.conveyor.stall = s.conveyor.stall

theorem TrackFrame.trans {s t u : State} (h : TrackFrame s t) (k : TrackFrame t u) : TrackFrame s u := by
  obtain ⟨⟩ := h; obtain ⟨⟩ := k; constructor <;> simp_all

/-- What every part of an advance event but the stall timer's does: it leaves the fields of the frame and the channels
that take no part, orders nothing of those, and raises no LINE_MODE. -/
structure TrackPart (s : State) (e : Effects) : Prop where
  frame : TrackFrame s e.state
  chan : ∀ c, (s.chan c).aloof → e.state.chan c = s.chan c
  orders : ∀ o ∈ e.orders, ¬ (s.chan o.channel).aloof
  notices : .lineMode ∉ e.notices

namespace TrackPart

/-- A part that leaves all channels and orders nothing. -/
theorem of_channels {s : State} {e : Effects} (frame : TrackFrame s e.state) (hc : e.state.channels = s.channels)
    (ho : e.orders = []) (hn : .lineMode ∉ e.notices) : TrackPart s e where
  frame := frame
  chan c _ := by rw [State.chan_def, hc, State.chan_def]
  orders := by simp [ho]
  notices := hn

theorem quiet (s : State) : TrackPart s s.quiet :=
  of_channels (by constructor <;> rfl) rfl rfl (by simp)

theorem andThen {s : State} {e : Effects} {f : State → Effects} (h : TrackPart s e)
    (k : TrackPart e.state (f e.state)) : TrackPart s (e.andThen f) where
  frame := h.frame.trans k.frame
  chan c hc := by
    have he := h.chan c hc
    exact (k.chan c (he.symm ▸ hc)).trans he
  orders o ho hc := by
    rcases List.mem_append.1 ho with ho | ho
    · exact h.orders o ho hc
    · exact k.orders o ho (h.chan _ hc ▸ hc)
  notices hn := (List.mem_append.1 hn).elim h.notices k.notices

theorem each {f : α → State → Effects} (hf : ∀ a t, TrackPart t (f a t)) {s : State} : ∀ (l : List α) {e : Effects},
    TrackPart s e → TrackPart s (e.each l f)
  | [], _, h => h
  | a :: l, _, h => each hf l (h.andThen (hf a _))

theorem lineMode_notMem_lineStopNotice (a b : LineStopCauses) : .lineMode ∉ lineStopNotice a b := by
  unfold lineStopNotice
  split <;> simp

theorem lineMode_notMem_monitorNotice (a b : Monitor) : .lineMode ∉ monitorNotice a b := by
  unfold monitorNotice
  split <;> simp

theorem stuckSeen (s : State) : TrackPart s s.stuckSeen := by
  unfold State.stuckSeen
  dsimp only
  split
  · exact of_channels (by constructor <;> rfl) rfl rfl (by simp [lineMode_notMem_lineStopNotice])
  · exact quiet s

theorem left (entry : Nat) (s : State) : TrackPart s (State.left entry s) := by
  unfold State.left
  split
  · exact quiet s
  · split
    · exact of_channels (by constructor <;> rfl) rfl rfl (by simp [lineMode_notMem_lineStopNotice])
    · exact quiet s

/-- The governor rule touches and orders of its own channel alone. -/
theorem ruled {c : Chan} {s : State} (hc : ¬ (s.chan c).aloof) : TrackPart s (State.ruled c s) := by
  have other (ch : Channel) {d : Chan} (hd : (s.chan d).aloof) :
      ({ s with channels := s.channels.set c ch } : State).chan d = s.chan d :=
    State.chan_set_other _ _ fun e => hc (e ▸ hd)
  unfold State.ruled
  split
  · exact ⟨by constructor <;> rfl, fun d hd => other _ hd, by simp, lineMode_notMem_monitorNotice _ _⟩
  · refine ⟨by constructor <;> rfl, fun d hd => other _ hd, fun o ho => ?_, by simp⟩
    obtain ⟨b, -, rfl⟩ := List.mem_map.1 ho
    exact hc

theorem reawaits (c : Chan) (s : State) : TrackPart s (State.reawaits c s) := by
  unfold State.reawaits
  split
  · rename_i g hg
    split
    · exact ruled fun h => h.2 g hg
    · exact quiet s
  · exact quiet s

theorem departed (s : State) : TrackPart s s.departed := by
  have passing : TrackPart s s.passing.quiet := of_channels (by constructor <;> rfl) rfl rfl (by simp)
  rw [State.departed_eq]
  exact each left _ (each reawaits _ passing)

theorem started (l : List Chan) (s : State) : TrackPart s (State.started l s) where
  frame := by
    rw [State.started, State.runsStarted_eq]
    constructor <;> rfl
  chan c hc := State.runsStarted_chan_of_not_ready hc.1
  orders := by simp [State.started]
  notices := lineMode_notMem_monitorNotice _ _

theorem eyeSeen (s : State) : TrackPart s s.eyeSeen := by
  have bound (rest : List StagingEntry) (track : List TrackRecord) (n : Nat) : TrackPart s (State.started Chan.all
      { s.edgeTaken with staging := rest, track := track, nextEntry := n }) := by
    have first : TrackPart s (State.quiet { s.edgeTaken with staging := rest, track := track, nextEntry := n }) :=
      of_channels (by constructor <;> rfl) rfl rfl (by simp)
    exact first.andThen (started _ _)
  cases h : s.edgeAccepted with
  | false => rw [State.eyeSeen_refused h]; exact quiet s
  | true =>
    cases hl : s.pins.eye with
    | low =>
      rw [State.eyeSeen_falling h hl]
      exact of_channels (by constructor <;> rfl) rfl rfl (by simp [State.fallen])
    | high =>
      rw [State.eyeSeen_rising h hl]
      by_cases room : s.edgeTaken.track.length < 32
      · cases hs : s.edgeTaken.staging with
        | nil => rw [State.risen_unannounced room hs]; exact bound ..
        | cons x rest => rw [State.risen_announced room hs]; exact bound ..
      · rw [State.risen_full (by omega)]
        exact of_channels (by constructor <;> rfl) rfl rfl (by simp [lineMode_notMem_lineStopNotice])

theorem travelled (s : State) : TrackPart s s.travelled := by
  let u : State := { s with conveyor := { s.conveyor with
    debounce := s.conveyor.debounce.map fun n => if n < 3 then n + 1 else n } }
  have grown : TrackPart s u.quiet := of_channels (by constructor <;> rfl) rfl rfl (by simp)
  unfold State.travelled
  dsimp only
  split
  · exact grown.andThen (eyeSeen u)
  · exact grown

end TrackPart

/-! ### STALL -/

/-- The parts of an advance event before the stall timer's. -/
def State.trackMoved (s : State) : Effects :=
  (s.moved.stuckSeen.andThen State.departed).andThen (State.started Chan.all)

theorem TrackPart.trackMoved (s : State) : TrackPart s.moved s.trackMoved :=
  ((TrackPart.stuckSeen _).andThen (.departed _)).andThen (.started _ _)

/-- Every RUNNING channel stands at step 0 (R71). -/
def State.runningAtZero (s : State) : Prop := ∀ c, (s.chan c).state = .running → (s.chan c).index = 0

theorem State.runsStarted_runningAtZero {s : State} (h : s.runningAtZero) (l : List Chan) :
    (s.runsStarted l).runningAtZero := by
  intro c
  rw [State.runsStarted_chan, State.looked]
  split
  · split
    · exact fun _ => rfl
    · exact h c
  · exact h c

theorem State.eyeSeen_runningAtZero {s : State} (h : s.runningAtZero) : s.eyeSeen.state.runningAtZero := by
  cases ha : s.edgeAccepted with
  | false => rw [State.eyeSeen_refused ha]; exact h
  | true =>
    cases hl : s.pins.eye with
    | low => rw [State.eyeSeen_falling ha hl]; exact h
    | high =>
      rw [State.eyeSeen_rising ha hl]
      by_cases room : s.edgeTaken.track.length < 32
      · cases hs : s.edgeTaken.staging with
        | nil => rw [State.risen_unannounced room hs]; exact State.runsStarted_runningAtZero (by exact h) _
        | cons x rest => rw [State.risen_announced room hs]; exact State.runsStarted_runningAtZero (by exact h) _
      · rw [State.risen_full (by omega)]; exact h

theorem State.travelled_runningAtZero {s : State} (h : s.runningAtZero) : s.travelled.state.runningAtZero := by
  unfold State.travelled
  dsimp only
  split
  · exact State.eyeSeen_runningAtZero (by exact h)
  · exact h

/-- STALL is the only hold cause. -/
theorem HoldCauses.stallAlone_iff {h : HoldCauses} :
    h.stall = true ∧ h.command = false ∧ h.interlock = false ↔ h = ⟨true, false, false⟩ := by
  rcases h with ⟨stall, command, interlock⟩
  simp

/-- A state with STALL removed, its stall timer restarted and its remainder started again, the line in RUN where STALL
was alone (R14, R155). -/
def State.stallGone (s : State) : State :=
  { s with
    mode := if s.holdCauses = ⟨true, false, false⟩ then .run else s.mode
    holdCauses := { s.holdCauses with stall := false }
    conveyor := { s.conveyor with remainder := 0, stall := .running s.prof.stallTime } }

theorem State.stallCleared_frame {s u : State} (h : TrackFrame s.moved u) :
    TrackFrame s.stallGone u.stallCleared.state := by
  have hp : u.prof = s.prof := by rw [State.prof, h.profile]; rfl
  have hh : u.holdCauses = s.holdCauses := h.holdCauses
  have hm : u.mode = s.mode := h.mode
  unfold State.stallCleared State.stallGone
  rw [hh, hp]
  dsimp only
  split
  · exact ⟨h.pins, h.bootTimer, h.profile, h.segments, h.recipes, h.ramps, h.groups, h.interlocks, h.anodes,
      h.freeCount, h.pending, rfl, rfl, h.remainder, h.backlash, rfl⟩
  · exact ⟨h.pins, h.bootTimer, h.profile, h.segments, h.recipes, h.ramps, h.groups, h.interlocks, h.anodes,
      h.freeCount, h.pending, hm, rfl, h.remainder, h.backlash, rfl⟩

theorem State.stallCleared_chan (s : State) (c : Chan) : s.stallCleared.state.chan c =
    if s.holdCauses = ⟨true, false, false⟩ ∧ (s.chan c).state = .running then { s.chan c with index := 0 }
    else s.chan c := by
  unfold State.stallCleared
  dsimp only
  by_cases h : s.holdCauses = ⟨true, false, false⟩
  · simp [h, State.chan]
  · simp [h, State.quiet, State.chan]

theorem State.stallCleared_notices (s : State) : s.stallCleared.notices =
    if s.holdCauses = ⟨true, false, false⟩ then [.lineMode] else [] := by
  unfold State.stallCleared
  dsimp only
  split <;> rfl

theorem State.stallCleared_orders (s : State) : s.stallCleared.orders = [] := by
  unfold State.stallCleared
  dsimp only
  split <;> rfl

/-! ### The advance event as a whole -/

theorem State.advanced_eq_trackMoved (s : State) :
    s.advanced = (s.trackMoved.andThen State.stallCleared).andThen State.travelled := rfl

theorem State.advanced_frame (s : State) : TrackFrame s.stallGone s.advanced.state :=
  (State.stallCleared_frame (TrackPart.trackMoved s).frame).trans (TrackPart.travelled _).frame

theorem TrackFrame.ended {s : State} {e : Effects} (h : TrackFrame s e.state) : TrackFrame s e.ended := by
  have issued : TrackFrame e.state (e.state.issued e.orders) := by
    rcases e.state.issued_cases e.orders with k | ⟨c, tag, -, k⟩ <;> rw [k] <;> constructor <;> rfl
  have raised : TrackFrame (e.state.issued e.orders) e.ended := by constructor <;> rfl
  exact (h.trans issued).trans raised

/-- What the frame leaves of a state and what else there is make up the state. -/
theorem TrackFrame.eq {s t : State} (h : TrackFrame s t) : t =
    { s with
      conveyor := t.conveyor
      staging := t.staging
      track := t.track
      exits := t.exits
      nextEntry := t.nextEntry
      channels := t.channels
      lineStop := t.lineStop
      monitor := t.monitor
      link := t.link
      moduleLink := t.moduleLink } := by
  obtain ⟨⟩ := h
  rcases s with ⟨⟩
  rcases t with ⟨⟩
  simp_all

/-- A channel that takes no part is unchanged but for its index, which is 0 where it is RUNNING and the line returns
to RUN (R71). -/
theorem State.advanced_chan {s : State} {c : Chan} (h : (s.chan c).aloof) :
    (s.advanced.state).chan c =
      if s.holdCauses = ⟨true, false, false⟩ ∧ (s.chan c).state = .running then { s.chan c with index := 0 }
      else s.chan c := by
  have moved := (TrackPart.trackMoved s).chan c h
  have cleared := State.stallCleared_chan s.trackMoved.state c
  rw [(TrackPart.trackMoved s).frame.holdCauses, moved] at cleared
  have aloof : (s.trackMoved.state.stallCleared.state.chan c).aloof := by
    rw [cleared]
    split <;> exact h
  exact ((TrackPart.travelled _).chan c aloof).trans cleared

theorem State.advanced_orders {s : State} {c : Chan} (h : (s.chan c).aloof) :
    ∀ o ∈ s.advanced.orders, o.channel ≠ c := by
  have moved := (TrackPart.trackMoved s).chan c h
  have aloof : (s.trackMoved.state.stallCleared.state.chan c).aloof := by
    rw [State.stallCleared_chan, moved]
    split <;> exact h
  rintro o ho rfl
  rw [State.advanced_eq_trackMoved, Effects.andThen_orders, Effects.andThen_orders, State.stallCleared_orders,
    List.append_nil] at ho
  rcases List.mem_append.1 ho with ho | ho
  · exact (TrackPart.trackMoved s).orders o ho h
  · exact (TrackPart.travelled _).orders o ho aloof

/-- LINE_MODE is raised where STALL was alone, and nowhere else (R158). -/
theorem State.lineMode_mem_advanced {s : State} :
    .lineMode ∈ s.advanced.notices ↔ s.holdCauses = ⟨true, false, false⟩ := by
  have before := (TrackPart.trackMoved s).notices
  have after := (TrackPart.travelled (s.trackMoved.andThen State.stallCleared).state).notices
  have hh : s.trackMoved.state.holdCauses = s.holdCauses := (TrackPart.trackMoved s).frame.holdCauses
  rw [State.advanced_eq_trackMoved, Effects.andThen_notices, Effects.andThen_notices, State.stallCleared_notices, hh,
    List.mem_append, List.mem_append, or_iff_left after, or_iff_right before]
  split <;> simp_all

theorem State.advanced_runningAtZero {s : State} (h : s.holdCauses = ⟨true, false, false⟩) :
    s.advanced.state.runningAtZero := by
  refine State.travelled_runningAtZero fun c => ?_
  have hh : s.trackMoved.state.holdCauses = ⟨true, false, false⟩ := (TrackPart.trackMoved s).frame.holdCauses.trans h
  rw [Effects.andThen_state, State.stallCleared_chan]
  split
  · exact fun _ => rfl
  · rename_i hr
    exact fun k => absurd ⟨hh, k⟩ hr

theorem Effects.ended_windowless (e : Effects) (c : Chan) :
    (e.ended.chan c).windowless = (e.state.chan c).windowless := State.issued_windowless _ _ c

theorem Effects.ended_link (e : Effects) :
    e.ended.link = e.state.link.raising (e.state.issued e.orders).snapshot e.notices := by
  have : (e.state.issued e.orders).link = e.state.link := by
    rcases e.state.issued_cases e.orders with k | ⟨c, tag, -, k⟩ <;> rw [k]
  rw [← this]
  rfl

/-- Settles O10: the frame of the advance event, its channels, and its notices. -/
theorem advanceRemovesStall : Obligations.AdvanceRemovesStall := by
  unfold Obligations.AdvanceRemovesStall
  intro s h hm hb hr returns
  have alone : returns ↔ s.holdCauses = ⟨true, false, false⟩ := HoldCauses.stallAlone_iff
  have frame : TrackFrame s.stallGone s.advanced.ended := s.advanced_frame.ended
  have link := s.advanced.ended_link
  rw [(LeavesLinks.advanced s).1] at link
  refine ⟨s.advanced.ended, exec_forwardPulse_advance h hm hb hr, frame.remainder, frame.backlash.trans hb,
    frame.stall, fun ret => ⟨?_, fun c hc => ?_⟩, fun ret => ?_, fun c hc ha => ?_, ?_⟩
  · rw [link]
    exact LineLink.raising_mem _ _ (State.lineMode_mem_advanced.2 (alone.1 ret))
  · have same := s.advanced.ended_windowless c
    have state : (s.advanced.state.chan c).state = .running := (congrArg Channel.state same).symm.trans hc
    exact (congrArg Channel.index same).trans (State.advanced_runningAtZero (alone.1 ret) c state)
  · rw [link]
    exact LineLink.raising_of_not_mem (fun ht => ((State.settled_iff.1 h).2.2 ht).2)
      fun k => ret (alone.2 (State.lineMode_mem_advanced.1 k))
  · have aloof : (s.chan c).aloof := ⟨hc, ha⟩
    change (s.advanced.state.issued s.advanced.orders).chan c = _
    rw [State.issued_chan (State.advanced_orders aloof), State.advanced_chan aloof]
    simp only [alone]
  · have mode : (if returns then LineMode.run else s.mode) = s.stallGone.mode := by
      simp only [alone, State.stallGone]
    rw [mode]
    exact frame.eq

end Sys2Proof.Machine
end

section
/-! PROOFS. The arming arbiter as a part of an event (R109, R110); O24. -/

namespace Sys2Proof.Machine

theorem State.armingIn_iff {s : State} {g : BusGroup} : s.armingIn g = true ↔
    ∃ d, s.busGroup d = some g ∧ (s.chan d).state.isArming = true := by
  simp [State.armingIn, Chan.all]

theorem State.spaced_iff {s : State} {g : BusGroup} : s.spaced g = true ↔
    ∀ t, (s.group g).sinceGrant = some t → s.prof.spacing[g] ≤ t := by
  simp [State.spaced, Option.all_eq_true]

/-- When a group's arbiter may grant (R109). -/
theorem State.mayGrant_iff {s : State} {g : BusGroup} : s.mayGrant g = true ↔
    s.mode.active = true ∧ (¬ ∃ d, s.busGroup d = some g ∧ (s.chan d).state.isArming = true) ∧
    ∀ t, (s.group g).sinceGrant = some t → s.prof.spacing[g] ≤ t := by
  simp only [State.mayGrant, Bool.and_eq_true, List.all_eq_true, Bool.or_eq_true, decide_eq_true_eq,
    Bool.not_eq_true', Option.all_eq_true, and_assoc, not_exists, not_and, Chan.all, List.mem_finRange,
    forall_const, Bool.not_eq_true]
  refine and_congr_right fun _ => and_congr_left fun _ => forall_congr' fun d => ?_
  exact imp_iff_not_or.symm

theorem State.grantee_eq (s : State) (g : BusGroup) : s.grantee g =
    if s.mayGrant g then (s.group g).queue.find? fun c => (s.chan c).rest.isNone else none := by
  have : (s.mode.active && !s.armingIn g && s.spaced g) = s.mayGrant g := by
    rw [Bool.eq_iff_iff, State.mayGrant_iff, ← State.armingIn_iff, ← State.spaced_iff]
    simp [and_assoc]
  rw [State.grantee, this]

/-- The state after a grant (R109, R110), its Arm Order not yet given. -/
def State.granted (s : State) (g : BusGroup) (c : Chan) : State :=
  { s with
    channels := s.channels.set c
      { s.chan c with
        state := .arming 2000
        contactorClosed := true
        missing := 0
        forward := 0
        reverse := 0 }
    groups := s.groups.set g ⟨(s.group g).queue.filter (· ≠ c), some 0⟩ }

theorem State.arbitrated_eq (s : State) (g : BusGroup) : s.arbitrated g =
    match s.grantee g with
    | some c => ⟨s.granted g c, [⟨c, .arm⟩], []⟩
    | none => s.quiet := by
  rw [State.grantee_eq]
  rfl

theorem LeavesLinks.arbitrated (g : BusGroup) : LeavesLinks fun s => s.arbitrated g := by
  intro s
  dsimp only
  rw [State.arbitrated_eq]
  split <;> exact ⟨rfl, rfl⟩

/-- An order falls due (R100). -/
theorem order_live (e : Effects) (c : Chan) (b : OrderBody) :
    e.live.order c b = ({ e with orders := e.orders ++ [⟨c, b⟩] } : Effects).live := by
  simp [State.order, Effects.live]

theorem arbiter_live (e : Effects) (g : BusGroup) :
    e.live.arbiter g = (e.andThen fun s => s.arbitrated g).live := by
  unfold State.arbiter Effects.andThen
  dsimp only
  rw [State.arbitrated_eq, show e.live.grantee g = e.state.grantee g from rfl]
  cases e.state.grantee g with
  | none => simp
  | some c =>
    have granted : e.live.grant g c = (State.granted e.live g c).order c .arm := rfl
    dsimp only
    rw [granted, List.append_nil]
    exact order_live { e with state := e.state.granted g c } c .arm

/-- A settled state whose arbiter looks ends as the statements say. -/
theorem done_arbiter {s : State} (h : s.settled = true) (g : BusGroup) :
    done (s.arbiter g) = .next (s.arbitrated g).ended := by
  refine (LeavesLinks.arbitrated g).done h ?_
  rw [← arbiter_live, State.quiet_live]

theorem State.queued_iff {s : State} {c : Chan} : s.queued c = true ↔ c ∈ s.allQueued := by
  simp only [State.queued, State.allQueued, List.any_eq_true, decide_eq_true_eq, List.mem_flatMap]

/-! ### When the arbiter looks -/

theorem State.restEnds_stopped {s : State} {c : Chan} (h : (s.chan c).rest = none) : s.restEnds c = s := by
  simp [State.restEnds, h]

/-- The end of a contactor rest lets the arbiter look where the channel is queued (R112). -/
theorem State.restEnds_running {s : State} {c : Chan} (h : (s.chan c).rest.isSome = true) : s.restEnds c =
    if s.queued c then (s.updChan c fun ch => { ch with rest := none }).arbiterOf c
    else s.updChan c fun ch => { ch with rest := none } := by
  rw [State.restEnds, if_pos h]
  rfl

theorem State.spacingReached_none {s : State} {g : BusGroup} (h : (s.group g).sinceGrant = none) :
    s.spacingReached g = s := by
  simp [State.spacingReached, h]

/-- The reached spacing raises the time since the last grant to it (log 25). -/
theorem State.spacingReached_some {s : State} {g : BusGroup} {t : Nat} (h : (s.group g).sinceGrant = some t) :
    s.spacingReached g = State.arbiter
      { s with groups := s.groups.set g { s.group g with sinceGrant := some (max s.prof.spacing[g] t) } } g := by
  have hs : (s.group g).sinceGrant.isSome = true := by simp [h]
  have ht : s.groups[g].sinceGrant = some t := h
  rw [State.spacingReached, if_pos hs]
  simp only [State.updGroup, ht, Option.map_some]
  rfl

/-! ### Whom it grants -/

/-- The oldest channel out of rest, behind those in rest (R109). -/
theorem State.grantee_of_queue {s : State} {g : BusGroup} {before rest : List Chan} {c : Chan}
    (h : s.mayGrant g = true) (hq : (s.group g).queue = before ++ c :: rest)
    (hb : ∀ d ∈ before, (s.chan d).rest.isSome = true) (hc : (s.chan c).rest = none) : s.grantee g = some c := by
  have passed : before.find? (fun d => (s.chan d).rest.isNone) = none :=
    List.find?_eq_none.2 fun d hd => by simpa [Option.isSome_iff_ne_none] using hb d hd
  rw [State.grantee_eq, if_pos h, hq, List.find?_append, passed, Option.none_or, List.find?_cons_of_pos (by simp [hc])]

/-- It grants none where it may not, and none where all queued channels are in rest. -/
theorem State.grantee_none {s : State} {g : BusGroup}
    (h : s.mayGrant g = false ∨ ∀ c ∈ (s.group g).queue, (s.chan c).rest.isSome = true) : s.grantee g = none := by
  rw [State.grantee_eq]
  split
  · rename_i hm
    refine List.find?_eq_none.2 fun c hc => ?_
    rw [Bool.not_eq_true, Option.isNone_eq_false_iff]
    exact (h.resolve_left (by simp [hm])) c hc
  · rfl

/-- Settles O24: the arbiter's two occasions, the groups, and whom it grants. -/
theorem arbiterGrants : Obligations.ArbiterGrants := by
  unfold Obligations.ArbiterGrants
  refine ⟨fun s c h => ⟨fun hr => ?_, fun hr hq => ?_, fun hr hq g hg => ?_⟩, fun s g h => ⟨fun hs => ?_, fun t ht => ?_⟩,
    fun s c => ⟨fun hs => by simp [State.busGroup, hs], fun seg g hs hg => ?_⟩,
    fun s g => ⟨fun hn => ?_, fun before c rest hm ha hs hq hb hc hd => ?_⟩⟩
  · change done (s.restEnds c) = _
    rw [State.restEnds_stopped hr, done, settle_of_settled h]
  · change done (s.restEnds c) = _
    rw [State.restEnds_running hr, if_neg fun k => hq (State.queued_iff.1 k)]
    exact done_of_links h rfl rfl
  · change done (s.restEnds c) = _
    have group : (s.updChan c fun ch => { ch with rest := none }).busGroup c = some g := hg
    rw [State.restEnds_running hr, if_pos (State.queued_iff.2 hq), State.arbiterOf, group]
    exact done_arbiter (by exact h) g
  · change done (s.spacingReached g) = _
    rw [State.spacingReached_none hs, done, settle_of_settled h]
  · change done (s.spacingReached g) = _
    rw [State.spacingReached_some ht]
    exact done_arbiter (by exact h) g
  · have : seg.group % 4 = seg.group := Nat.mod_eq_of_lt (by omega)
    simp [State.busGroup, hs, Fin.ext_iff, this, eq_comm]
  · have grantee : s.grantee g = none := by
      refine State.grantee_none ?_
      rw [← Bool.not_eq_true, State.mayGrant_iff]
      rcases hn with hn | hn | hn | hn
      · exact .inl fun k => by simp [hn] at k
      · exact .inl fun k => k.2.1 hn
      · exact .inl fun k => hn k.2.2
      · exact .inr hn
    rw [State.arbitrated_eq, grantee]
    rfl
  · have queue : (s.group g).queue.filter (· ≠ c) = before ++ rest := by
      have gone : (before ++ rest).filter (· ≠ c) = before ++ rest :=
        List.filter_eq_self.2 fun d hd' => by simpa using fun e : d = c => hd (e ▸ hd')
      rw [hq, List.filter_append, List.filter_cons_of_neg (by simp), ← List.filter_append, gone]
    rw [State.arbitrated_eq, State.grantee_of_queue (State.mayGrant_iff.2 ⟨hm, ha, hs⟩) hq hb hc]
    dsimp only [State.granted]
    rw [queue]
    rfl

end Sys2Proof.Machine
end

section
/-! PROOFS. The state after power-on, and an idle step; O3 and O2. -/

namespace Sys2Proof.Machine

/-! ### Power-on -/

/-- Settles O3: the invariants are computed, and the fields of each channel, group, input and counter read off the
uniform vectors. -/
theorem resetMeetsInvariants : Obligations.ResetMeetsInvariants := by
  unfold Obligations.ResetMeetsInvariants
  refine ⟨⟨by decide +kernel, by decide +kernel, by decide +kernel, by decide +kernel, by decide +kernel,
    by decide +kernel⟩, ?_⟩
  have recipe (n : Nat) : State.reset.recipe n = none := by
    unfold State.recipe State.reset
    split
    · exact Vector.getElem_replicate _
    · rfl
  exact ⟨rfl, rfl, rfl, rfl, fun c => Vector.getElem_replicate _, recipe, rfl, rfl, rfl, rfl, rfl, rfl,
    fun c => Vector.getElem_replicate _, fun g => Vector.getElem_replicate _, fun i => Vector.getElem_replicate _,
    rfl, rfl, fun k => Vector.getElem_replicate _, fun c => Vector.getElem_replicate _, rfl, by decide +kernel, rfl,
    rfl, rfl, rfl⟩

/-! ### A millisecond -/

theorem TrackRecord.tick_eq (r : TrackRecord) : r.tick =
    { r with clock := if r.departing then r.clock
      else r.clock.map fun k => { k with remaining := k.remaining - 1 } } := by
  unfold TrackRecord.tick
  split <;> rfl

theorem LineLink.tick_eq (l : LineLink) : l.tick =
    { l with gap := if l.receiver = .hunt then l.gap else l.gap + 1 } := by
  rcases l with ⟨receiver, _, _, _, _, _, _⟩
  cases receiver <;> simp [LineLink.tick]

theorem Channel.tick_eq (ch : Channel) : ch.tick =
    { ch with
      state := match ch.state with
        | .arming n => .arming (n - 1)
        | other => other
      rest := ch.rest.map fun n => n - 1
      windows := ch.windows.map fun w => { w with remaining := w.remaining - 1 }
      period := match ch.period with
        | .delivering p => .delivering { p with remaining := p.remaining - 1 }
        | other => other
      zeroTimer := ch.zeroTimer.map fun n => n - 1
      retry := ch.retry.map fun n => n - 1 } := by
  rcases ch with ⟨state, _, _, _, _, _, _, _, _, period, _, _, _, _, _, _, _, _⟩
  cases state <;> cases period <;> rfl

theorem StallTimer.tick_eq (t : StallTimer) : t.tick =
    match t with
    | .running n => .running (n - 1)
    | .stopped => .stopped
    | .expired => .expired := by
  cases t <;> rfl

/-! ### What stands due -/

theorem mem_whenDue {e c : Instr} {b : Bool} : e ∈ whenDue b c ↔ b = true ∧ e = c := by
  unfold whenDue
  split <;> simp_all

/-- A phase clock of a record that is not DEPARTING stands at the end of an interval (R59). -/
theorem State.mem_duePhase {s : State} {r : TrackRecord} {e : Instr} : e ∈ s.duePhase r ↔
    ∃ k rec, r.departing = false ∧ r.clock = some k ∧ s.recipeOf r = some rec ∧ k.remaining = 0 ∧
      (e = .phaseIntervalEnd r.entry ∧ rec.timing.next? k.interval ≠ none ∨
        e = .phaseBoundary r.entry ∧ rec.timing.next? k.interval = none) := by
  unfold State.duePhase State.runningClock
  cases hd : r.departing
  · cases hk : r.clock with
    | none => simp
    | some k =>
      cases hr : s.recipeOf r with
      | none => simp
      | some rec =>
        by_cases h0 : k.remaining = 0
        · cases hn : rec.timing.next? k.interval <;> simp [h0, hn]
        · simp [h0]
  · simp

/-- A channel interval has run out (R64, R65). -/
theorem mem_duePeriod {c : Chan} {t : Timing} {period : Period} {e : Instr} : e ∈ duePeriod c t period ↔
    ∃ p, period = .delivering p ∧ p.remaining = 0 ∧
      (e = .channelIntervalEnd c ∧ t.next? p.interval ≠ none ∨ e = .periodEnd c ∧ t.next? p.interval = none) := by
  unfold duePeriod
  cases period with
  | delivering p =>
    by_cases h0 : p.remaining = 0
    · cases hn : t.next? p.interval <;> simp [h0, hn]
    · simp [h0]
  | idle => simp
  | align g => simp

theorem ChannelState.armingDue_iff {st : ChannelState} : st.armingDue = true ↔ st = .arming 0 := by
  cases st <;> simp [ChannelState.armingDue]

/-- A channel's events that stand due (R61, R99). -/
theorem Channel.mem_due {c : Chan} {ch : Channel} {e : Instr} : e ∈ ch.due c ↔
    (∃ p, ch.period = .delivering p ∧ p.remaining = 0 ∧
      (e = .channelIntervalEnd c ∧ ch.timing.next? p.interval ≠ none ∨
        e = .periodEnd c ∧ ch.timing.next? p.interval = none)) ∨
    (∃ w rest, ch.windows = w :: rest ∧ w.remaining = 0 ∧ e = .reportWindowClose c) ∨
    (ch.zeroTimer = some 0 ∧ e = .zeroTimerExpiry c) ∨ (ch.retry = some 0 ∧ e = .loneZeroRetryExpiry c) ∨
    (ch.state = .arming 0 ∧ e = .armingTimeout c) ∨ (ch.rest = some 0 ∧ e = .contactorRestEnd c) := by
  have window : (ch.windows.head?.any fun w => w.remaining = 0) = true ∧ e = .reportWindowClose c ↔
      ∃ w rest, ch.windows = w :: rest ∧ w.remaining = 0 ∧ e = .reportWindowClose c := by
    cases ch.windows <;> simp
  simp only [Channel.due, List.mem_append, mem_duePeriod, mem_whenDue, decide_eq_true_eq, window,
    ChannelState.armingDue_iff, or_assoc]

/-- A group's arbiter finds a channel to grant (R109). -/
theorem State.grantee_isSome {s : State} {g : BusGroup} : (s.grantee g).isSome = true ↔
    s.mayGrant g = true ∧ ∃ c ∈ (s.group g).queue, (s.chan c).rest = none := by
  rw [State.grantee_eq]
  split
  · rename_i h
    simp [h, List.find?_isSome]
  · rename_i h
    simp [h]

theorem State.mem_due {s : State} {e : Instr} : e ∈ s.due ↔
    e = .bootEnd ∧ s.bootTimer = some 0 ∨ e = .stallTimerExpiry ∧ s.conveyor.stall = .running 0 ∨
    (∃ r ∈ s.track, e ∈ s.duePhase r) ∨ (∃ c, e ∈ (s.chan c).due c) ∨
    (∃ g, (s.grantee g).isSome = true ∧ e = .armingSpacingReached g) ∨ e = .interByteGap ∧ 5 < s.link.gap := by
  have gap : decide (Config.gapMs < s.link.gap) = true ↔ 5 < s.link.gap := decide_eq_true_iff
  simp only [State.due, List.mem_append, mem_whenDue, gap, List.mem_flatMap, Chan.all, BusGroup.all,
    List.mem_finRange, true_and, or_assoc]
  simp only [decide_eq_true_eq, and_comm]

/-- A step on an empty queue with nothing due is a millisecond. -/
theorem step_of_quiet {s t : State} (hq : s.pending = []) (hc : s.idleChoice = (none, t)) :
    step s = .next t.millisecond := by
  unfold step
  rw [hq]
  dsimp only
  rw [hc]

/-- A step on an empty queue takes the event that the idle choice names. -/
theorem step_of_due {s t : State} {c : Instr} (hq : s.pending = []) (hc : s.idleChoice = (some c, t)) :
    step s = exec c t := by
  unfold step
  rw [hq]
  dsimp only
  rw [hc]

/-- Settles O2: the choice of an idle step, the millisecond timer by timer, and what stands due timer by timer. -/
theorem stepOnEmptyQueue : Obligations.StepOnEmptyQueue := by
  unfold Obligations.StepOnEmptyQueue
  refine ⟨fun s hq => ?_, fun s => ?_, fun s e => ?_⟩
  · rcases s.idleChoice_cases with ⟨hd, hc⟩ | ⟨c, hd, hc⟩ | ⟨hd, c, hm, hc⟩
    · simp [hd, step_of_quiet hq hc]
    · simp [hd, step_of_due hq hc]
    · exact ⟨fun h => by simp [h] at hd, fun d h => by simp [h] at hd, fun _ => ⟨c, hm, step_of_due hq hc⟩⟩
  · unfold State.millisecond State.holdMillisecond State.timersTick
    simp only [mapVec_eq_map, LineLink.tick_eq, StallTimer.tick_eq, funext Channel.tick_eq]
    by_cases hm : s.mode = .hold
    · simp only [hm, if_true, List.map_map, Function.comp_def, TrackRecord.dwell, TrackRecord.tick_eq]
      rfl
    · simp only [hm, if_false, funext TrackRecord.tick_eq]
      rfl
  · simp only [State.mem_due, State.mem_duePhase, Channel.mem_due, State.grantee_isSome, exists_or, or_assoc,
      and_assoc]

end Sys2Proof.Machine
end

section
/-! PROOFS. What a frame meets at the link, and the configuration requests; O35 and O36. -/

namespace Sys2Proof.Machine

/-! ### What a frame meets (R189) -/

theorem State.meet_taken {s : State} (hr : s.pins.resetHeld = false) (hi : s.link.inHand = none) (f : Frame)
    (take : State → State) : s.meet f take = take s.hunting := by
  simp only [State.meet, hr, Bool.false_eq_true, if_false, State.updLink, hi, State.hunting]

theorem State.meet_held {s : State} (hr : s.pins.resetHeld = false) (hi : s.link.inHand.isSome = true)
    (hh : s.link.held = none) (f : Frame) (take : State → State) :
    s.meet f take = s.hunting.updLink fun l => { l with held := some f } := by
  obtain ⟨x, hi⟩ := Option.isSome_iff_exists.1 hi
  simp only [State.meet, hr, Bool.false_eq_true, if_false, State.updLink, hi, hh, State.hunting]

theorem State.meet_full {s : State} (hr : s.pins.resetHeld = false) (hi : s.link.inHand.isSome = true)
    (hh : s.link.held.isSome = true) (f : Frame) (take : State → State) : s.meet f take = s.hunting := by
  obtain ⟨x, hi⟩ := Option.isSome_iff_exists.1 hi
  obtain ⟨y, hh⟩ := Option.isSome_iff_exists.1 hh
  simp only [State.meet, hr, Bool.false_eq_true, if_false, State.updLink, hi, hh, State.hunting]

/-- A state in which a request waits to be answered may move its receiver and its hold buffer. -/
theorem done_behind {s : State} (h : s.settled = true) (hi : s.link.inHand.isSome = true) (held : Option Frame) :
    done (s.hunting.updLink fun l => { l with held := held }) =
      .next { s with link := { s.link with receiver := .hunt, gap := 0, held := held } } := by
  have busy : s.link.tx ≠ .idle := fun ht => by simp [((State.settled_iff.1 h).2.2 ht).1] at hi
  have settled : (s.hunting.updLink fun l => { l with held := held }).settled = true := by
    obtain ⟨h1, h2, -⟩ := State.settled_iff.1 h
    exact State.settled_iff.2 ⟨h1, h2, fun ht => absurd ht busy⟩
  rw [done, settle_of_settled settled]
  rfl

/-- With nothing in hand, a frame put in hand is answered (R189, R191, R194), in whatever mode. -/
theorem done_putInHand {s : State} (h : s.settled = true) (hi : s.link.inHand = none) (f : Frame)
    (code : ResultCode) (payload : ReplyPayload) :
    done (s.hunting.putInHand f code payload false) = .next { s with link := s.link.answered f code payload } := by
  let u : State := { s with mode := .offline, pins := { s.pins with resetHeld := false } }
  have receptive : u.receptive = true := State.receptive_iff.2 ⟨h, rfl, hi, by simp [u]⟩
  exact done_answer (s := u) (t := s.hunting) (n := s.link.notices) receptive rfl rfl

/-- A request that its owner refuses, or answers without effect, is answered (R189, R191). -/
theorem State.takeRequest_refused {s : State} {f : Frame} {r : Request} {code : ResultCode} {payload : ReplyPayload}
    (hm : s.mode ≠ .boot ∨ r = .queryLine) (hs : serve r s = ⟨code, payload, s⟩) (hr : r ≠ .restart) :
    s.takeRequest f r = s.putInHand f code payload false := by
  have open' : ¬ (s.mode = .boot ∧ r ≠ .queryLine) := fun k => hm.elim (· k.1) fun e => k.2 e
  rw [State.takeRequest, if_neg open', hs]
  simp [hr]

theorem State.takeRequest_booting {s : State} {f : Frame} {r : Request} (hm : s.mode = .boot) (hr : r ≠ .queryLine) :
    s.takeRequest f r = s.putInHand f .booting .nothing false := if_pos ⟨hm, hr⟩

/-- During BOOT every request row but QueryLine is answered BOOTING (R147). -/
theorem exec_booting {i : Instr} {r : Request} {s : State} (hr : requestOf i = some r) (h : s.settled = true)
    (hp : s.pins.resetHeld = false) (hi : s.link.inHand = none) (hm : s.mode = .boot) (hq : r ≠ .queryLine) :
    exec i s = .next { s with link := s.answer r .booting .nothing } := by
  rw [exec_of_request hr, State.arriveRequest, State.meet_taken hp hi,
    State.takeRequest_booting (s := s.hunting) hm hq, done_putInHand h hi]
  rfl

/-! ### SetProfile -/

theorem Vector.all_toList_iff {α : Type} {n : Nat} {v : Vector α n} {p : α → Bool} :
    v.toList.all p = true ↔ ∀ i : Fin n, p v[i] = true := by
  rw [Vector.all_toList, Vector.all_eq_true]
  exact ⟨fun h i => h i i.2, fun h i hi => h ⟨i, hi⟩⟩

theorem within_iff {lo hi n : Nat} : within lo hi n = true ↔ lo ≤ n ∧ n ≤ hi := by simp [within]

/-- SetProfile's checks, spelled out (R2, R3). -/
theorem State.profileOk_iff {s : State} {p : Profile} : s.profileOk p = true ↔
    (1000 ≤ p.lineLength ∧ p.lineLength ≤ 16000) ∧ (p.eye ≤ 2000 ∧ p.eye < p.lineLength) ∧
    (1 ≤ p.pulsesPerMm ∧ p.pulsesPerMm ≤ 64) ∧ (100 ≤ p.stallTime ∧ p.stallTime ≤ 10000) ∧
    (100 ≤ p.nominalLength ∧ p.nominalLength ≤ 1500) ∧ (1 ≤ p.tolerance ∧ p.tolerance ≤ 50) ∧
    (∀ n, p.fallback = some n → n ≤ 15 ∧ (s.recipe n).isSome = true) ∧ p.fallbackAreaA ≤ 20000 ∧
    p.fallbackAreaB ≤ 20000 ∧ (10 ≤ p.zeroInterval ∧ p.zeroInterval ≤ 600) ∧
    (∀ g : Fin 4, 100 ≤ p.spacing[g] ∧ p.spacing[g] ≤ 5000) ∧
    (500 ≤ p.contactorRest ∧ p.contactorRest ≤ 10000) ∧
    ∀ c r, s.segment c = some r → r.start + r.length ≤ p.lineLength := by
  have segments : (∀ (c : Fin 40) r, s.segments[c] = some r → r.start + r.length ≤ p.lineLength) ↔
      ∀ c r, s.segment c = some r → r.start + r.length ≤ p.lineLength := Iff.rfl
  simp only [State.profileOk, Profile.inRange, Bool.and_eq_true, Vector.all_toList_iff, Option.all_eq_true,
    decide_eq_true_eq, within_iff, segments, Nat.zero_le, true_and]
  constructor
  · rintro ⟨⟨⟨⟨⟨⟨⟨⟨⟨⟨⟨⟨⟨⟨l, e⟩, el⟩, pp⟩, st⟩, nl⟩, tol⟩, fb⟩, a⟩, b⟩, z⟩, sp⟩, cr⟩, fr⟩, seg⟩
    exact ⟨l, ⟨e, el⟩, pp, st, nl, tol, fun n hn => ⟨fb n hn, fr n hn⟩, a, b, z, sp, cr, seg⟩
  · rintro ⟨l, ⟨e, el⟩, pp, st, nl, tol, fb, a, b, z, sp, cr, seg⟩
    exact ⟨⟨⟨⟨⟨⟨⟨⟨⟨⟨⟨⟨⟨⟨l, e⟩, el⟩, pp⟩, st⟩, nl⟩, tol⟩, fun n hn => (fb n hn).1⟩, a⟩, b⟩, z⟩, sp⟩, cr⟩,
      fun n hn => (fb n hn).2⟩, seg⟩

/-- Settles O35, mode by mode. -/
theorem setProfileResult : Obligations.SetProfileResult := by
  unfold Obligations.SetProfileResult
  refine ⟨fun s p h => ?_, fun s p n hn => by simp [State.inUse, hn], ?_⟩
  · have boot : ((s.settled = true ∧ s.pins.resetHeld = false) ∧ s.link.inHand = none) ∧ s.mode = .boot := by
      simpa [State.bootReceptive] using h
    obtain ⟨⟨⟨hs, hp⟩, hi⟩, hm⟩ := boot
    exact exec_booting rfl hs hp hi hm (by simp)
  · intro s p h ok
    have arrives : exec (.setProfile p) s = done (s.arriveRequest (.setProfile p)) := rfl
    have checks : s.hunting.profileOk p = s.profileOk p := rfl
    rw [arrives]
    refine ⟨fun hm => ?_, fun hm hk => ?_, fun hm hk => ?_⟩
    · exact done_refused h (if_pos hm) (.inl (by simp))
    · refine done_taken (r := .setProfile p) (t := { s.hunting with profile := some p }) h ?_ (by simp) rfl rfl
      exact (if_neg (not_not.2 hm)).trans (if_pos (checks.trans (State.profileOk_iff.2 hk)))
    · refine done_refused h ?_ (.inl (by simp))
      exact (if_neg (not_not.2 hm)).trans (if_neg fun k => hk (State.profileOk_iff.1 (checks.symm.trans k)))

/-! ### SetSegment and SetLimits -/

theorem segmentChan?_iff {side : Side} {index : Nat} {c : Chan} : segmentChan? side index = some c ↔
    index ≤ 19 ∧ c.val = match side with
      | .a => index
      | .b => 20 + index := by
  unfold segmentChan?
  split
  · cases side <;> simp only [Option.some.injEq, Fin.ext_iff] <;> omega
  · simp only [reduceCtorEq, false_iff, not_and]
    omega

theorem segmentChan?_none {side : Side} {index : Nat} (h : 19 < index) : segmentChan? side index = none :=
  dif_neg (by omega)

theorem limitsInRange_iff {forward reverse : Nat} : limitsInRange forward reverse = true ↔
    1 ≤ forward ∧ forward ≤ 8000 ∧ reverse ≤ 24000 := by
  simp [limitsInRange, within_iff, and_assoc]

theorem sideOf_eq_iff {c d : Chan} : sideOf d = sideOf c ↔ (d.val < 20 ↔ c.val < 20) := by
  by_cases hd : d.val < 20 <;> by_cases hc : c.val < 20 <;> simp [sideOf, hd, hc]

/-- Extents of the same side overlap nowhere (R1, R6). -/
theorem State.segmentClash_eq_false {s : State} {c : Chan} {r : Segment} : s.segmentClash c r = false ↔
    ∀ (d : Chan) (other : Segment), d ≠ c → (d.val < 20 ↔ c.val < 20) → s.segment d = some other →
      r.start + r.length ≤ other.start ∨ other.start + other.length ≤ r.start := by
  have apart (t : Segment) : r.overlaps t = false ↔
      r.start + r.length ≤ t.start ∨ t.start + t.length ≤ r.start := by
    simp only [Segment.overlaps, Bool.and_eq_false_iff, decide_eq_false_iff_not]
    omega
  simp only [State.segmentClash, List.any_eq_false, Chan.all, List.mem_finRange, forall_const, Bool.and_eq_true,
    decide_eq_true_eq, not_and, sideOf_eq_iff, Option.any_eq_true, not_exists, Bool.not_eq_true, apart]
  exact ⟨fun h d t hd hs ht => h d ⟨hd, hs⟩ t ht, fun h d hd t ht => h d t hd.1 hd.2 ht⟩

/-- SetSegment's checks on the record, spelled out (R5, R6). -/
theorem State.segmentFits_iff {s : State} {l : Nat} {c : Chan} {r : Segment} :
    (r.inRange l && !s.segmentClash c r) = true ↔
    r.start < l ∧ 50 ≤ r.length ∧ r.length ≤ 2000 ∧ r.start + r.length ≤ l ∧ 1 ≤ r.forwardLimit ∧
    r.forwardLimit ≤ 8000 ∧ r.reverseLimit ≤ 24000 ∧ r.group ≤ 3 ∧
    ∀ (d : Chan) (other : Segment), d ≠ c → (d.val < 20 ↔ c.val < 20) → s.segment d = some other →
      r.start + r.length ≤ other.start ∨ other.start + other.length ≤ r.start := by
  simp only [Segment.inRange, Bool.and_eq_true, Bool.not_eq_true', State.segmentClash_eq_false, decide_eq_true_eq,
    within_iff, limitsInRange_iff, and_assoc]

theorem serveSetSegment_unknown {s : State} {p : Profile} {side : Side} {index : Nat} (record : Option Segment)
    (hm : s.mode = .offline) (hp : s.profile = some p) (hc : segmentChan? side index = none) :
    serveSetSegment (some (side, index, record)) s = refuse s .badValue := by
  simp only [serveSetSegment, hm, ne_eq, not_true_eq_false, if_false, hp, hc]

theorem serveSetSegment_undefined {s : State} {p : Profile} {side : Side} {index : Nat} {c : Chan}
    (hm : s.mode = .offline) (hp : s.profile = some p) (hc : segmentChan? side index = some c) :
    serveSetSegment (some (side, index, none)) s = taken { s with segments := s.segments.set c none } := by
  simp only [serveSetSegment, hm, ne_eq, not_true_eq_false, if_false, hp, hc]

theorem serveSetSegment_defined {s : State} {p : Profile} {side : Side} {index : Nat} {c : Chan} {r : Segment}
    (hm : s.mode = .offline) (hp : s.profile = some p) (hc : segmentChan? side index = some c) :
    serveSetSegment (some (side, index, some r)) s =
      if r.inRange p.lineLength && !s.segmentClash c r then taken { s with segments := s.segments.set c (some r) }
      else refuse s .badValue := by
  simp only [serveSetSegment, hm, ne_eq, not_true_eq_false, if_false, hp, hc]

theorem serveSetLimits_defined {s : State} {c : Chan} {seg : Segment} (hs : s.segment c = some seg)
    (forward reverse : Nat) : serveSetLimits c.val forward reverse s =
      if limitsInRange forward reverse then
        taken { s with
          segments := s.segments.set c (some { seg with forwardLimit := forward, reverseLimit := reverse }) }
      else refuse s .badValue := by
  simp only [serveSetLimits, chanOf?, c.2, dif_pos, Fin.eta, hs]

theorem serveSetLimits_refused {s : State} {channel forward reverse : Nat}
    (h : 40 ≤ channel ∨ (∃ c : Chan, c.val = channel ∧ s.segment c = none) ∨ forward = 0 ∨ 8000 < forward ∨
      24000 < reverse) : serveSetLimits channel forward reverse s = refuse s .badValue := by
  by_cases hc : channel < 40
  · obtain ⟨c, rfl⟩ : ∃ c : Chan, c.val = channel := ⟨⟨channel, hc⟩, rfl⟩
    cases hs : s.segment c with
    | none => simp only [serveSetLimits, chanOf?, c.2, dif_pos, Fin.eta, hs]
    | some seg =>
      have range : ¬ limitsInRange forward reverse = true := by
        rw [limitsInRange_iff]
        rcases h with h | ⟨d, hd, hn⟩ | h
        · omega
        · obtain rfl := Fin.ext hd
          simp [hs] at hn
        · omega
      rw [serveSetLimits_defined hs, if_neg range]
  · simp only [serveSetLimits, chanOf?, hc, dif_neg, not_false_eq_true]

/-- Settles O36, check by check. -/
theorem segmentRequests : Obligations.SegmentRequests := by
  unfold Obligations.SegmentRequests
  intro s h
  constructor
  on_goal 1 =>
    intro side index record r names fits
    refine ⟨fun hm => ?_, fun hm hp => ?_, fun hm p hp =>
      ⟨fun c hc hr => ?_, fun c seg hc hr hf => ?_, fun bad => ?_⟩⟩
  on_goal 6 =>
    intro channel forward reverse r
    refine ⟨fun c seg hc hs hl hu hv => ?_, fun bad => ?_⟩
  · exact done_refused h (if_pos hm) (.inl (by simp))
  · refine done_refused h ?_ (.inl (by simp))
    change serveSetSegment (some (side, index, record)) s.hunting = refuse s.hunting .notConfigured
    simp only [serveSetSegment, State.hunting_mode, hm, ne_eq, not_true_eq_false, if_false, State.hunting_profile, hp]
  · subst hr
    exact done_taken (r := r) h (serveSetSegment_undefined (s := s.hunting) hm hp (segmentChan?_iff.2 hc))
      (by simp [r]) rfl rfl
  · subst hr
    refine done_taken (r := r) (t := { s.hunting with segments := s.segments.set c (some seg) }) h ?_ (by simp [r])
      rfl rfl
    exact (serveSetSegment_defined (s := s.hunting) hm hp (segmentChan?_iff.2 hc)).trans
      (if_pos (State.segmentFits_iff.2 hf))
  · refine done_refused h ?_ (.inl (by simp))
    rcases bad with bad | ⟨c, seg, hc, hr, hf⟩
    · exact serveSetSegment_unknown (s := s.hunting) _ hm hp (segmentChan?_none bad)
    · subst hr
      exact (serveSetSegment_defined (s := s.hunting) hm hp (segmentChan?_iff.2 hc)).trans
        (if_neg fun k => hf (State.segmentFits_iff.1 k))
  · subst hc
    let limited : Segment := { seg with forwardLimit := forward, reverseLimit := reverse }
    refine done_taken (r := r) (t := { s.hunting with segments := s.segments.set c (some limited) }) h ?_ (by simp [r])
      rfl rfl
    exact (serveSetLimits_defined (s := s.hunting) hs forward reverse).trans
      (if_pos (limitsInRange_iff.2 ⟨hl, hu, hv⟩))
  · exact done_refused h (serveSetLimits_refused (s := s.hunting) bad) (.inl (by simp))

end Sys2Proof.Machine
end

section
/-! PROOFS. The checks of R190 on a raw frame, and the codes that stand for nothing; O30. -/

namespace Sys2Proof.Machine

/-! ### Kinds and lengths -/

/-- The kind bytes 0x01 to 0x1A are the request kinds (R199). -/
theorem requestKind?_eq_none {k : Byte} : requestKind? k = none ↔ k.toNat = 0 ∨ 0x1A < k.toNat := by
  simp only [requestKind?, List.find?_eq_none, RequestKind.all, List.forall_mem_cons, decide_eq_true_eq,
    List.not_mem_nil, false_imp_iff, implies_true, and_true]
  simp only [RequestKind.code]
  omega

theorem toNat_of_requestKind? {k : Byte} {kind : RequestKind} (h : requestKind? k = some kind) :
    k.toNat = kind.code := by
  have := List.find?_some h
  simpa using (decide_eq_true_iff.1 this).symm

/-- The value of the byte at a place of a payload, 0 past its end. -/
def byteAt (l : List Byte) (place : Nat) : Nat := (l[place]?.map (·.toNat)).getD 0

theorem byteAt_drop (l : List Byte) (n place : Nat) : byteAt (l.drop n) place = byteAt l (n + place) := by
  rw [byteAt, List.getElem?_drop, byteAt]

/-- A field of one byte is that byte. -/
theorem beNat_take_one (l : List Byte) : beNat (l.take 1) = byteAt l 0 := by
  cases l <;> simp [beNat, byteAt]

/-- The widths of a list layout add up by the list's own count (R190). -/
theorem listWidths_sum (fixed item : List Nat) (payload : List Byte) :
    (listWidths fixed item payload).sum = fixed.sum + 1 + item.sum * byteAt payload fixed.sum := by
  have count : ((payload.drop fixed.sum).head?.map (·.toNat)).getD 0 = byteAt payload fixed.sum := by
    rw [List.head?_drop, byteAt]
  have items (n : Nat) : (List.replicate n item).flatten.sum = item.sum * n := by
    induction n with
    | zero => simp
    | succ n ih => rw [List.replicate_succ, List.flatten_cons, List.sum_append, ih]; ring
  rw [listWidths, count, List.sum_append, List.sum_cons, items]
  ring

/-- The length that a kind's layout gives (R190, R199). -/
theorem layoutLength_of_kind {k : Byte} {kind : RequestKind} (h : requestKind? k = some kind) (payload : List Byte) :
    layoutLength k payload = some (kind.widths payload).sum := by
  have hk := toNat_of_requestKind? h
  unfold layoutLength
  rw [hk]
  cases kind <;> simp [RequestKind.code, RequestKind.widths, listWidths_sum, byteAt]

theorem layoutLength_eq_none {k : Byte} {payload : List Byte} :
    layoutLength k payload = none ↔ k.toNat = 0 ∨ 0x1A < k.toNat := by
  rw [← requestKind?_eq_none]
  cases h : requestKind? k with
  | some kind => simp [layoutLength_of_kind h]
  | none =>
    have hk := requestKind?_eq_none.1 h
    simp only [iff_true]
    unfold layoutLength
    dsimp only
    split
    case h_27 => rfl
    all_goals omega

theorem layoutLength_eq_some {k : Byte} {payload : List Byte} {n : Nat} :
    layoutLength k payload = some n ↔ ∃ kind, requestKind? k = some kind ∧ (kind.widths payload).sum = n := by
  cases h : requestKind? k with
  | some kind => simp [layoutLength_of_kind h]
  | none => simp [layoutLength_eq_none.2 (requestKind?_eq_none.1 h)]

/-! ### Parsing -/

theorem Frame.parse_badKind {k : Byte} (h : requestKind? k = none) (payload : List Byte) :
    (Frame.mk k payload).parse = .error .badKind := by
  simp only [Frame.parse, h]

theorem Frame.parse_badLength {k : Byte} {payload : List Byte} {kind : RequestKind} (h : requestKind? k = some kind)
    (hl : payload.length ≠ (kind.widths payload).sum) : (Frame.mk k payload).parse = .error .badLength := by
  simp only [Frame.parse, h, hl, if_false]

theorem Frame.parse_ok {k : Byte} {payload : List Byte} {kind : RequestKind} {r : Request}
    (h : requestKind? k = some kind) (hl : payload.length = (kind.widths payload).sum)
    (hr : readRequest kind (cutFields (kind.widths payload) payload) = some r) :
    (Frame.mk k payload).parse = .ok r := by
  simp only [Frame.parse, h, if_pos hl, hr]

/-- A payload cut by a kind's layout has as many fields as a request of that kind reads (R198). -/
theorem readRequest_cutFields (kind : RequestKind) (payload : List Byte) :
    ∃ r, readRequest kind (cutFields (kind.widths payload) payload) = some r ∧ r.kind = kind := by
  cases kind <;> exact ⟨_, rfl, rfl⟩

/-! ### Codes that stand for nothing (R198) -/

theorem flagOf?_eq_none {n : Nat} (h : 1 < n) : flagOf? n = none := by
  match n, h with
  | n + 2, _ => rfl

theorem side?_eq_none {n : Nat} (h : 1 < n) : side? n = none := by
  match n, h with
  | n + 2, _ => rfl

theorem activeLevel?_eq_none {n : Nat} (h : 1 < n) : activeLevel? n = none := by
  match n, h with
  | n + 2, _ => rfl

theorem sense?_eq_none {n : Nat} (h : 1 < n) : sense? n = none := by
  match n, h with
  | n + 2, _ => rfl

theorem requestedMode?_eq_none {n : Nat} (h : 3 < n) : requestedMode? n = none := by
  match n, h with
  | n + 4, _ => rfl

theorem monitorOperation?_eq_none {n : Nat} (h : 3 < n) : monitorOperation? n = none := by
  match n, h with
  | n + 4, _ => rfl

theorem selector?_eq_none {n c : Nat} (h : 3 < n) : selector? n c = none := by
  match n, h with
  | n + 4, _ => rfl

theorem readName_undefined {a n : Nat} (h : 1 < a) : readName [a, n] = some none := by
  match a, h with
  | a + 2, _ => rfl

theorem readSegment_undefined {a i d x y f r g : Nat} (h : 1 < a ∨ 1 < d) :
    readSegment [a, i, d, x, y, f, r, g] = some none := by
  rcases h with h | h
  · simp [readSegment, side?_eq_none h]
  · simp [readSegment, flagOf?_eq_none h]

theorem readInterlock_undefined {a b c d e f g : Nat} (h : 1 < a ∨ 1 < b ∨ 1 < c ∨ 7 < d ∨ 3 < e) :
    readInterlock [a, b, c, d, e, f, g] = some none := by
  rcases h with h | h | h | h | h
  · simp [readInterlock, flagOf?_eq_none h]
  · simp [readInterlock, activeLevel?_eq_none h]
  · simp [readInterlock, sense?_eq_none h]
  all_goals
    have : ¬ (d < 8 ∧ e < 4) := by omega
    simp only [readInterlock, this, if_false]
    split <;> rfl

theorem readProgram_undefined {a b c d e f g x y : Nat} (h : 8 < a ∨ 3 < b ∨ 1 < e ∨ 1 < f ∨ 1 < g) :
    readProgram [a, b, c, d, e, f, g, x, y] = some none := by
  rcases h with h | h | h | h | h
  · have : monitorEvents[a]? = none := List.getElem?_eq_none (by change 9 ≤ a; omega)
    simp [readProgram, this]
  · simp [readProgram, selector?_eq_none h]
  · simp [readProgram, flagOf?_eq_none h]
  · simp [readProgram, flagOf?_eq_none h]
  · simp [readProgram, flagOf?_eq_none h]

/-- A payload in which a coded field holds no defined code (log 5). -/
def undefinedCode (payload : List Byte) : RequestKind → Prop
  | .setMode | .controlMonitor => 3 < byteAt payload 0
  | .announcePanel => 1 < byteAt payload 11
  | .removePanel | .queryPanel => 1 < byteAt payload 0
  | .setInterlock => 1 < byteAt payload 1 ∨ 1 < byteAt payload 2 ∨ 1 < byteAt payload 3 ∨ 7 < byteAt payload 4 ∨
      3 < byteAt payload 5
  | .setMonitor => 8 < byteAt payload 1 ∨ 3 < byteAt payload 2 ∨ 1 < byteAt payload 6 ∨ 1 < byteAt payload 7 ∨
      1 < byteAt payload 8
  | .setSegment => 1 < byteAt payload 0 ∨ 1 < byteAt payload 2
  | _ => False

/-- The requests that stand for a coded field without a defined code (R190). -/
inductive Request.Undefined : Request → Prop
  | setMode : Undefined (.setMode none)
  | controlMonitor : Undefined (.controlMonitor none)
  | announcePanel : Undefined (.announcePanel none)
  | removePanel : Undefined (.removePanel none)
  | queryPanel : Undefined (.queryPanel none)
  | setInterlock (n : Nat) : Undefined (.setInterlock n none)
  | setMonitor (n : Nat) : Undefined (.setMonitor n none)
  | setSegment : Undefined (.setSegment none)

/-- Such a payload is read as such a request. -/
theorem readRequest_undefined {kind : RequestKind} {payload : List Byte} (h : undefinedCode payload kind) :
    ∃ r, readRequest kind (cutFields (kind.widths payload) payload) = some r ∧ r.Undefined ∧ r.kind = kind := by
  cases kind <;> simp only [undefinedCode] at h
  case setMode =>
    refine ⟨.setMode none, ?_, .setMode, rfl⟩
    simp [RequestKind.widths, cutFields, readRequest, beNat_take_one, requestedMode?_eq_none h]
  case controlMonitor =>
    refine ⟨.controlMonitor none, ?_, .controlMonitor, rfl⟩
    simp [RequestKind.widths, cutFields, readRequest, beNat_take_one, monitorOperation?_eq_none h]
  case announcePanel =>
    refine ⟨.announcePanel none, ?_, .announcePanel, rfl⟩
    simp [RequestKind.widths, cutFields, readRequest, readEntry, beNat_take_one, byteAt_drop, flagOf?_eq_none h]
  case removePanel =>
    refine ⟨.removePanel none, ?_, .removePanel, rfl⟩
    simp [RequestKind.widths, cutFields, readRequest, beNat_take_one, readName_undefined h]
  case queryPanel =>
    refine ⟨.queryPanel none, ?_, .queryPanel, rfl⟩
    simp [RequestKind.widths, cutFields, readRequest, beNat_take_one, readName_undefined h]
  case setInterlock =>
    refine ⟨.setInterlock (byteAt payload 0) none, ?_, .setInterlock _, rfl⟩
    simp [RequestKind.widths, cutFields, readRequest, beNat_take_one, byteAt_drop, readInterlock_undefined h,
      -List.drop_one]
  case setMonitor =>
    refine ⟨.setMonitor (byteAt payload 0) none, ?_, .setMonitor _, rfl⟩
    simp [RequestKind.widths, cutFields, readRequest, beNat_take_one, byteAt_drop, readProgram_undefined h,
      -List.drop_one]
  case setSegment =>
    refine ⟨.setSegment none, ?_, .setSegment, rfl⟩
    simp [RequestKind.widths, cutFields, readRequest, beNat_take_one, byteAt_drop, readSegment_undefined h]

/-- Such a request is answered BAD_VALUE, a SetSegment in OFFLINE with a profile (R6, R190). -/
theorem serve_undefined {s : State} {r : Request} (h : r.Undefined)
    (hs : r.kind = .setSegment → s.mode = .offline ∧ s.profile ≠ none) : serve r s = refuse s .badValue := by
  cases h with
  | setSegment =>
    obtain ⟨hm, hp⟩ := hs rfl
    obtain ⟨p, hp⟩ := Option.ne_none_iff_exists'.1 hp
    simp only [serve, serveSetSegment, hm, ne_eq, not_true_eq_false, if_false, hp]
  | setInterlock n =>
    simp only [serve, serveSetInterlock, State.setInterlock]
    split <;> simp_all [plainServed, refuse]
  | setMonitor n =>
    simp only [serve, serveSetMonitor]
    split <;> simp_all
  | setMode => rfl
  | controlMonitor => rfl
  | announcePanel => rfl
  | removePanel => rfl
  | queryPanel => rfl

/-! ### What a complete frame meets (R189) -/

theorem exec_frameReceived (k : Byte) (payload : List Byte) (s : State) :
    exec (.frameReceived k payload) s = done (s.arrive ⟨k, payload⟩) := rfl

theorem exec_badKind {k : Byte} (h : requestKind? k = none) (s : State) :
    exec (.badKind k) s = done (s.arrive ⟨k, []⟩) := by
  change done (if (requestKind? k).isNone then s.arrive ⟨k, []⟩ else s) = _
  rw [h, Option.isNone_none, if_pos rfl]

/-- Behind a request in hand a frame waits in the hold buffer. -/
theorem done_meet_held {s : State} (hs : s.settled = true) (hp : s.pins.resetHeld = false)
    (hi : s.link.inHand.isSome = true) (hh : s.link.held = none) (f : Frame) (take : State → State) :
    done (s.meet f take) =
      .next { s with link := { s.link with receiver := .hunt, gap := 0, held := some f } } := by
  rw [State.meet_held hp hi hh, done_behind hs hi]

/-- At a full hold buffer it is discarded. -/
theorem done_meet_full {s : State} (hs : s.settled = true) (hp : s.pins.resetHeld = false)
    (hi : s.link.inHand.isSome = true) (hh : s.link.held.isSome = true) (f : Frame) (take : State → State) :
    done (s.meet f take) = .next { s with link := { s.link with receiver := .hunt, gap := 0 } } := by
  rw [State.meet_full hp hi hh]
  exact done_behind hs hi s.link.held

/-- A frame that a check refuses is answered (R190). -/
theorem done_arrive_error {s : State} (hs : s.settled = true) (hp : s.pins.resetHeld = false)
    (hi : s.link.inHand = none) {f : Frame} {code : ResultCode} (hf : f.parse = .error code) :
    done (s.arrive f) = .next { s with link := s.link.answered f code .nothing } := by
  rw [State.arrive, State.meet_taken hp hi, State.takeFrame, hf, done_putInHand hs hi]

/-- A well-formed frame is taken as its request (R189, R190). -/
theorem arrive_ok {s : State} (hp : s.pins.resetHeld = false) (hi : s.link.inHand = none) {f : Frame} {r : Request}
    (hf : f.parse = .ok r) : s.arrive f = s.hunting.takeRequest f r := by
  rw [State.arrive, State.meet_taken hp hi, State.takeFrame, hf]

/-- The kinds of the payloads in which a coded field holds no defined code, by kind byte; the guard of SetSegment's
checks apart (R6). -/
theorem undefinedCode_of_kind {k : Byte} {payload : List Byte} {kind : RequestKind} (hk : requestKind? k = some kind)
    {offline : Prop}
    (h : (k = 0x07#8 ∨ k = 0x15#8) ∧ 3 < byteAt payload 0 ∨ k = 0x0C#8 ∧ 1 < byteAt payload 11 ∨
      (k = 0x0E#8 ∨ k = 0x0F#8) ∧ 1 < byteAt payload 0 ∨
      k = 0x11#8 ∧ (1 < byteAt payload 1 ∨ 1 < byteAt payload 2 ∨ 1 < byteAt payload 3 ∨ 7 < byteAt payload 4 ∨
        3 < byteAt payload 5) ∨
      k = 0x14#8 ∧ (8 < byteAt payload 1 ∨ 3 < byteAt payload 2 ∨ 1 < byteAt payload 6 ∨ 1 < byteAt payload 7 ∨
        1 < byteAt payload 8) ∨
      k = 0x02#8 ∧ offline ∧ (1 < byteAt payload 0 ∨ 1 < byteAt payload 2)) :
    undefinedCode payload kind ∧ (kind = .setSegment → offline) := by
  have known {c : Byte} {other : RequestKind} (hc : k = c) (ho : requestKind? c = some other) : kind = other := by
    rw [hc, ho] at hk
    exact (Option.some.inj hk).symm
  rcases h with ⟨hc | hc, h⟩ | ⟨hc, h⟩ | ⟨hc | hc, h⟩ | ⟨hc, h⟩ | ⟨hc, h⟩ | ⟨hc, ho, h⟩
  · obtain rfl := known (other := .setMode) hc rfl
    exact ⟨h, nofun⟩
  · obtain rfl := known (other := .controlMonitor) hc rfl
    exact ⟨h, nofun⟩
  · obtain rfl := known (other := .announcePanel) hc rfl
    exact ⟨h, nofun⟩
  · obtain rfl := known (other := .removePanel) hc rfl
    exact ⟨h, nofun⟩
  · obtain rfl := known (other := .queryPanel) hc rfl
    exact ⟨h, nofun⟩
  · obtain rfl := known (other := .setInterlock) hc rfl
    exact ⟨h, nofun⟩
  · obtain rfl := known (other := .setMonitor) hc rfl
    exact ⟨h, nofun⟩
  · obtain rfl := known (other := .setSegment) hc rfl
    exact ⟨h, fun _ => ho⟩

/-- Its third check: during BOOT every kind but QueryLine is answered BOOTING (R147, R190). -/
theorem done_arrive_booting {s : State} (hs : s.settled = true) (hp : s.pins.resetHeld = false)
    (hi : s.link.inHand = none) (hm : s.mode = .boot) {f : Frame} {r : Request} (hf : f.parse = .ok r)
    (hr : r ≠ .queryLine) : done (s.arrive f) = .next { s with link := s.link.answered f .booting .nothing } := by
  rw [arrive_ok hp hi hf, State.takeRequest_booting (s := s.hunting) hm hr, done_putInHand hs hi]

/-- A coded field without a defined code is answered BAD_VALUE (R190). -/
theorem done_arrive_undefined {s : State} (hs : s.settled = true) (hp : s.pins.resetHeld = false)
    (hi : s.link.inHand = none) (hm : s.mode ≠ .boot) {f : Frame} {r : Request} (hf : f.parse = .ok r)
    (hu : r.Undefined) (hseg : r.kind = .setSegment → s.mode = .offline ∧ s.profile ≠ none) :
    done (s.arrive f) = .next { s with link := s.link.answered f .badValue .nothing } := by
  have served : serve r s.hunting = refuse s.hunting .badValue := serve_undefined hu hseg
  have lasting : r ≠ .restart := by rintro rfl; cases hu
  rw [arrive_ok hp hi hf, State.takeRequest_refused (s := s.hunting) (.inl hm) served lasting, done_putInHand hs hi]

/-- Settles O30: the hold buffer, the checks in their order, and the request rows. -/
theorem frameMeetsLink : Obligations.FrameMeetsLink := by
  unfold Obligations.FrameMeetsLink
  refine ⟨?_, ?_, ?_, ?_⟩
  · intro s k payload hs hp f hunting
    refine ⟨fun hi hh => ?_, fun hi hh => ?_, fun hi code hf => ?_, fun hi hk => ⟨?_, Frame.parse_badKind hk _⟩⟩
    · exact (exec_frameReceived k payload s).trans (done_meet_held hs hp hi hh f _)
    · exact (exec_frameReceived k payload s).trans (done_meet_full hs hp hi hh f _)
    · exact (exec_frameReceived k payload s).trans (done_arrive_error hs hp hi hf)
    · exact (exec_badKind hk s).trans (done_arrive_error hs hp hi (Frame.parse_badKind hk []))
  · intro s k payload hs hp hi b undefinedCode answered
    refine ⟨requestKind?_eq_none, layoutLength_eq_none, fun hl => ?_, fun n hn hl => ?_, fun hl => ?_⟩
    · have hk := requestKind?_eq_none.2 (layoutLength_eq_none.1 hl)
      exact done_arrive_error hs hp hi (Frame.parse_badKind hk payload)
    · obtain ⟨kind, hk, rfl⟩ := layoutLength_eq_some.1 hn
      exact done_arrive_error hs hp hi (Frame.parse_badLength hk hl)
    · obtain ⟨kind, hk, hlen⟩ := layoutLength_eq_some.1 hl
      obtain ⟨r, hr, hkind⟩ := readRequest_cutFields kind payload
      refine ⟨⟨r, Frame.parse_ok hk hlen.symm hr⟩, fun hm hq => ?_, fun hm hu => ?_⟩
      · refine done_arrive_booting hs hp hi hm (Frame.parse_ok hk hlen.symm hr) ?_
        rintro rfl
        subst hkind
        exact hq (BitVec.eq_of_toNat_eq (toNat_of_requestKind? hk))
      · obtain ⟨hu, hseg⟩ := undefinedCode_of_kind (offline := s.mode = .offline ∧ s.profile ≠ none) hk
          (by simpa only [undefinedCode, byteAt, and_assoc] using hu)
        obtain ⟨r, hr, undef, rfl⟩ := readRequest_undefined hu
        exact done_arrive_undefined hs hp hi hm (Frame.parse_ok hk hlen.symm hr) undef hseg
  · intro i r s hr hs hp
    rw [exec_of_request hr]
    refine ⟨fun hi hm hq => ?_, fun hi hh => done_meet_held hs hp hi hh r.frame _,
      fun hi hh => done_meet_full hs hp hi hh r.frame _⟩
    exact (exec_of_request hr s).symm.trans (exec_booting hr hs hp hi hm hq)
  · intro s hs hp hi
    have served : serve .queryLine s.hunting = ⟨.ok, .line s.lineView, s.hunting⟩ := rfl
    rw [exec_of_request (r := .queryLine) rfl, State.arriveRequest, State.meet_taken hp hi,
      State.takeRequest_refused (.inr rfl) served (by simp), done_putInHand hs hi]
    rfl

end Sys2Proof.Machine
end

section
/-! PROOFS. A millimetre of travel (R29, R18), record by record; O11. -/

namespace Sys2Proof.Machine

/-- The record a millimetre on. -/
def TrackRecord.forth (r : TrackRecord) : TrackRecord := { r with position := r.position + 1 }

/-- The millimetre is withheld from a record at the limit, or a millimetre behind one that stayed (R29). -/
def TrackRecord.withheld (limit : Nat) (ahead : Option Nat) (r : TrackRecord) : Prop :=
  limit ≤ r.position ∨ ahead = some (r.position + 1)

theorem moveTrack_withheld {limit : Nat} {ahead : Option Nat} {r : TrackRecord} (h : r.withheld limit ahead)
    (l : List TrackRecord) : moveTrack limit ahead (r :: l) = r :: moveTrack limit (some r.position) l := if_pos h

theorem moveTrack_forth {limit : Nat} {ahead : Option Nat} {r : TrackRecord} (h : ¬ r.withheld limit ahead)
    (l : List TrackRecord) : moveTrack limit ahead (r :: l) = r.forth :: moveTrack limit none l := if_neg h

theorem moveTrack_forall₂ (limit : Nat) : ∀ (l : List TrackRecord) (ahead : Option Nat),
    List.Forall₂ (fun r t => t = r ∨ t = r.forth) l (moveTrack limit ahead l)
  | [], _ => .nil
  | r :: l, ahead => by
    by_cases h : r.withheld limit ahead
    · rw [moveTrack_withheld h]; exact .cons (.inl rfl) (moveTrack_forall₂ limit l _)
    · rw [moveTrack_forth h]; exact .cons (.inr rfl) (moveTrack_forall₂ limit l _)

/-- What the millimetre does to the first of the records that follow. -/
theorem head?_moveTrack (limit : Nat) (ahead : Option Nat) (r : TrackRecord) (l : List TrackRecord) :
    (moveTrack limit ahead (r :: l))[0]? =
      some (if limit ≤ r.position ∨ ahead = some (r.position + 1) then r else r.forth) := by
  by_cases h : r.withheld limit ahead
  · rw [moveTrack_withheld h]; exact congrArg some (if_pos h).symm
  · rw [moveTrack_forth h]; exact congrArg some (if_neg h).symm

/-- A record stays at the limit, or where the one before it stayed a millimetre ahead of it (R29). -/
theorem getElem?_moveTrack_succ (limit : Nat) (l : List TrackRecord) : ∀ (ahead : Option Nat) (i : Nat)
    (a r : TrackRecord), l[i]? = some a → l[i + 1]? = some r →
    (moveTrack limit ahead l)[i + 1]? =
      some (if limit ≤ r.position ∨ (moveTrack limit ahead l)[i]? = some a ∧ a.position = r.position + 1 then r
        else r.forth) := by
  induction l with
  | nil => simp
  | cons b l ih =>
    intro ahead i a r ha hr
    rw [List.getElem?_cons_succ] at hr
    cases i with
    | succ i =>
      rw [List.getElem?_cons_succ] at ha
      by_cases h : b.withheld limit ahead
      · rw [moveTrack_withheld h]; exact ih _ i a r ha hr
      · rw [moveTrack_forth h]; exact ih _ i a r ha hr
    | zero =>
      obtain rfl : b = a := by simpa using ha
      obtain ⟨rest, rfl⟩ : ∃ rest, l = r :: rest := by
        cases l with
        | nil => simp at hr
        | cons c rest => exact ⟨rest, by simpa using hr⟩
      by_cases h : b.withheld limit ahead
      · rw [moveTrack_withheld h, List.getElem?_cons_succ, head?_moveTrack]
        simp
      · have moved : b.forth ≠ b := fun e => Nat.succ_ne_self b.position (congrArg TrackRecord.position e)
        rw [moveTrack_forth h, List.getElem?_cons_succ, head?_moveTrack]
        simp [moved]

/-- Positions strictly falling along the track (R18). -/
def Falling (l : List TrackRecord) : Prop := (l.map (·.position)).Pairwise (· > ·)

theorem falling_cons {r : TrackRecord} {l : List TrackRecord} :
    Falling (r :: l) ↔ (∀ t ∈ l, t.position < r.position) ∧ Falling l := by
  simp [Falling]

/-- A record behind another is at most where that one stood before the millimetre. -/
theorem moveTrack_le {limit : Nat} {ahead : Option Nat} {p : Nat} {l : List TrackRecord}
    (h : ∀ r ∈ l, r.position < p) : ∀ t ∈ moveTrack limit ahead l, t.position ≤ p := by
  intro t ht
  obtain ⟨u, hu, rfl | rfl⟩ := mem_moveTrack ht
  · exact (h _ hu).le
  · exact h u hu

/-- No record reaches one before it that stayed. -/
theorem moveTrack_lt_ahead {limit p : Nat} {l : List TrackRecord} (hl : Falling l) (h : ∀ r ∈ l, r.position < p) :
    ∀ t ∈ moveTrack limit (some p) l, t.position < p := by
  cases l with
  | nil => simp [moveTrack]
  | cons r l =>
    obtain ⟨behind, -⟩ := falling_cons.1 hl
    have hr := h r List.mem_cons_self
    have rest {ahead : Option Nat} : ∀ t ∈ moveTrack limit ahead l, t.position < p :=
      fun t ht => (moveTrack_le behind t ht).trans_lt hr
    by_cases stays : r.withheld limit (some p)
    · rw [moveTrack_withheld stays]
      exact List.forall_mem_cons.2 ⟨hr, rest⟩
    · have room : p ≠ r.position + 1 := fun e => stays (.inr (congrArg some e))
      rw [moveTrack_forth stays]
      exact List.forall_mem_cons.2 ⟨by simp only [TrackRecord.forth]; omega, rest⟩

theorem moveTrack_falling (limit : Nat) : ∀ (l : List TrackRecord) (ahead : Option Nat), Falling l →
    Falling (moveTrack limit ahead l)
  | [], _, _ => by simp [Falling, moveTrack]
  | r :: l, ahead, h => by
    obtain ⟨behind, hl⟩ := falling_cons.1 h
    by_cases stays : r.withheld limit ahead
    · rw [moveTrack_withheld stays]
      exact falling_cons.2 ⟨moveTrack_lt_ahead hl behind, moveTrack_falling limit l _ hl⟩
    · rw [moveTrack_forth stays]
      exact falling_cons.2 ⟨fun t ht => Nat.lt_succ_of_le (moveTrack_le behind t ht), moveTrack_falling limit l _ hl⟩

theorem moveTrack_le_limit (limit : Nat) : ∀ (l : List TrackRecord) (ahead : Option Nat),
    (∀ r ∈ l, r.position ≤ limit) → ∀ t ∈ moveTrack limit ahead l, t.position ≤ limit
  | [], _, _ => by simp [moveTrack]
  | r :: l, ahead, h => by
    obtain ⟨hr, hl⟩ := List.forall_mem_cons.1 h
    by_cases stays : r.withheld limit ahead
    · rw [moveTrack_withheld stays]
      exact List.forall_mem_cons.2 ⟨hr, moveTrack_le_limit limit l _ hl⟩
    · have below : ¬ limit ≤ r.position := fun k => stays (.inl k)
      rw [moveTrack_forth stays]
      exact List.forall_mem_cons.2 ⟨by simp only [TrackRecord.forth]; omega, moveTrack_le_limit limit l _ hl⟩

/-- A record from which the millimetre is withheld stands behind the limit by less than the number of records: each
record that stays stands at the limit or one millimetre behind another that stays. -/
theorem moveTrack_moves_or_crowds {limit m : Nat} : ∀ (l : List TrackRecord) (ahead : Option Nat) (i : Nat),
    (∀ r ∈ l, m ≤ r.position) → (∀ p, ahead = some p → limit ≤ p + i) →
    ∀ t ∈ moveTrack limit ahead l, m + 1 ≤ t.position ∨ limit ≤ t.position + (i + l.length)
  | [], _, _, _, _ => by simp [moveTrack]
  | r :: l, ahead, i, h, crowd => by
    obtain ⟨hr, hl⟩ := List.forall_mem_cons.1 h
    by_cases stays : r.withheld limit ahead
    · have near : limit ≤ r.position + (i + 1) := by
        rcases stays with k | k
        · omega
        · have := crowd _ k; omega
      rw [moveTrack_withheld stays]
      refine List.forall_mem_cons.2 ⟨.inr (by rw [List.length_cons]; omega), fun t ht => ?_⟩
      have := moveTrack_moves_or_crowds l _ (i + 1) hl (by rintro p ⟨⟩; exact near) t ht
      rw [List.length_cons]; omega
    · rw [moveTrack_forth stays]
      refine List.forall_mem_cons.2 ⟨.inl (Nat.succ_le_succ hr), fun t ht => ?_⟩
      have := moveTrack_moves_or_crowds l none i hl (by simp) t ht
      rw [List.length_cons]; omega

/-- Settles O11, along the records from the foremost on. -/
theorem moveTrackKeepsOrder : Obligations.MoveTrackKeepsOrder := by
  unfold Obligations.MoveTrackKeepsOrder
  intro limit l
  refine ⟨moveTrack_forall₂ limit l none, ?_, getElem?_moveTrack_succ limit l none,
    fun falling bound => ⟨moveTrack_falling limit l none falling, moveTrack_le_limit limit l none bound⟩⟩
  rintro r rest rfl
  rw [List.head?_eq_getElem?, head?_moveTrack]
  simp [TrackRecord.forth]

end Sys2Proof.Machine
end

section
/-! PROOFS. What most events keep of the panels: the staging queue, the entry-number counter and the eye filter as they
stand, no record bound to the track, none moved, and EXIT_HIGH with the exit list; O58. -/

namespace Sys2Proof.Machine

/-- What a record is bound with, and where it stands: entry number, panel id, recipe, leading edge (R19, R23). -/
def TrackRecord.binding (r : TrackRecord) : Nat × Nat × Option Nat × Nat := (r.entry, r.panelId, r.recipe, r.position)

/-- The number of ENTERING records. -/
def State.enterings (s : State) : Nat := (s.track.filter fun r => r.state = .entering).length

/-- The exit list within its capacity, and EXIT_HIGH exactly at 12 or more (R38, R39). -/
def State.ExitsFit (s : State) : Prop :=
  s.exits.length ≤ 16 ∧ s.lineStop.exitHigh = decide (12 ≤ s.exits.length)

/-- What of the panels stands in `t` as in `s`: the profile and the recipes, the staging queue, the counter, the eye
filter; records may have left the track or ended ENTERING, but none is bound and none moves. -/
structure PanelsKept (s t : State) : Prop where
  profile : t.profile = s.profile
  recipes : t.recipes = s.recipes
  staging : t.staging = s.staging
  nextEntry : t.nextEntry = s.nextEntry
  accepted : t.conveyor.accepted = s.conveyor.accepted
  debounce : t.conveyor.debounce = s.conveyor.debounce
  track : (t.track.map TrackRecord.binding).Sublist (s.track.map TrackRecord.binding)
  enterings : t.enterings ≤ s.enterings
  exits : s.ExitsFit → t.ExitsFit

/-- The parts of the state that `PanelsKept` compares, as they stand. -/
def State.panelParts (s : State) :=
  (s.profile, s.recipes, s.staging, s.nextEntry, s.conveyor.accepted, s.conveyor.debounce, s.track, s.exits,
    s.lineStop.exitHigh)

namespace PanelsKept

theorem of_parts {s t : State} (h : t.panelParts = s.panelParts) : PanelsKept s t := by
  simp only [State.panelParts, Prod.mk.injEq] at h
  obtain ⟨profile, recipes, staging, nextEntry, accepted, debounce, track, exits, exitHigh⟩ := h
  exact ⟨profile, recipes, staging, nextEntry, accepted, debounce, by rw [track], by rw [State.enterings, track]; rfl,
    by rw [State.ExitsFit, State.ExitsFit, exits, exitHigh]; exact id⟩

theorem refl (s : State) : PanelsKept s s := of_parts rfl

theorem trans {s t u : State} (h : PanelsKept s t) (k : PanelsKept t u) : PanelsKept s u where
  profile := k.profile.trans h.profile
  recipes := k.recipes.trans h.recipes
  staging := k.staging.trans h.staging
  nextEntry := k.nextEntry.trans h.nextEntry
  accepted := k.accepted.trans h.accepted
  debounce := k.debounce.trans h.debounce
  track := k.track.trans h.track
  enterings := k.enterings.trans h.enterings
  exits := k.exits ∘ h.exits

/-- The work on channels touches the records' in-flight counts alone. -/
theorem of_work {s t : State} (h : ChannelWork s t) (k : SameRecords s t) : PanelsKept s t := by
  have bindings : t.track.map TrackRecord.binding = s.track.map TrackRecord.binding := by
    have := congrArg (List.map TrackRecord.binding) k
    rwa [List.map_map, List.map_map] at this
  have enterings : t.enterings = s.enterings := by
    have := congrArg (List.countP fun r => r.state = .entering) k
    rw [List.countP_map, List.countP_map] at this
    rw [State.enterings, State.enterings, ← List.countP_eq_length_filter, ← List.countP_eq_length_filter]
    exact this
  exact ⟨h.profile, h.recipes, h.staging, h.nextEntry, congrArg _ h.conveyor, congrArg _ h.conveyor,
    bindings ▸ List.Sublist.refl _, enterings.le, by rw [State.ExitsFit, State.ExitsFit, h.exits, h.lineStop]; exact id⟩

theorem forList {f : Chan → State → State} (h : ∀ c s, PanelsKept s (f c s)) (l : List Chan) (s : State) :
    PanelsKept s (s.forList l f) :=
  State.forList_keeps (P := PanelsKept s) (fun c t ht => ht.trans (h c t)) l s (refl s)

theorem forChans {f : Chan → State → State} (h : ∀ c s, PanelsKept s (f c s)) (s : State) :
    PanelsKept s (s.forChans f) := forList h Chan.all s

theorem foldl {f : State → α → State} (h : ∀ s a, PanelsKept s (f s a)) : ∀ (l : List α) (s : State),
    PanelsKept s (l.foldl f s)
  | [], s => refl s
  | a :: l, s => (h s a).trans (foldl h l (f s a))

/-! ### The shared operations -/

theorem updChan (s : State) (c : Chan) (f : Channel → Channel) : PanelsKept s (s.updChan c f) := of_parts rfl

theorem updLink (s : State) (f : LineLink → LineLink) : PanelsKept s (s.updLink f) := of_parts rfl

theorem raise (s : State) (k : NoticeKind) : PanelsKept s (s.raise k) := of_parts rfl

theorem updInterlock (s : State) (i : Input) (f : Interlock → Interlock) : PanelsKept s (s.updInterlock i f) :=
  of_parts rfl

/-- A change of the line-stop cause set that leaves EXIT_HIGH. -/
theorem changeLineStop (s : State) {f : LineStopCauses → LineStopCauses} (hf : ∀ l, (f l).exitHigh = l.exitHigh) :
    PanelsKept s (s.changeLineStop f) := by
  refine of_parts ?_
  unfold State.changeLineStop
  dsimp only
  split <;> simp [State.panelParts, hf]

theorem trackingCause (s : State) {f : LineStopCauses → LineStopCauses} (hf : ∀ l, (f l).exitHigh = l.exitHigh) :
    PanelsKept s (s.trackingCause f) := (raise ..).trans (changeLineStop _ hf)

theorem settle (s : State) : PanelsKept s (settle s) := of_work (.settle s) (.settle s)

theorem startOccasions (s : State) : PanelsKept s s.startOccasions :=
  of_work (.startOccasions s) (.startOccasions s)

theorem toFaulted (s : State) (c : Chan) (cause : FaultCause) : PanelsKept s (s.toFaulted c cause) :=
  of_work (.toFaulted ..) (.toFaulted ..)

theorem arbiter (s : State) (g : BusGroup) : PanelsKept s (s.arbiter g) := of_work (.arbiter ..) (.arbiter ..)

theorem arbiterOf (s : State) (c : Chan) : PanelsKept s (s.arbiterOf c) := of_work (.arbiterOf ..) (.arbiterOf ..)

theorem loneZeroIfDue (s : State) (c : Chan) : PanelsKept s (s.loneZeroIfDue c) :=
  of_work (.loneZeroIfDue ..) (.loneZeroIfDue ..)

theorem zeroOutcome (s : State) (c : Chan) (lone valid : Bool) : PanelsKept s (s.zeroOutcome c lone valid) :=
  of_work (.zeroOutcome ..) (.zeroOutcome ..)

theorem startPeriod (s : State) (c : Chan) (g : Nat) : PanelsKept s (s.startPeriod c g) :=
  of_work (.startPeriod ..) (.startPeriod ..)

theorem takeRule (s : State) (c : Chan) (ended : Option Nat) : PanelsKept s (s.takeRule c ended) :=
  of_work (.takeRule ..) (.takeRule ..)

theorem beginDrain (s : State) (c : Chan) (d : Destination) : PanelsKept s (s.beginDrain c d) :=
  of_work (.beginDrain ..) (.beginDrain ..)

/-! ### Records -/

/-- A change of records that leaves their bindings and makes none ENTERING. -/
theorem mapTrack (s : State) {f : TrackRecord → TrackRecord} (binding : ∀ r, (f r).binding = r.binding)
    (entering : ∀ r, (f r).state = .entering → r.state = .entering) :
    PanelsKept s { s with track := s.track.map f } where
  profile := rfl
  recipes := rfl
  staging := rfl
  nextEntry := rfl
  accepted := rfl
  debounce := rfl
  track := by
    rw [List.map_map, show TrackRecord.binding ∘ f = TrackRecord.binding from funext binding]
  enterings := by
    simp only [State.enterings, ← List.countP_eq_length_filter, List.countP_map]
    exact List.countP_mono_left fun r _ h => by simpa using entering r (by simpa using h)
  exits := id

theorem updRecord (s : State) (n : Nat) {f : TrackRecord → TrackRecord} (binding : ∀ r, (f r).binding = r.binding)
    (entering : ∀ r, (f r).state = .entering → r.state = .entering) : PanelsKept s (s.updRecord n f) := by
  refine mapTrack s (fun r => ?_) (fun r => ?_)
  · split
    · exact binding r
    · rfl
  · split
    · exact entering r
    · exact id

/-- An arrival in the exit list sets EXIT_HIGH where it is the twelfth record (R38, R39). -/
theorem exitArrives (s : State) (e : ExitRecord) : PanelsKept s (s.exitArrives e) := by
  let joined : State :=
    { s with
      exits := joinExits e s.exits
      lineStop := if s.exits.length = 11 then { s.lineStop with exitHigh := true } else s.lineStop }
  have joins : PanelsKept s joined :=
    { refl s with
      exits := by
        rintro ⟨capacity, high⟩
        simp only [State.ExitsFit, joined, joinExits_eq, apply_ite LineStopCauses.exitHigh, high]
        by_cases h : s.exits.length < 16
        · simp only [if_pos h, List.length_append, List.length_singleton]
          refine ⟨by omega, ?_⟩
          split <;> simp <;> omega
        · simp only [if_neg h, List.length_append, List.length_singleton, List.length_tail]
          refine ⟨by omega, ?_⟩
          rw [if_neg (by omega)]
          simp; omega }
  refine joins.trans (of_parts ?_)
  by_cases h : s.exits.length = 11
  · simp [State.exitArrives, Config.exitHighAt, State.panelParts, joined, h]
  · simp [State.exitArrives, Config.exitHighAt, State.panelParts, joined, h]

theorem leaveIfDone (s : State) (entry : Nat) : PanelsKept s (s.leaveIfDone entry) := by
  have gone : PanelsKept s { s with track := s.track.filter fun t => t.entry ≠ entry } :=
    { refl s with
      track := List.filter_sublist.map _
      enterings := (List.filter_sublist.filter _).length_le }
  unfold State.leaveIfDone State.leaveTrack
  split
  · exact refl s
  · split
    · split
      · exact refl s
      · exact gone.trans (exitArrives ..)
    · exact refl s

/-- An accounting credits records and takes finished ones off the track (R134, R36). -/
theorem account (s : State) (p : PeriodRecord) (note : CloseNote) (report : Option PeriodReport) :
    PanelsKept s (s.account p note report) := by
  have credited (e : Bool) (q : Nat × Nat) : PanelsKept s (s.creditAll p note e q) := by
    refine mapTrack s (fun r => ?_) (fun r => ?_)
    · split <;> rfl
    · split <;> exact id
  have counted (t : State) (x : Sample) (f r : Nat) :
      PanelsKept t ((t.sample p.channel x).anodeCount p.channel f r) :=
    (of_work (.sample ..) (.sample ..)).trans (of_parts rfl)
  exact ((credited _ _).trans (foldl (fun t (q : Contributor) => leaveIfDone t q.entry) _ _)).trans (counted ..)

theorem depart (s : State) (cause : DepartureCause) (p : TrackRecord → Bool) :
    PanelsKept s { s with track := s.track.map fun r => if p r then r.depart cause else r } := by
  refine mapTrack s (fun r => ?_) (fun r => ?_)
  · split <;> rfl
  · split
    · simp [TrackRecord.depart]
    · exact id

theorem judgeEyeStuck (s : State) : PanelsKept s s.judgeEyeStuck := by
  unfold State.judgeEyeStuck
  split
  · refine (mapTrack s (fun r => ?_) (fun r => ?_)).trans (trackingCause _ fun _ => rfl)
    · split <;> rfl
    · split
      · simp
      · exact id
  · exact refl s

theorem judgeDepartures (s : State) : PanelsKept s s.judgeDepartures :=
  ((depart s .passed s.passedOut).trans (of_work (.realign _) (.realign _))).trans (foldl leaveIfDone _ _)

theorem removeRecord (s : State) (r : TrackRecord) : PanelsKept s (s.removeRecord r) := by
  unfold State.removeRecord
  split
  · exact refl s
  · have departs : PanelsKept s (s.updRecord r.entry (TrackRecord.depart .removed)) :=
      updRecord s r.entry (fun _ => rfl) (fun _ h => by simp [TrackRecord.depart] at h)
    exact (departs.trans (of_work (.realign _) (.realign _))).trans (leaveIfDone ..)

/-! ### Reports, clocks and timers -/

theorem settleWindow (s : State) (c : Chan) (w : Window) (report : Option PeriodReport) :
    PanelsKept s (s.settleWindow c w report) := by
  unfold State.settleWindow
  dsimp only
  split
  · exact zeroOutcome ..
  · split
    · exact (account ..).trans (zeroOutcome ..)
    · exact account ..

theorem heard_keepZero (s : State) (c : Chan) (r : PeriodReport) : PanelsKept s ((s.heard c).keepZero c r) := by
  unfold State.keepZero
  split <;> exact of_parts rfl

theorem reportFault (s : State) (c : Chan) (r : PeriodReport) : PanelsKept s (s.reportFault c r) := by
  unfold State.reportFault
  split
  · exact refl s
  · exact toFaulted ..

theorem earlyStop (s : State) (c : Chan) (p : InFlight) (r : PeriodReport) : PanelsKept s (s.earlyStop c p r) := by
  unfold State.earlyStop
  dsimp only
  have accounted := ((updChan s c fun ch => { ch.zeroed with period := .idle }).trans (heard_keepZero _ c r)).trans
    (account _ p.record (closeNote p true (s.chan c).stale) (some r))
  split
  · exact (accounted.trans (zeroOutcome ..)).trans (reportFault ..)
  · exact accounted.trans (reportFault ..)

theorem takeReport (s : State) (c : Chan) (r : PeriodReport) : PanelsKept s (s.takeReport c r) := by
  unfold State.takeReport
  split
  · exact refl s
  · split
    · rename_i w _
      have used : PanelsKept s (((s.closeWindow c w).heard c).keepZero c r) :=
        (updChan ..).trans (heard_keepZero ..)
      exact (used.trans (settleWindow ..)).trans (reportFault ..)
    · split
      · split
        · exact earlyStop ..
        · exact updChan ..
      · exact updChan ..

theorem windowCloses (s : State) (c : Chan) : PanelsKept s (s.windowCloses c) := by
  have missed (t : State) : PanelsKept t (t.missed c) := by
    unfold State.missed
    split
    · exact refl t
    · split
      · exact toFaulted ..
      · exact updChan ..
  unfold State.windowCloses
  split
  · exact refl s
  · exact ((updChan ..).trans (settleWindow ..)).trans (missed _)

theorem takeArmReport (s : State) (c : Chan) (code : Nat) : PanelsKept s (s.takeArmReport c code) := by
  unfold State.takeArmReport
  split
  · split
    · exact ((updChan ..).trans (of_work (.toReady ..) (.toReady ..))).trans (arbiterOf ..)
    · exact toFaulted ..
  · split
    · exact refl s
    · exact updChan ..

theorem setClock (s : State) (entry : Nat) (k : PhaseClock) :
    PanelsKept s (s.updRecord entry fun r => { r with clock := some k }) :=
  updRecord s entry (fun _ => rfl) (fun _ => id)

theorem passBoundary (s : State) (entry : Nat) (k : PhaseClock) (t : Timing) :
    PanelsKept s (s.passBoundary entry k t) := by
  refine (setClock s entry _).trans (forChans (fun c u => ?_) _)
  split
  · unfold State.alignEnds
    split
    · exact startPeriod ..
    · exact takeRule ..
  · exact refl u

theorem phaseIntervalEnds (s : State) (entry : Nat) : PanelsKept s (s.phaseIntervalEnds entry) := by
  unfold State.phaseIntervalEnds
  split
  · exact refl s
  · split
    · exact setClock ..
    · exact passBoundary ..

theorem phaseBoundaryComes (s : State) (entry : Nat) : PanelsKept s (s.phaseBoundaryComes entry) := by
  unfold State.phaseBoundaryComes
  split
  · exact refl s
  · split
    · exact passBoundary ..
    · exact refl s

theorem endPeriod (s : State) (c : Chan) (p : InFlight) : PanelsKept s (s.endPeriod c p) := by
  unfold State.endPeriod
  dsimp only
  split
  · exact (updChan ..).trans (of_work (.stepDrain ..) (.stepDrain ..))
  · exact (updChan ..).trans (takeRule ..)

theorem channelIntervalEnds (s : State) (c : Chan) : PanelsKept s (s.channelIntervalEnds c) := by
  unfold State.channelIntervalEnds
  split
  · split
    · exact updChan ..
    · exact endPeriod ..
  · exact refl s

theorem periodEnds (s : State) (c : Chan) : PanelsKept s (s.periodEnds c) := by
  unfold State.periodEnds
  split
  · split
    · exact endPeriod ..
    · exact refl s
  · exact refl s

/-- The timers of a channel and of a group end in work on channels alone (R76, R80, R111, R112, R109). -/
theorem channelTimers (s : State) (c : Chan) (g : BusGroup) :
    PanelsKept s (s.zeroTimerEnds c) ∧ PanelsKept s (s.retryEnds c) ∧ PanelsKept s (s.armingExpires c) ∧
    PanelsKept s (s.restEnds c) ∧ PanelsKept s (s.spacingReached g) := by
  refine ⟨?_, ?_, ?_, ?_, ?_⟩
  · unfold State.zeroTimerEnds
    split
    · exact (updChan ..).trans (loneZeroIfDue ..)
    · exact refl s
  · unfold State.retryEnds
    split
    · exact (updChan ..).trans (loneZeroIfDue ..)
    · exact refl s
  · unfold State.armingExpires
    split
    · exact toFaulted ..
    · exact refl s
  · unfold State.restEnds
    dsimp only
    split
    · split
      · exact (updChan ..).trans (arbiterOf ..)
      · exact updChan ..
    · exact refl s
  · unfold State.spacingReached
    dsimp only
    split
    · exact (of_parts rfl : PanelsKept s (s.updGroup g _)).trans (arbiter ..)
    · exact refl s

/-- A millisecond moves the clocks of the records and their hold dwell (R59, R135). -/
theorem holdMillisecond (s : State) : PanelsKept s s.holdMillisecond := by
  unfold State.holdMillisecond
  split
  · exact mapTrack s (fun _ => rfl) (fun _ => id)
  · exact refl s

theorem millisecond (s : State) : PanelsKept s s.millisecond := by
  have ticked : PanelsKept s { s with track := s.track.map TrackRecord.tick } := by
    refine mapTrack s (fun r => ?_) (fun r => ?_)
    · unfold TrackRecord.tick; split <;> rfl
    · unfold TrackRecord.tick; split <;> exact id
  have timers : PanelsKept { s with track := s.track.map TrackRecord.tick } s.timersTick := of_parts rfl
  exact (ticked.trans timers).trans (holdMillisecond _)

/-! ### Modes and interlocks -/

theorem addHoldCause (s : State) (f : HoldCauses → HoldCauses) : PanelsKept s (s.addHoldCause f) := by
  unfold State.addHoldCause
  split
  · have held : PanelsKept s { s with mode := .hold, holdCauses := f s.holdCauses } := of_parts rfl
    exact (held.trans (startOccasions _)).trans (raise _ _)
  · exact of_parts rfl
  · exact refl s

theorem removeStall (s : State) : PanelsKept s s.removeStall := by
  unfold State.removeStall
  dsimp only
  split
  · split <;> exact of_parts rfl
  · exact refl s

theorem stallExpires (s : State) : PanelsKept s s.stallExpires := by
  unfold State.stallExpires
  have expired : PanelsKept s (s.updConveyor fun v => { v with stall := .expired }) := of_parts rfl
  split
  · dsimp only
    split
    · exact expired.trans (addHoldCause ..)
    · exact expired
  · exact refl s

theorem latch (s : State) (i : Input) : PanelsKept s (s.latch i) := by
  unfold State.latch
  dsimp only
  have dropped : PanelsKept s (((s.updInterlock i fun x => { x with latched := true }).raise .interlock).forList
      (Chan.all.filter fun c =>
        (s.interlock i).config.drop && (s.interlock i).config.inScope c && !s.inhibited c)
      fun c s => s.dropChannel c) :=
    ((updInterlock ..).trans (raise ..)).trans (forList (fun c t => of_work (.dropChannel ..) (.dropChannel ..)) _ _)
  split <;> split
  · exact (dropped.trans (addHoldCause ..)).trans (changeLineStop _ fun _ => rfl)
  · exact dropped.trans (changeLineStop _ fun _ => rfl)
  · exact dropped.trans (addHoldCause ..)
  · exact dropped

theorem latchIfLevel (s : State) (i : Input) : PanelsKept s (s.latchIfLevel i) := by
  unfold State.latchIfLevel
  dsimp only
  split
  · exact latch ..
  · exact refl s

theorem unlatch (s : State) (i : Input) : PanelsKept s (s.unlatch i) := by
  unfold State.unlatch
  dsimp only
  have turned (t : State) : PanelsKept t t.interlockToCommand := by
    unfold State.interlockToCommand
    split <;> exact of_parts rfl
  have freed (l : List Chan) : PanelsKept s
      ((s.updInterlock i fun x => { x with latched := false }).forList l fun c s => s.inhibitionEnds c) :=
    (updInterlock ..).trans (forList (fun c t => of_work (.inhibitionEnds ..) (.inhibitionEnds ..)) _ _)
  split <;> split
  · exact ((freed _).trans (turned _)).trans (changeLineStop _ fun _ => rfl)
  · exact (freed _).trans (turned _)
  · exact (freed _).trans (changeLineStop _ fun _ => rfl)
  · exact freed _

theorem interlockChanges (s : State) (i : Input) (l : Level) : PanelsKept s (s.interlockChanges i l) := by
  unfold State.interlockChanges State.followLevel
  dsimp only
  have moved : PanelsKept s { s with pins := { s.pins with interlocks := s.pins.interlocks.set i l } } := of_parts rfl
  split
  · exact moved
  · split
    · exact (moved.trans (updInterlock ..)).trans (latch ..)
    · exact moved.trans (updInterlock ..)

theorem bootEnds (s : State) : PanelsKept s s.bootEnds := by
  unfold State.bootEnds
  split
  · have settled : PanelsKept s
        { s with bootTimer := none, channels := mapVec Channel.settled s.channels, mode := .offline } := of_parts rfl
    have levels (t : State) : PanelsKept t t.takeLevels := foldl (fun t i => updInterlock ..) _ t
    exact ((settled.trans (raise _ _)).trans (levels _)).trans (foldl latchIfLevel _ _)
  · exact refl s

end PanelsKept

end Sys2Proof.Machine
end

section
/-! PROOFS. What a step can do to the panels: keep them, or one of eight changes; O58. -/

namespace Sys2Proof.Machine

/-- The changes a step can make to the panels beyond `PanelsKept`: an announcement and a withdrawal (R21, R22), a recipe
put in place or cleared (R47, R50), a profile (R3), the entry into RUN from OFFLINE (R150), the eye filter's look at the
eye (R12), an advance event (R11), a reset (R41). -/
inductive PanelChange : State → State → Prop
  | announced {s : State} (e : StagingEntry) (ok : s.entryOk e = true) (new : s.idHeld e.panelId = false)
      (room : s.staging.length < 8) : PanelChange s { s with staging := s.staging ++ [e] }
  | withdrawn {s : State} (id : Nat) :
      PanelChange s { s with staging := s.staging.filter fun e => e.panelId ≠ id }
  | recipePut {s : State} (n : Nat) (r : Option Recipe) (free : r = none → s.inUse n = false) :
      PanelChange s (s.putRecipe n r)
  | profileSet {s : State} (p : Profile) (mode : s.mode = .offline) (ok : s.profileOk p = true) :
      PanelChange s { s with profile := some p }
  | started {s : State} (mode : s.mode = .offline) : PanelChange s s.offlineToRun
  | eyeSeen {s : State} : PanelChange s s.examineEye
  | advanced {s : State} (active : s.mode.active = true) : PanelChange s s.advance
  | reset {s t : State} (configuration : t.profile = s.profile ∧ t.recipes = s.recipes ∨ t.profile = none)
      (panels : t.staging = [] ∧ t.track = [] ∧ t.exits = [] ∧ t.nextEntry = 1)
      (conveyor : t.conveyor = .afterReset) (exitHigh : t.lineStop.exitHigh = false) : PanelChange s t

/-- What a step makes of the panels of `s`. -/
inductive PanelStep (s t : State) : Prop
  | kept (h : PanelsKept s t)
  | changed {u v : State} (parts : u.panelParts = s.panelParts) (mode : u.mode = s.mode) (change : PanelChange u v)
      (after : PanelsKept v t)

namespace PanelStep

theorem refl (s : State) : PanelStep s s := .kept (.refl s)

theorem of_parts {s t : State} (h : t.panelParts = s.panelParts) : PanelStep s t := .kept (.of_parts h)

theorem change {s t : State} (h : PanelChange s t) : PanelStep s t := .changed rfl rfl h (.refl t)

theorem before {s u t : State} (h : PanelStep u t) (parts : u.panelParts = s.panelParts) (mode : u.mode = s.mode) :
    PanelStep s t := by
  cases h with
  | kept h => exact .kept ((PanelsKept.of_parts parts).trans h)
  | changed parts' mode' change after => exact .changed (parts'.trans parts) (mode'.trans mode) change after

theorem after {s t u : State} (h : PanelStep s t) (k : PanelsKept t u) : PanelStep s u := by
  cases h with
  | kept h => exact .kept (h.trans k)
  | changed parts mode change after => exact .changed parts mode change (after.trans k)

/-! ### Requests -/

theorem serveSetProfile (p : Profile) (s : State) : PanelStep s (serveSetProfile p s).state := by
  unfold Machine.serveSetProfile
  split
  · exact refl s
  · split
    · rename_i hm hp
      exact change (.profileSet p (not_not.1 hm) hp)
    · exact refl s

theorem serveConfiguration (s : State) :
    (∀ x, PanelStep s (serveSetSegment x s).state) ∧ (∀ c f r, PanelStep s (serveSetLimits c f r s).state) ∧
    (∀ n r, PanelStep s (serveSetRecipe n r s).state) ∧ (∀ n, PanelStep s (serveClearRecipe n s).state) ∧
    ∀ n l, PanelStep s (serveSetRamp n l s).state := by
  refine ⟨fun x => ?_, fun c f r => ?_, fun n r => ?_, fun n => ?_, fun n l => ?_⟩
  · unfold serveSetSegment
    (repeat' split) <;> exact of_parts rfl
  · unfold serveSetLimits
    (repeat' split) <;> exact of_parts rfl
  · unfold serveSetRecipe
    split
    · exact refl s
    · split
      · exact refl s
      · exact change (.recipePut n (some r) (by simp))
  · unfold serveClearRecipe
    split
    · exact refl s
    · split
      · exact refl s
      · split
        · exact refl s
        · rename_i free
          exact change (.recipePut n none fun _ => by simpa using free)
  · unfold serveSetRamp
    (repeat' split) <;> exact of_parts rfl

theorem setModeRun (s : State) : PanelStep s s.setModeRun.2 := by
  have toRun : PanelsKept s s.standbyToRun := by
    have restarted : PanelsKept s (State.restartStall { s with mode := .run }) := .of_parts rfl
    refine (restarted.trans (.forChans (fun c t => ?_) _)).trans (.startOccasions _)
    split
    · exact .updChan ..
    · exact .refl t
  unfold State.setModeRun
  split
  case h_1 hm =>
    split
    · exact refl s
    · split
      · exact refl s
      · exact change (.started hm)
  case h_3 =>
    split
    · exact refl s
    · dsimp only
      split <;> exact of_parts rfl
  case h_4 =>
    split
    · exact refl s
    · dsimp only
      exact .kept toRun
  all_goals exact refl s

/-- The entries into HOLD, STANDBY and OFFLINE keep the panels (R41). -/
theorem setModeOther (s : State) :
    PanelsKept s s.setModeHold.2 ∧ PanelsKept s s.setModeStandby.2 ∧ PanelsKept s s.setModeOffline.2 := by
  have toHold (causes : HoldCauses) : PanelsKept s (s.runToHold causes) := by
    have held : PanelsKept s { s with mode := .hold, holdCauses := causes } := .of_parts rfl
    exact held.trans (.startOccasions _)
  have toStandby : PanelsKept s s.toStandby := by
    have stands : PanelsKept s { s with mode := .standby, holdCauses := HoldCauses.none } := .of_parts rfl
    refine stands.trans (.forChans (fun c t => ?_) _)
    split
    · exact .beginDrain ..
    · exact .refl t
  refine ⟨?_, ?_, ?_⟩
  · unfold State.setModeHold
    split
    · dsimp only
      exact toHold _
    · exact .of_parts rfl
    all_goals exact .refl s
  · unfold State.setModeStandby
    split
    · dsimp only
      exact toStandby
    · dsimp only
      exact toStandby
    all_goals exact .refl s
  · unfold State.setModeOffline
    (repeat' split) <;> exact .of_parts rfl

theorem serveSetMode (m : Option RequestedMode) (s : State) : PanelStep s (serveSetMode m s).state := by
  obtain ⟨hold, standby, offline⟩ := setModeOther s
  unfold Machine.serveSetMode
  split
  · exact refl s
  all_goals rw [modeServed_state]
  · exact .kept offline
  · exact setModeRun s
  · exact .kept hold
  · exact .kept standby

/-- ArmChannels, DisarmChannels and ClearFault are work on channels (R107, R113, R114). -/
theorem serveChannels (l : List Nat) (s : State) :
    PanelsKept s (serveArmChannels l s).state ∧ PanelsKept s (serveDisarmChannels l s).state ∧
    PanelsKept s (serveClearFault l s).state := by
  have armed (t : State) (c : Chan) : PanelsKept t (t.armChannel c) := by
    unfold State.armChannel
    split
    · split
      · exact .refl t
      · split
        · exact (PanelsKept.of_parts rfl : PanelsKept t (t.updGroup _ _)).trans (.arbiter ..)
        · exact .refl t
    · exact .updChan ..
    all_goals exact .refl t
  have disarmed (t : State) (c : Chan) : PanelsKept t (t.disarmChannel c) := by
    unfold State.disarmChannel
    split
    · exact .of_parts rfl
    · exact .of_work (.toDormant ..) (.toDormant ..)
    · exact .of_work (.toDormant ..) (.toDormant ..)
    · exact .beginDrain ..
    · exact .updChan ..
    · exact .refl t
  have cleared (t : State) (c : Chan) : PanelsKept t (t.clearFaultOf c) := by
    have rested : PanelsKept t t.clearedRest.2 := by
      unfold State.clearedRest
      split <;> exact .of_parts rfl
    exact rested.trans (.updChan t.clearedRest.2 c fun ch => { ch with state := .dormant, rest := t.clearedRest.1 })
  refine ⟨?_, ?_, ?_⟩
  · unfold serveArmChannels
    split
    · exact .refl s
    · split
      · exact .refl s
      · exact .refl s
      · exact .forList (fun c t => armed t c) _ s
  · unfold serveDisarmChannels
    split
    · exact .refl s
    · exact .forList (fun c t => disarmed t c) _ s
  · unfold serveClearFault
    split
    · exact .refl s
    · exact .refl s
    · exact .forList (fun c t => cleared t c) _ s

/-- CollectExit takes the head of the exit list, and EXIT_HIGH where it was the twelfth record (R39). -/
theorem serveCollectExit (s : State) : PanelsKept s (serveCollectExit s).state := by
  unfold Machine.serveCollectExit
  split
  · exact .refl s
  · rename_i e rest he
    let collected : State :=
      { s with
        exits := rest
        lineStop := if s.exits.length = 12 then { s.lineStop with exitHigh := false } else s.lineStop }
    have collects : PanelsKept s collected :=
      { PanelsKept.refl s with
        exits := by
          rintro ⟨capacity, high⟩
          simp only [State.ExitsFit, collected, apply_ite LineStopCauses.exitHigh, high]
          simp only [he, List.length_cons] at capacity ⊢
          refine ⟨by omega, ?_⟩
          split <;> simp <;> omega }
    refine collects.trans (.of_parts ?_)
    by_cases h : s.exits.length = 12
    · simp [Config.exitHighAt, State.panelParts, collected, h]
    · simp [Config.exitHighAt, State.panelParts, collected, h]

theorem servePanels (s : State) :
    (∀ e, PanelStep s (serveAnnouncePanel e s).state) ∧ (∀ n, PanelStep s (serveWithdrawPanel n s).state) ∧
    (∀ n, PanelStep s (serveRemovePanel n s).state) ∧ ∀ n, PanelStep s (serveQueryPanel n s).state := by
  refine ⟨fun e => ?_, fun n => ?_, fun n => ?_, fun n => ?_⟩
  · unfold serveAnnouncePanel
    split
    · exact refl s
    · split
      · exact refl s
      · split
        · exact refl s
        · split
          · exact refl s
          · rename_i e ok new room
            exact change (.announced e (by simpa using ok) (by simpa using new) (Nat.lt_of_not_le room))
  · unfold serveWithdrawPanel
    split
    · exact refl s
    · split
      · exact change (.withdrawn n)
      · exact refl s
  · unfold serveRemovePanel
    split
    · exact refl s
    · split
      · exact refl s
      · split
        · exact refl s
        · exact .kept (.removeRecord ..)
  · unfold serveQueryPanel
    (repeat' split) <;> exact refl s

theorem serveInterlocks (s : State) (n : Nat) :
    (∀ k, PanelsKept s (s.setInterlock n k).2) ∧ PanelsKept s (s.ackInterlock n).2 := by
  refine ⟨fun k => ?_, ?_⟩
  · unfold State.setInterlock
    split
    · split
      · exact .refl s
      · split
        · exact .refl s
        · dsimp only
          split
          · exact ((PanelsKept.unlatch ..).trans (.updInterlock ..)).trans (.latchIfLevel ..)
          · exact (PanelsKept.updInterlock ..).trans (.latchIfLevel ..)
    · exact .refl s
  · unfold State.ackInterlock
    split
    · exact .refl s
    · dsimp only
      split
      · exact .refl s
      · split
        · exact .refl s
        · exact .unlatch ..

theorem serveMonitors (s : State) :
    (∀ n p, PanelStep s (serveSetMonitor n p s).state) ∧ (∀ o, PanelStep s (serveControlMonitor o s).state) ∧
    (∀ n, PanelStep s (serveReadAnode n s).state) ∧ (∀ n f r, PanelStep s (serveSetAnode n f r s).state) ∧
    ∀ n k, PanelStep s (serveQueryChannel n k s).state := by
  refine ⟨fun n p => ?_, fun o => ?_, fun n => ?_, fun n f r => ?_, fun n k => ?_⟩
  · unfold serveSetMonitor
    (repeat' split) <;> exact of_parts rfl
  · unfold serveControlMonitor
    (repeat' split) <;> exact of_parts rfl
  · unfold serveReadAnode
    split <;> exact refl s
  · unfold serveSetAnode
    split <;> exact of_parts rfl
  · unfold serveQueryChannel
    (repeat' split) <;> exact refl s

theorem serve (r : Request) (s : State) : PanelStep s (serve r s).state := by
  obtain ⟨setSegment, setLimits, setRecipe, clearRecipe, setRamp⟩ := serveConfiguration s
  obtain ⟨announce, withdraw, remove, queryPanel⟩ := servePanels s
  obtain ⟨setMonitor, control, readAnode, setAnode, queryChannel⟩ := serveMonitors s
  cases r with
  | setProfile p => exact serveSetProfile p s
  | setMode m => exact serveSetMode m s
  | setSegment x => exact setSegment x
  | setLimits c f r => exact setLimits c f r
  | setRecipe n r => exact setRecipe n r
  | clearRecipe n => exact clearRecipe n
  | setRamp n l => exact setRamp n l
  | restart =>
    change PanelStep s (serveRestart s).state
    unfold serveRestart
    split <;> exact refl s
  | armChannels l => exact .kept (serveChannels l s).1
  | disarmChannels l => exact .kept (serveChannels l s).2.1
  | clearFault l => exact .kept (serveChannels l s).2.2
  | announcePanel e => exact announce e
  | withdrawPanel id => exact withdraw id
  | removePanel n => exact remove n
  | queryPanel n => exact queryPanel n
  | collectExit => exact .kept (serveCollectExit s)
  | setInterlock n k => exact .kept ((serveInterlocks s n).1 k)
  | ackInterlock n => exact .kept (serveInterlocks s n).2
  | clearLineStop => exact .kept (.changeLineStop s fun _ => rfl)
  | setMonitor n p => exact setMonitor n p
  | controlMonitor o => exact control o
  | readMonitor => exact refl s
  | readAnode n => exact readAnode n
  | setAnode n f r => exact setAnode n f r
  | queryChannel n k => exact queryChannel n k
  | queryLine => exact refl s

/-! ### The links -/

theorem takeRequest (s : State) (f : Frame) (r : Request) : PanelStep s (s.takeRequest f r) := by
  unfold State.takeRequest
  split
  · exact of_parts rfl
  · exact (serve r s).after (.updLink ..)

theorem takeFrame (s : State) (f : Frame) : PanelStep s (s.takeFrame f) := by
  unfold State.takeFrame
  split
  · exact of_parts rfl
  · exact takeRequest ..

theorem meet {f : Frame} {take : State → State} (ht : ∀ t, PanelStep t (take t)) (s : State) :
    PanelStep s (s.meet f take) := by
  unfold State.meet
  split
  · exact refl s
  · dsimp only
    split
    · exact (ht _).before rfl rfl
    · exact of_parts rfl
    · exact of_parts rfl

theorem arrive (s : State) (f : Frame) : PanelStep s (s.arrive f) := meet (fun t => takeFrame t f) s

theorem takeByte (s : State) (b : Byte) : PanelStep s (s.takeByte b) := by
  have moved (r : Receiver) : PanelStep s (s.receive r) := of_parts rfl
  unfold State.takeByte State.checkEnds
  split
  · exact refl s
  · split
    case h_5 =>
      split
      · split
        · exact arrive s _
        · exact moved _
      · exact moved _
    all_goals exact moved _

theorem restarts (s : State) : PanelStep s s.restarts :=
  change (.reset (.inl ⟨rfl, rfl⟩) ⟨rfl, rfl, rfl, rfl⟩ rfl rfl)

theorem transmitted (s : State) : PanelStep s s.transmitted := by
  unfold State.transmitted
  split
  · exact refl s
  · exact of_parts rfl
  · split
    · exact restarts s
    · unfold State.replySent
      dsimp only
      split
      · exact (takeFrame _ _).before rfl rfl
      · exact of_parts rfl

/-! ### Resets and pulses -/

theorem powersOn (s : State) : PanelStep s s.powersOn := by
  unfold State.powersOn
  dsimp only
  split <;> exact change (.reset (.inr rfl) ⟨rfl, rfl, rfl, rfl⟩ rfl rfl)

theorem takeForwardPulse (s : State) : PanelStep s s.takeForwardPulse := by
  unfold State.takeForwardPulse
  split
  · exact refl s
  · rename_i ha
    dsimp only
    split
    · split
      · exact (change .eyeSeen).before rfl rfl
      · exact of_parts rfl
    · split
      · exact (change (.advanced (s := s.updConveyor _) (by simpa using ha))).before rfl rfl
      · exact of_parts rfl

theorem takeReversePulse (s : State) : PanelStep s s.takeReversePulse := by
  unfold State.takeReversePulse
  have counted : PanelsKept s (s.updConveyor fun v => { v with backlash := v.backlash + 1 }) := .of_parts rfl
  split
  · exact refl s
  · dsimp only
    split
    · exact .kept (counted.trans (.trackingCause _ fun _ => rfl))
    · exact .kept counted

theorem eyeChanges (s : State) (l : Level) : PanelStep s (s.eyeChanges l) := by
  unfold State.eyeChanges
  split
  · exact refl s
  · exact (change .eyeSeen).before rfl rfl

end PanelStep

/-! ### Every command, every step -/

theorem panelStep_done {s t u : State} (h : PanelStep s t) (e : done t = .next u) : PanelStep s u :=
  done_eq_next.1 e ▸ h.after (.settle t)

theorem panelStep_exec {i : Instr} {s t : State} (h : exec i s = .next t) : PanelStep s t := by
  cases hr : requestOf i with
  | some r =>
    rw [exec_of_request hr] at h
    exact panelStep_done (.meet (fun u => .takeRequest ..) s) h
  | none =>
    have kept {u : State} (hu : PanelsKept s u) (h : done u = .next t) := panelStep_done (.kept hu) h
    cases i with
    | powerOn b => exact panelStep_done ((PanelStep.powersOn (s.strapped b)).before rfl rfl) h
    | resetLineActive =>
      have held : PanelStep s s.resetHolds := .change (.reset (.inl ⟨rfl, rfl⟩) ⟨rfl, rfl, rfl, rfl⟩ rfl rfl)
      exact panelStep_done held h
    | resetLineRelease b =>
      refine panelStep_done ?_ h
      split
      · exact .change (.reset (.inl ⟨rfl, rfl⟩) ⟨rfl, rfl, rfl, rfl⟩ rfl rfl)
      · exact .refl s
    | restartTakesEffect b =>
      refine panelStep_done ?_ h
      split
      · exact (PanelStep.restarts (s.strapped b)).before rfl rfl
      · exact .refl s
    | bootEnd => exact kept (.bootEnds s) h
    | presenceReply c =>
      refine kept ?_ h
      unfold State.takePresence
      split
      · exact .updChan ..
      · exact .refl s
    | forwardPulse => exact panelStep_done (.takeForwardPulse s) h
    | reversePulse => exact panelStep_done (.takeReversePulse s) h
    | eyeChange l => exact panelStep_done (.eyeChanges s l) h
    | stallTimerExpiry => exact kept (.stallExpires s) h
    | phaseIntervalEnd n => exact kept (.phaseIntervalEnds s n) h
    | phaseBoundary n => exact kept (.phaseBoundaryComes s n) h
    | channelIntervalEnd c => exact kept (.channelIntervalEnds s c) h
    | periodEnd c => exact kept (.periodEnds s c) h
    | zeroTimerExpiry c => exact kept (PanelsKept.channelTimers s c 0).1 h
    | loneZeroRetryExpiry c => exact kept (PanelsKept.channelTimers s c 0).2.1 h
    | periodReport c r => exact kept (.takeReport s c r) h
    | reportWindowClose c => exact kept (.windowCloses s c) h
    | armReport c n => exact kept (.takeArmReport s c n) h
    | armingTimeout c => exact kept (PanelsKept.channelTimers s c 0).2.2.1 h
    | contactorRestEnd c => exact kept (PanelsKept.channelTimers s c 0).2.2.2.1 h
    | armingSpacingReached g => exact kept (PanelsKept.channelTimers s 0 g).2.2.2.2 h
    | interlockInputChange i l => exact kept (.interlockChanges s i l) h
    | frameReceived k p => exact panelStep_done (.arrive s _) h
    | interByteGap => exact kept (.updLink ..) h
    | framingError => exact kept (.updLink ..) h
    | transmitComplete => exact panelStep_done (.transmitted s) h
    | badKind k =>
      refine panelStep_done ?_ h
      split
      · exact .arrive s _
      · exact .refl s
    | receivedByte b => exact panelStep_done (.takeByte s b) h
    | moduleOrderSent =>
      have sent : PanelsKept s s.orderSent := .of_parts rfl
      exact kept sent h
    | holdDwellMillisecond => exact kept (.holdMillisecond s) h
    | _ => cases hr

/-- What a step can do to the panels. -/
theorem panelStep_step {s t : State} (h : step s = .next t) : PanelStep s t := by
  unfold step at h
  split at h
  · exact (panelStep_exec h).before rfl rfl
  · rcases s.idleChoice_cases with ⟨-, e⟩ | ⟨c, -, e⟩ | ⟨-, c, -, e⟩ <;> rw [e] at h
    · cases h; exact .kept (.millisecond s)
    · exact panelStep_exec h
    · exact (panelStep_exec h).before rfl rfl

end Sys2Proof.Machine
end

section
/-! PROOFS. The parts of the eye's look and of an advance event as they bear on the panels; O58. -/

namespace Sys2Proof.Machine

/-! ### The track of a kept state -/

namespace PanelsKept

variable {s t : State} (h : PanelsKept s t)
include h

theorem prof : t.prof = s.prof := by rw [State.prof, h.profile, State.prof]

theorem recipe (n : Nat) : t.recipe n = s.recipe n := by rw [State.recipe, State.recipe, h.recipes]

theorem mem_track {r : TrackRecord} (hr : r ∈ t.track) : ∃ x ∈ s.track, x.binding = r.binding := by
  obtain ⟨x, hx, e⟩ := List.mem_map.1 (h.track.subset (List.mem_map_of_mem hr))
  exact ⟨x, hx, e⟩

theorem length_track : t.track.length ≤ s.track.length := by simpa using h.track.length_le

theorem entries : (t.track.map (·.entry)).Sublist (s.track.map (·.entry)) := by
  have := h.track.map fun b => b.1
  rwa [List.map_map, List.map_map] at this

theorem panelIds : (t.track.map (·.panelId)).Sublist (s.track.map (·.panelId)) := by
  have := h.track.map fun b => b.2.1
  rwa [List.map_map, List.map_map] at this

theorem positions : (t.track.map (·.position)).Sublist (s.track.map (·.position)) := by
  have := h.track.map fun b => b.2.2.2
  rwa [List.map_map, List.map_map] at this

end PanelsKept

/-! ### A binding -/

/-- `r` is what a rising edge binds, and `rest` the staging queue it leaves (R23, R24). -/
structure Binds (s : State) (r : TrackRecord) (rest : List StagingEntry) : Prop where
  entry : r.entry = s.nextEntry
  position : r.position = s.prof.eye
  source : (s.staging = [] ∧ rest = [] ∧ r.panelId = 0 ∧ r.recipe = s.prof.fallback) ∨
    ∃ e, s.staging = e :: rest ∧ r.panelId = e.panelId ∧ r.recipe = some e.recipe

/-- The state in which `r` has been bound (R20, R23). -/
def State.bound (s : State) (r : TrackRecord) (rest : List StagingEntry) : State :=
  { s with staging := rest, track := s.track ++ [r], nextEntry := nextEntryAfter s.nextEntry }

theorem State.risingEdge_cases (s : State) : PanelsKept s s.risingEdge ∨
    s.track.length < 32 ∧ ∃ r rest, Binds s r rest ∧ PanelsKept (s.bound r rest) s.risingEdge := by
  by_cases room : s.track.length < 32
  · refine .inr ⟨room, ?_⟩
    cases hs : s.staging with
    | nil =>
      refine ⟨s.unannouncedRecord, [], ⟨rfl, rfl, .inl ⟨hs, rfl, rfl, rfl⟩⟩, ?_⟩
      rw [State.risingEdge_unannounced room hs, State.bound, ← hs]
      exact .startOccasions _
    | cons e rest =>
      refine ⟨s.boundRecord e, rest, ⟨rfl, rfl, .inr ⟨e, hs, rfl, rfl⟩⟩, ?_⟩
      rw [State.risingEdge_announced room hs]
      exact .startOccasions _
  · left
    rw [State.risingEdge, if_pos (by simpa [Config.trackCapacity] using room)]
    exact .trackingCause s fun _ => rfl

/-- What the eye filter's look at the eye comes to (R12, R23, R25, R26): no edge; an edge that binds nothing, with no
record left ENTERING where it fell; a record bound. -/
inductive EyeLook (s t : State) : Prop
  | refused (same : t = s)
  | fell (edge : s.edgeAccepted = true) (low : s.pins.eye = .low) (kept : PanelsKept s.edgeTaken t)
      (measured : t.enterings = 0)
  | full (edge : s.edgeAccepted = true) (high : s.pins.eye = .high) (kept : PanelsKept s.edgeTaken t)
  | bound (edge : s.edgeAccepted = true) (high : s.pins.eye = .high) (room : s.track.length < 32)
      {r : TrackRecord} {rest : List StagingEntry} (binds : Binds s r rest)
      (kept : PanelsKept (s.edgeTaken.bound r rest) t)

theorem State.examineEye_look (s : State) : EyeLook s s.examineEye := by
  by_cases edge : s.edgeAccepted = true
  · cases eye : s.pins.eye with
    | low =>
      have fell : s.examineEye = s.edgeTaken.fallingEdge := by
        rw [State.examineEye, if_pos edge]; simp only [eye, State.edgeTaken]
      rw [fell]
      refine .fell edge eye (.mapTrack _ (fun r => ?_) (fun r => ?_)) ?_
      · split <;> rfl
      · split
        · simp [measure]
        · exact id
      · rw [State.enterings, State.fallingEdge, List.length_eq_zero_iff, List.filter_eq_nil_iff]
        simp only [List.forall_mem_map, decide_eq_true_eq]
        intro r _
        split
        · simp [measure]
        · assumption
    | high =>
      have rose : s.examineEye = s.edgeTaken.risingEdge := by
        rw [State.examineEye, if_pos edge]; simp only [eye, State.edgeTaken]
      rw [rose]
      rcases s.edgeTaken.risingEdge_cases with kept | ⟨room, r, rest, binds, kept⟩
      · exact .full edge eye kept
      · exact .bound edge eye room ⟨binds.entry, binds.position, binds.source⟩ kept
  · exact .refused (State.examineEye_refused (by simpa using edge))

/-! ### A millimetre -/

theorem moveTrack_map {f : TrackRecord → α} (hf : ∀ r, f r.forth = f r) (limit : Nat) :
    ∀ (l : List TrackRecord) (ahead : Option Nat), (moveTrack limit ahead l).map f = l.map f
  | [], _ => rfl
  | r :: l, ahead => by
    by_cases stays : r.withheld limit ahead
    · rw [moveTrack_withheld stays, List.map_cons, moveTrack_map hf limit l, List.map_cons]
    · rw [moveTrack_forth stays, List.map_cons, moveTrack_map hf limit l, List.map_cons, hf]

/-- Whatever does not read the leading edge is the same of a record moved or withheld. -/
theorem State.moveRecords_map {f : TrackRecord → α} (hf : ∀ r, f r.forth = f r) (s : State) :
    s.moveRecords.track.map f = s.track.map f := moveTrack_map hf ..

theorem State.moveRecords_length (s : State) : s.moveRecords.track.length = s.track.length := by
  simpa using congrArg List.length (s.moveRecords_map (f := fun _ => ()) fun _ => rfl)

theorem State.moveRecords_enterings (s : State) : s.moveRecords.enterings = s.enterings := by
  have := congrArg (List.countP (· = RecordState.entering)) (s.moveRecords_map (f := (·.state)) fun _ => rfl)
  rw [List.countP_map, List.countP_map] at this
  rw [State.enterings, State.enterings, ← List.countP_eq_length_filter, ← List.countP_eq_length_filter]
  exact this

/-- The debounce travel a millimetre on (R12). -/
def State.grown (s : State) : State := s.updConveyor fun v => { v with debounce := debounceAfter v.debounce }

/-- An advance event moves the records, keeps them through the judgements and the start occasions, and ends with the eye
filter, which may look at the eye (R11, log 17). -/
theorem State.advance_cases (s : State) : ∃ u, PanelsKept s.moveRecords u ∧
    (s.advance = u.grown ∨ s.advance = u.grown.examineEye) := by
  have restarted (t : State) : PanelsKept t t.restartStall := .of_parts rfl
  refine ⟨s.moveRecords.judgeEyeStuck.judgeDepartures.startOccasions.restartStall.removeStall,
    ((((PanelsKept.judgeEyeStuck _).trans (.judgeDepartures _)).trans (.startOccasions _)).trans
      (restarted _)).trans (.removeStall _), ?_⟩
  unfold State.advance State.growDebounce
  dsimp only
  split
  · exact .inr rfl
  · exact .inl rfl

end Sys2Proof.Machine
end

section
/-! PROOFS. Capacities, EXIT_HIGH, the recipes in use and the entry numbers over every step; O58. -/

namespace Sys2Proof.Machine

/-! ### Capacities, EXIT_HIGH, recipes in use -/

theorem State.panelInv_iff {s : State} : s.panelInv = true ↔
    s.staging.length ≤ 8 ∧ s.track.length ≤ 32 ∧ s.ExitsFit ∧
    (∀ e ∈ s.staging, (s.recipe e.recipe).isSome = true) ∧
    (∀ n, some n ∈ s.track.map (·.recipe) → (s.recipe n).isSome = true) ∧
    ∀ p, s.profile = some p → ∀ n, p.fallback = some n → (s.recipe n).isSome = true := by
  have tracked : (∀ r ∈ s.track, ∀ n, r.recipe = some n → (s.recipe n).isSome = true) ↔
      ∀ n, some n ∈ s.track.map (·.recipe) → (s.recipe n).isSome = true := by
    simp only [List.mem_map, forall_exists_index, and_imp]
    exact ⟨fun h n r hr e => h r hr n e, fun h r hr n e => h n r hr e⟩
  simp only [State.panelInv, Bool.and_eq_true, decide_eq_true_eq, List.all_eq_true, Option.all_eq_true, and_assoc,
    tracked, State.ExitsFit]
  rfl

/-- The profile's fallback, read where a profile is absent too. -/
theorem State.fallback_defined {s : State}
    (h : ∀ p, s.profile = some p → ∀ n, p.fallback = some n → (s.recipe n).isSome = true) {n : Nat}
    (hn : s.prof.fallback = some n) : (s.recipe n).isSome = true := by
  cases hp : s.profile with
  | none => simp [State.prof, hp] at hn
  | some p => exact h p hp n (by simpa [State.prof, hp] using hn)

theorem PanelsKept.panelInv {s t : State} (h : PanelsKept s t) (hs : s.panelInv = true) : t.panelInv = true := by
  obtain ⟨staged, tracked, exits, stagedRecipes, trackRecipes, fallback⟩ := State.panelInv_iff.1 hs
  have recipes : (t.track.map (·.recipe)).Sublist (s.track.map (·.recipe)) := by
    have := h.track.map fun b => b.2.2.1
    rwa [List.map_map, List.map_map] at this
  refine State.panelInv_iff.2 ⟨h.staging ▸ staged, h.length_track.trans tracked, h.exits exits, ?_, ?_, ?_⟩
  · simpa only [h.staging, h.recipe] using stagedRecipes
  · intro n hn
    rw [h.recipe]
    exact trackRecipes n (recipes.subset hn)
  · simpa only [h.profile, h.recipe] using fallback

theorem panelInv_examineEye {s : State} (hs : s.panelInv = true) : s.examineEye.panelInv = true := by
  have taken : s.edgeTaken.panelInv = true := hs
  cases s.examineEye_look with
  | refused same => rw [same]; exact hs
  | fell _ _ kept _ => exact kept.panelInv taken
  | full _ _ kept => exact kept.panelInv taken
  | @bound _ _ room r rest binds kept =>
    refine kept.panelInv ?_
    obtain ⟨staged, -, exits, stagedRecipes, trackRecipes, fallback⟩ := State.panelInv_iff.1 taken
    have queue : rest.length ≤ 8 ∧ (∀ e ∈ rest, (s.recipe e.recipe).isSome = true) ∧
        ∀ n, r.recipe = some n → (s.recipe n).isSome = true := by
      rcases binds.source with ⟨-, rfl, -, hr⟩ | ⟨e, he, -, hr⟩
      · exact ⟨by simp, by simp, fun n hn => State.fallback_defined fallback (hr.symm.trans hn)⟩
      · have staged : s.staging.length ≤ 8 := staged
        have stagedRecipes : ∀ e ∈ s.staging, (s.recipe e.recipe).isSome = true := stagedRecipes
        rw [he, List.length_cons] at staged
        rw [he] at stagedRecipes
        obtain ⟨hd, tl⟩ := List.forall_mem_cons.1 stagedRecipes
        refine ⟨by omega, tl, fun n hn => ?_⟩
        obtain rfl : e.recipe = n := Option.some.inj (hr.symm.trans hn)
        exact hd
    obtain ⟨room', defined, bound⟩ := queue
    refine State.panelInv_iff.2 ⟨room', ?_, exits, defined, fun n hn => ?_, fallback⟩
    · change (s.track ++ [r]).length ≤ 32
      simp only [List.length_append, List.length_singleton]
      omega
    · have hn : some n ∈ (s.track ++ [r]).map (·.recipe) := hn
      rw [List.map_append, List.mem_append] at hn
      exact hn.elim (trackRecipes n) fun k => bound n (by simpa [eq_comm] using k)

theorem panelInv_advance {s : State} (hs : s.panelInv = true) : s.advance.panelInv = true := by
  obtain ⟨staged, tracked, exits, stagedRecipes, trackRecipes, fallback⟩ := State.panelInv_iff.1 hs
  have moved : s.moveRecords.panelInv = true := by
    refine State.panelInv_iff.2 ⟨staged, ?_, exits, stagedRecipes, ?_, fallback⟩
    · rw [State.moveRecords_length]; exact tracked
    · rw [State.moveRecords_map (f := (·.recipe)) fun _ => rfl]; exact trackRecipes
  obtain ⟨u, kept, e⟩ := s.advance_cases
  have grown : u.grown.panelInv = true := kept.panelInv moved
  rcases e with e | e <;> rw [e]
  · exact grown
  · exact panelInv_examineEye grown

/-- A recipe that is not in use may be cleared; any may be put in place (R47, R48, R50). -/
theorem panelInv_putRecipe {s : State} (hs : s.panelInv = true) {n : Nat} {r : Option Recipe}
    (free : r = none → s.inUse n = false) : (s.putRecipe n r).panelInv = true := by
  obtain ⟨staged, tracked, exits, stagedRecipes, trackRecipes, fallback⟩ := State.panelInv_iff.1 hs
  unfold State.putRecipe
  split
  · rename_i hn
    let t : State := { s with recipes := s.recipes.set n r }
    have defined {m : Nat} (used : s.inUse m = true) (hm : (s.recipe m).isSome = true) :
        (t.recipe m).isSome = true := by
      by_cases e : n = m
      · subst e
        cases r with
        | none => simp [free rfl] at used
        | some r => simp [t, State.recipe, hn]
      · unfold State.recipe at hm ⊢
        split
        · rename_i h
          rw [dif_pos h] at hm
          simpa [t, e] using hm
        · rename_i h
          rwa [dif_neg h] at hm
    refine State.panelInv_iff.2 ⟨staged, tracked, exits, fun e he => ?_, fun m hm => ?_, fun p hp m hm => ?_⟩
    · exact defined (by simp only [State.inUse, Bool.or_eq_true, List.any_eq_true]; exact .inl (.inl ⟨e, he, by simp⟩))
        (stagedRecipes e he)
    · obtain ⟨x, hx, e⟩ := List.mem_map.1 hm
      have used : s.inUse m = true := by
        simp only [State.inUse, Bool.or_eq_true, List.any_eq_true]
        exact .inl (.inr ⟨x, hx, by simp [e]⟩)
      exact defined used (trackRecipes m hm)
    · have hp : s.profile = some p := hp
      exact defined (by simp [State.inUse, hp, hm]) (fallback p hp m hm)
  · exact hs

theorem PanelChange.panelInv {s t : State} (h : PanelChange s t) (hs : s.panelInv = true) : t.panelInv = true := by
  obtain ⟨staged, tracked, exits, stagedRecipes, trackRecipes, fallback⟩ := State.panelInv_iff.1 hs
  cases h with
  | announced e ok new room =>
    refine State.panelInv_iff.2 ⟨by simpa using room, tracked, exits, ?_, trackRecipes, fallback⟩
    simp only [State.entryOk, Bool.and_eq_true] at ok
    simp only [List.mem_append, List.mem_singleton]
    rintro x (hx | rfl)
    · exact stagedRecipes x hx
    · exact ok.1.1.1.2
  | withdrawn id =>
    refine State.panelInv_iff.2 ⟨(List.length_filter_le ..).trans staged, tracked, exits, fun e he => ?_, trackRecipes,
      fallback⟩
    exact stagedRecipes e (List.mem_of_mem_filter he)
  | recipePut n r free => exact panelInv_putRecipe hs free
  | profileSet p mode ok =>
    refine State.panelInv_iff.2 ⟨staged, tracked, exits, stagedRecipes, trackRecipes, ?_⟩
    obtain ⟨-, -, -, -, -, -, defined, -⟩ := State.profileOk_iff.1 ok
    rintro q ⟨⟩ n hn
    exact (defined n hn).2
  | started mode => exact hs
  | eyeSeen => exact panelInv_examineEye hs
  | advanced active => exact panelInv_advance hs
  | reset configuration panels conveyor exitHigh =>
    obtain ⟨staging, track, exits', -⟩ := panels
    refine State.panelInv_iff.2 ⟨by simp [staging], by simp [track], by simp [State.ExitsFit, exits', exitHigh],
      by simp [staging], by simp [track], fun p hp n hn => ?_⟩
    rcases configuration with ⟨profile, recipes⟩ | none
    · rw [State.recipe, recipes, ← State.recipe]
      exact fallback p (profile ▸ hp) n hn
    · simp [none] at hp

theorem PanelStep.panelInv {s t : State} (h : PanelStep s t) (hs : s.panelInv = true) : t.panelInv = true := by
  cases h with
  | kept h => exact h.panelInv hs
  | changed parts _ change after => exact after.panelInv (change.panelInv ((PanelsKept.of_parts parts).panelInv hs))

/-! ### Entry numbers -/

/-- The entry numbers of the track each once, and the next one on no record (R20, log 37). -/
def State.EntriesNew (s : State) : Prop :=
  (s.track.map (·.entry)).Nodup ∧ s.nextEntry ∉ s.track.map (·.entry)

theorem PanelsKept.entriesNew {s t : State} (h : PanelsKept s t) (hs : s.EntriesNew) : t.EntriesNew :=
  ⟨hs.1.sublist h.entries, fun k => hs.2 (h.entries.subset (h.nextEntry ▸ k))⟩

theorem entries_examineEye {s : State} (hs : s.EntriesNew) : (s.examineEye.track.map (·.entry)).Nodup := by
  have taken : s.edgeTaken.EntriesNew := hs
  cases s.examineEye_look with
  | refused same => rw [same]; exact hs.1
  | fell _ _ kept _ => exact (kept.entriesNew taken).1
  | full _ _ kept => exact (kept.entriesNew taken).1
  | @bound _ _ _ r rest binds kept =>
    refine List.Nodup.sublist kept.entries ?_
    change ((s.track ++ [r]).map (·.entry)).Nodup
    rw [List.map_append, List.map_singleton, binds.entry]
    exact List.nodup_append_comm.2 (List.nodup_cons.2 ⟨hs.2, hs.1⟩)

theorem entries_advance {s : State} (hs : s.EntriesNew) : (s.advance.track.map (·.entry)).Nodup := by
  have moved : s.moveRecords.EntriesNew := by
    unfold State.EntriesNew
    rw [State.moveRecords_map (f := (·.entry)) fun _ => rfl]
    exact hs
  obtain ⟨u, kept, e⟩ := s.advance_cases
  have grown : u.grown.EntriesNew := kept.entriesNew moved
  rcases e with e | e <;> rw [e]
  · exact grown.1
  · exact entries_examineEye grown

theorem PanelChange.entries {s t : State} (h : PanelChange s t) (hs : s.EntriesNew) :
    (t.track.map (·.entry)).Nodup := by
  cases h with
  | announced | withdrawn | profileSet | started => exact hs.1
  | recipePut n r free =>
    unfold State.putRecipe
    split <;> exact hs.1
  | eyeSeen => exact entries_examineEye hs
  | advanced active => exact entries_advance hs
  | reset _ panels _ _ => simp [panels.2.1]

theorem PanelStep.entries {s t : State} (h : PanelStep s t) (hs : s.EntriesNew) : (t.track.map (·.entry)).Nodup := by
  cases h with
  | kept h => exact (h.entriesNew hs).1
  | changed parts _ change after =>
    exact (change.entries ((PanelsKept.of_parts parts).entriesNew hs)).sublist after.entries

end Sys2Proof.Machine
end

section
/-! PROOFS. The order, the bounds and the names of the track over every step; O58. -/

namespace Sys2Proof.Machine

/-- The panel ids of the staging queue and the track together, those of unannounced panels apart (R21). -/
def State.panelIds (s : State) : List Nat :=
  s.staging.map (·.panelId) ++ (s.track.map (·.panelId)).filter (· ≠ 0)

/-- The track's invariant but for the ENTERING record, with `k` for the travel that every record has come past the
eye. -/
structure TrackFits (k : Nat) (s : State) : Prop where
  falling : Falling s.track
  past : ∀ r ∈ s.track, s.prof.eye + k ≤ r.position
  inside : ∀ r ∈ s.track, r.position ≤ s.prof.lineLength + 1500
  debounce : ∀ n, s.conveyor.debounce = some n → n ≤ 3
  settled : s.conveyor.debounce = none → s.track = []
  counter : 1 ≤ s.nextEntry ∧ s.nextEntry ≤ 65535
  entries : ∀ r ∈ s.track, 1 ≤ r.entry ∧ r.entry ≤ 65535
  staged : ∀ e ∈ s.staging, e.panelId ≠ 0
  ids : s.panelIds.Nodup

theorem State.trackInv_iff {s : State} : s.trackInv = true ↔
    TrackFits s.conveyor.travel s ∧ s.enterings ≤ if s.conveyor.accepted = .high then 1 else 0 := by
  have none_iff : s.conveyor.debounce.isSome = true ∨ s.track = [] ↔ (s.conveyor.debounce = none → s.track = []) := by
    cases s.conveyor.debounce <;> simp
  have both : (∀ r ∈ s.track, s.prof.eye + s.conveyor.travel ≤ r.position ∧ r.position ≤ s.prof.lineLength + 1500) ↔
      (∀ r ∈ s.track, s.prof.eye + s.conveyor.travel ≤ r.position) ∧
      ∀ r ∈ s.track, r.position ≤ s.prof.lineLength + 1500 := by
    simp only [← forall_and]
  simp only [State.trackInv, Bool.and_eq_true, Bool.or_eq_true, decide_eq_true_eq, List.all_eq_true,
    Option.all_eq_true, List.isEmpty_iff, within_iff, none_iff, both]
  constructor
  · rintro ⟨⟨⟨⟨⟨⟨⟨⟨falling, past, inside⟩, debounce⟩, settled⟩, enterings⟩, counter⟩, entries⟩, staged⟩, ids⟩
    exact ⟨⟨falling, past, inside, debounce, settled, counter, entries, staged, ids⟩, enterings⟩
  · rintro ⟨⟨falling, past, inside, debounce, settled, counter, entries, staged, ids⟩, enterings⟩
    exact ⟨⟨⟨⟨⟨⟨⟨⟨falling, past, inside⟩, debounce⟩, settled⟩, enterings⟩, counter⟩, entries⟩, staged⟩, ids⟩

theorem TrackFits.mono {j k : Nat} {s : State} (h : TrackFits k s) (hj : j ≤ k) : TrackFits j s :=
  { h with past := fun r hr => (Nat.add_le_add_left hj _).trans (h.past r hr) }

/-- An empty track fits, whatever the profile, the eye filter and the travel. -/
theorem TrackFits.of_nil {k : Nat} {s : State} (track : s.track = [])
    (debounce : ∀ n, s.conveyor.debounce = some n → n ≤ 3) (counter : 1 ≤ s.nextEntry ∧ s.nextEntry ≤ 65535)
    (staged : ∀ e ∈ s.staging, e.panelId ≠ 0) (ids : (s.staging.map (·.panelId)).Nodup) : TrackFits k s := by
  refine ⟨?_, ?_, ?_, debounce, fun _ => track, counter, ?_, staged, ?_⟩ <;> simp [track, Falling, State.panelIds, ids]

theorem TrackFits.staged_nodup {k : Nat} {s : State} (h : TrackFits k s) : (s.staging.map (·.panelId)).Nodup :=
  h.ids.sublist (List.sublist_append_left ..)

theorem PanelsKept.travel {s t : State} (h : PanelsKept s t) : t.conveyor.travel = s.conveyor.travel := by
  rw [Conveyor.travel, Conveyor.travel, h.accepted, h.debounce]

theorem PanelsKept.trackFits {s t : State} (h : PanelsKept s t) {k : Nat} (hs : TrackFits k s) : TrackFits k t where
  falling := List.Pairwise.sublist h.positions hs.falling
  past r hr := by
    obtain ⟨x, hx, e⟩ := h.mem_track hr
    have position : x.position = r.position := congrArg (·.2.2.2) e
    rw [h.prof, ← position]; exact hs.past x hx
  inside r hr := by
    obtain ⟨x, hx, e⟩ := h.mem_track hr
    have position : x.position = r.position := congrArg (·.2.2.2) e
    rw [h.prof, ← position]; exact hs.inside x hx
  debounce := h.debounce ▸ hs.debounce
  settled hd := by
    have empty := hs.settled (h.debounce ▸ hd)
    have := h.track
    rwa [empty, List.map_nil, List.sublist_nil, List.map_eq_nil_iff] at this
  counter := h.nextEntry ▸ hs.counter
  entries r hr := by
    obtain ⟨x, hx, e⟩ := h.mem_track hr
    have entry : x.entry = r.entry := congrArg Prod.fst e
    exact entry ▸ hs.entries x hx
  staged := h.staging ▸ hs.staged
  ids := hs.ids.sublist (by
    rw [State.panelIds, State.panelIds, h.staging]
    exact (List.Sublist.refl _).append (h.panelIds.filter _))

theorem PanelsKept.trackInv {s t : State} (h : PanelsKept s t) (hs : s.trackInv = true) : t.trackInv = true := by
  obtain ⟨fits, enterings⟩ := State.trackInv_iff.1 hs
  rw [State.trackInv_iff, h.travel, h.accepted]
  exact ⟨h.trackFits fits, h.enterings.trans enterings⟩

/-! ### The eye -/

/-- An edge is accepted only with the debounce travel come, or with none (R12). -/
theorem travel_of_edgeAccepted {s : State} (edge : s.edgeAccepted = true) : s.conveyor.travel = 3 := by
  obtain ⟨-, -, hd, -⟩ := State.edgeAccepted_iff.1 edge
  unfold Conveyor.travel
  rcases hd with hd | hd <;> cases s.conveyor.accepted <;> simp [hd]

theorem TrackFits.edgeTaken {k : Nat} {s : State} (h : TrackFits k s) : TrackFits k s.edgeTaken :=
  { h with
    debounce := by rintro n ⟨⟩; exact Nat.zero_le 3
    settled := by rintro ⟨⟩ }

/-- A binding takes an entry's id from the queue to the track, or brings none (R21, R23, R24). -/
theorem TrackFits.bound_ids {k : Nat} {s : State} (h : TrackFits k s) {r : TrackRecord} {rest : List StagingEntry}
    (binds : Binds s r rest) : (∀ e ∈ rest, e.panelId ≠ 0) ∧ (s.bound r rest).panelIds.Nodup := by
  obtain ⟨staged, ids⟩ := And.intro h.staged h.ids
  unfold State.panelIds at ids ⊢
  simp only [State.bound, List.map_append, List.filter_append, List.map_singleton]
  rcases binds.source with ⟨hs, rfl, hr, -⟩ | ⟨e, hs, hr, -⟩
  · simpa [hs, hr] using ids
  · rw [hs] at staged ids
    obtain ⟨he, tl⟩ := List.forall_mem_cons.1 staged
    have one : [r.panelId].filter (· ≠ 0) = [e.panelId] := by simp [hr, he]
    rw [one, ← List.append_assoc]
    exact ⟨tl, List.nodup_append_comm.2 (by simpa using ids)⟩

/-- A binding puts one record more at the eye, behind the others (R18, R23). -/
theorem TrackFits.bound {s : State} (h : TrackFits 3 s) {r : TrackRecord} {rest : List StagingEntry}
    (binds : Binds s r rest) (room : s.prof.eye ≤ s.prof.lineLength + 1500)
    (debounce : s.conveyor.debounce ≠ none) : TrackFits 0 (s.bound r rest) where
  falling := by
    simp only [Falling, State.bound, List.map_append, List.map_singleton, List.pairwise_append, List.mem_map,
      List.mem_singleton, forall_exists_index, and_imp, binds.position]
    refine ⟨h.falling, by simp, ?_⟩
    rintro _ x hx rfl _ rfl
    have := h.past x hx
    omega
  past := by
    refine List.forall_mem_append.2 ⟨fun x hx => (Nat.add_le_add_left (Nat.zero_le 3) _).trans (h.past x hx), ?_⟩
    exact List.forall_mem_singleton.2 binds.position.ge
  inside := List.forall_mem_append.2 ⟨h.inside, List.forall_mem_singleton.2 (binds.position ▸ room)⟩
  debounce := h.debounce
  settled hd := absurd hd debounce
  counter := by
    obtain ⟨lo, hi⟩ := h.counter
    change 1 ≤ nextEntryAfter s.nextEntry ∧ nextEntryAfter s.nextEntry ≤ 65535
    unfold nextEntryAfter
    split <;> omega
  entries := List.forall_mem_append.2 ⟨h.entries, List.forall_mem_singleton.2 (binds.entry ▸ h.counter)⟩
  staged := (h.bound_ids binds).1
  ids := (h.bound_ids binds).2

theorem trackInv_examineEye {s : State} (hs : s.trackInv = true)
    (room : s.mode.active = true → s.prof.eye ≤ s.prof.lineLength + 1500) : s.examineEye.trackInv = true := by
  obtain ⟨fits, enterings⟩ := State.trackInv_iff.1 hs
  have taken (edge : s.edgeAccepted = true) : TrackFits 3 s.edgeTaken :=
    (travel_of_edgeAccepted edge ▸ fits).edgeTaken
  have none (edge : s.edgeAccepted = true) (high : s.pins.eye = .high) : s.enterings = 0 := by
    obtain ⟨-, -, -, changed⟩ := State.edgeAccepted_iff.1 edge
    rw [if_neg fun e => changed (high.trans e.symm)] at enterings
    omega
  cases s.examineEye_look with
  | refused same => rw [same]; exact hs
  | fell edge low kept measured =>
    have travel : s.edgeTaken.conveyor.travel = 3 := by simp [State.edgeTaken, Conveyor.travel, low]
    rw [State.trackInv_iff, kept.travel, travel, measured]
    exact ⟨kept.trackFits (taken edge), Nat.zero_le _⟩
  | full edge high kept =>
    have travel : s.edgeTaken.conveyor.travel = 0 := by simp [State.edgeTaken, Conveyor.travel, high]
    have unentered : s.edgeTaken.enterings = 0 := none edge high
    rw [State.trackInv_iff, kept.travel, travel]
    exact ⟨(kept.trackFits (taken edge)).mono (Nat.zero_le 3),
      (kept.enterings.trans unentered.le).trans (Nat.zero_le _)⟩
  | @bound edge high _ r rest binds kept =>
    have travel : (s.edgeTaken.bound r rest).conveyor.travel = 0 := by
      simp [State.bound, State.edgeTaken, Conveyor.travel, high]
    have accepted : (s.edgeTaken.bound r rest).conveyor.accepted = .high := high
    have entered : (s.edgeTaken.bound r rest).enterings ≤ 1 := by
      have : (s.edgeTaken.bound r rest).enterings ≤ s.enterings + 1 := by
        simp only [State.enterings, State.bound, State.edgeTaken, List.filter_append, List.length_append]
        exact Nat.add_le_add_left (List.length_filter_le ..) _
      rwa [none edge high] at this
    have binds : Binds s.edgeTaken r rest := ⟨binds.entry, binds.position, binds.source⟩
    rw [State.trackInv_iff, kept.travel, travel, kept.accepted, accepted, if_pos rfl]
    refine ⟨kept.trackFits ((taken edge).bound binds (room (State.edgeAccepted_iff.1 edge).1) ?_),
      kept.enterings.trans entered⟩
    rintro ⟨⟩

/-! ### An advance event -/

/-- Each record comes a millimetre further past the eye, up to the debounce travel; those from which it is withheld
crowd at the line's end, far past the eye (R29). -/
theorem TrackFits.moveRecords {k : Nat} {s : State} (h : TrackFits k s) (capacity : s.track.length ≤ 32)
    (inside : s.prof.eye < s.prof.lineLength) : TrackFits (min 3 (k + 1)) s.moveRecords where
  falling := moveTrack_falling _ _ _ h.falling
  past r hr := by
    have : s.prof.eye + k + 1 ≤ r.position ∨ s.prof.lineLength + 1500 ≤ r.position + (0 + s.track.length) :=
      moveTrack_moves_or_crowds s.track none 0 h.past (by simp) r hr
    change s.prof.eye + min 3 (k + 1) ≤ r.position
    omega
  inside := moveTrack_le_limit _ _ _ h.inside
  debounce := h.debounce
  settled hd := by
    rw [← List.length_eq_zero_iff, State.moveRecords_length, h.settled hd, List.length_nil]
  counter := h.counter
  entries r hr := by
    have : r.entry ∈ s.track.map (·.entry) := by
      rw [← State.moveRecords_map (f := (·.entry)) fun _ => rfl]
      exact List.mem_map_of_mem hr
    obtain ⟨x, hx, e⟩ := List.mem_map.1 this
    exact e ▸ h.entries x hx
  staged := h.staged
  ids := by
    rw [State.panelIds, State.moveRecords_map (f := (·.panelId)) fun _ => rfl]
    exact h.ids

theorem debounceAfter_eq (d : Option Nat) : debounceAfter d = d.map fun n => if n < 3 then n + 1 else n := rfl

/-- The debounce travel grows with the records' travel (R12). -/
theorem TrackFits.grown {s : State} (h : TrackFits (min 3 (s.conveyor.travel + 1)) s) :
    TrackFits s.grown.conveyor.travel s.grown where
  falling := h.falling
  past r hr := by
    have travel : s.grown.conveyor.travel ≤ min 3 (s.conveyor.travel + 1) := by
      have bound := h.debounce
      simp only [State.grown, State.updConveyor_conveyor, Conveyor.travel, debounceAfter_eq]
      cases s.conveyor.accepted <;> cases hd : s.conveyor.debounce <;> simp
      have := bound _ hd
      split <;> omega
    exact (Nat.add_le_add_left travel _).trans (h.past r hr)
  inside := h.inside
  debounce n hn := by
    have bound := h.debounce
    simp only [State.grown, State.updConveyor_conveyor, debounceAfter_eq, Option.map_eq_some_iff] at hn
    obtain ⟨m, hm, rfl⟩ := hn
    have := bound m hm
    split <;> omega
  settled hd := h.settled (by simpa [State.grown, debounceAfter] using hd)
  counter := h.counter
  entries := h.entries
  staged := h.staged
  ids := h.ids

theorem trackInv_advance {s : State} (hs : s.trackInv = true) (capacity : s.track.length ≤ 32)
    (inside : s.prof.eye < s.prof.lineLength) : s.advance.trackInv = true := by
  obtain ⟨fits, enterings⟩ := State.trackInv_iff.1 hs
  obtain ⟨u, kept, e⟩ := s.advance_cases
  have travel : u.conveyor.travel = s.conveyor.travel := kept.travel
  have grown : u.grown.trackInv = true := by
    refine State.trackInv_iff.2 ⟨(travel ▸ kept.trackFits (fits.moveRecords capacity inside)).grown, ?_⟩
    change u.enterings ≤ if u.conveyor.accepted = .high then 1 else 0
    rw [kept.accepted]
    exact (kept.enterings.trans s.moveRecords_enterings.le).trans enterings
  have prof : u.grown.prof = s.prof := kept.prof
  rcases e with e | e <;> rw [e]
  · exact grown
  · exact trackInv_examineEye grown fun _ => by rw [prof]; omega

/-! ### Every step -/

/-- Where the line tracks, the eye stands before its end (R2). -/
theorem eye_lt_of_active {s : State} (hs : s.conveyorInv = true) (active : s.mode.active = true) :
    s.prof.eye < s.prof.lineLength := by
  obtain ⟨range, tracking, -, -⟩ := State.conveyorInv_iff.1 hs
  obtain ⟨p, hp⟩ := Option.isSome_iff_exists.1 (tracking active).1
  have := range p hp
  simp only [Profile.inRange, Bool.and_eq_true, decide_eq_true_eq] at this
  simp only [State.prof, hp, Option.getD_some]
  obtain ⟨⟨⟨⟨⟨⟨⟨⟨⟨⟨⟨⟨-, -⟩, eye⟩, -⟩, -⟩, -⟩, -⟩, -⟩, -⟩, -⟩, -⟩, -⟩, -⟩ := this
  exact eye

/-- An announced id is new to the queue and to the track (R21). -/
theorem TrackFits.announced {k : Nat} {s : State} (h : TrackFits k s) {e : StagingEntry} (ok : s.entryOk e = true)
    (new : s.idHeld e.panelId = false) : TrackFits k { s with staging := s.staging ++ [e] } := by
  have fresh : e.panelId ∉ s.panelIds := by
    simp only [State.idHeld, Bool.or_eq_false_iff, List.any_eq_false, decide_eq_true_eq] at new
    simp only [State.panelIds, List.mem_append, List.mem_map, List.mem_filter, not_or, not_exists, not_and]
    exact ⟨new.1, fun hx => absurd hx (by simpa using new.2)⟩
  simp only [State.entryOk, Bool.and_eq_true, decide_eq_true_eq] at ok
  obtain ⟨⟨⟨⟨⟨named, -⟩, -⟩, -⟩, -⟩, -⟩ := ok
  refine { h with staged := ?_, ids := ?_ }
  · exact List.forall_mem_append.2 ⟨h.staged, List.forall_mem_singleton.2 named⟩
  · simp only [State.panelIds, List.map_append, List.map_singleton, List.append_assoc, List.singleton_append]
    exact List.nodup_middle.2 (List.nodup_cons.2 ⟨fresh, h.ids⟩)

theorem TrackFits.withdrawn {k : Nat} {s : State} (h : TrackFits k s) (p : StagingEntry → Bool) :
    TrackFits k { s with staging := s.staging.filter p } :=
  { h with
    staged := fun e he => h.staged e (List.mem_of_mem_filter he)
    ids := h.ids.sublist ((List.filter_sublist.map _).append (List.Sublist.refl _)) }

theorem PanelChange.trackInv {s t : State} (h : PanelChange s t) (panel : s.panelInv = true)
    (line : (s.mode.active = true → s.prof.eye < s.prof.lineLength) ∧ (s.mode.active = false → s.track = []))
    (hs : s.trackInv = true) : t.trackInv = true := by
  obtain ⟨fits, enterings⟩ := State.trackInv_iff.1 hs
  have empty {u : State} (track : u.track = []) (fits : TrackFits u.conveyor.travel u) : u.trackInv = true :=
    State.trackInv_iff.2 ⟨fits, by simp [State.enterings, track]⟩
  cases h with
  | announced e ok new room => exact State.trackInv_iff.2 ⟨fits.announced ok new, enterings⟩
  | withdrawn id => exact State.trackInv_iff.2 ⟨fits.withdrawn _, enterings⟩
  | recipePut n r free =>
    unfold State.putRecipe
    split <;> exact hs
  | profileSet p mode ok =>
    have track := line.2 (by rw [mode]; rfl)
    exact empty track (.of_nil track fits.debounce fits.counter fits.staged fits.staged_nodup)
  | started mode =>
    have track := line.2 (by rw [mode]; rfl)
    exact empty track (.of_nil track (by simp [State.offlineToRun]) fits.counter fits.staged fits.staged_nodup)
  | eyeSeen => exact trackInv_examineEye hs fun active => by have := line.1 active; omega
  | advanced active => exact trackInv_advance hs (State.panelInv_iff.1 panel).2.1 (line.1 active)
  | reset _ panels conveyor _ =>
    obtain ⟨staging, track, -, counter⟩ := panels
    exact empty track (.of_nil track (by simp [conveyor, Conveyor.afterReset]) (by simp [counter]) (by simp [staging])
      (by simp [staging]))

theorem PanelStep.trackInv {s t : State} (h : PanelStep s t) (panel : s.panelInv = true)
    (conveyor : s.conveyorInv = true) (hs : s.trackInv = true) : t.trackInv = true := by
  cases h with
  | kept h => exact h.trackInv hs
  | @changed u v parts mode change after =>
    have kept : PanelsKept s u := .of_parts parts
    have track : u.track = s.track := congrArg (·.2.2.2.2.2.2.1) parts
    refine after.trackInv (change.trackInv (kept.panelInv panel) ⟨fun active => ?_, fun still => ?_⟩ (kept.trackInv hs))
    · rw [kept.prof]
      exact eye_lt_of_active conveyor (mode ▸ active)
    · rw [track]
      exact ((State.conveyorInv_iff.1 conveyor).2.2.1 (mode ▸ still)).1

/-- Settles O58: what a step can do to the panels is said once (`panelStep_step`), and each of it keeps the three. -/
theorem stepKeepsPanelInv : Obligations.StepKeepsPanelInv := by
  unfold Obligations.StepKeepsPanelInv
  exact ⟨fun _ _ hs h => (panelStep_step h).panelInv hs,
    fun _ _ panel conveyor hs h => (panelStep_step h).trackInv panel conveyor hs,
    fun _ _ nodup new h => (panelStep_step h).entries ⟨nodup, new⟩⟩

end Sys2Proof.Machine
end

section
/-! PROOFS. Covered length, covered area and the governor rule (R30, R31, R62); O51. -/

namespace Sys2Proof.Machine

/-! ### Covered length and covered area -/

theorem State.covered_of_no_segment {s : State} {c : Chan} (h : s.segment c = none) (r : TrackRecord) :
    s.covered c r = 0 := by simp [State.covered, h]

theorem State.covered_of_departing (s : State) (c : Chan) {r : TrackRecord} (h : r.departing = true) :
    s.covered c r = 0 := by
  unfold State.covered
  split
  · rfl
  · rw [if_pos h]

theorem State.covered_of_segment {s : State} {c : Chan} {seg : Segment} (h : s.segment c = some seg)
    {r : TrackRecord} (hr : r.departing = false) : s.covered c r =
      (min (r.position : Int) (seg.start + seg.length) -
        max ((r.position : Int) - s.effective r) seg.start).toNat := by
  simp [State.covered, h, hr, overlap]

/-- No record covers more than its effective length (R30). -/
theorem State.covered_le_effective (s : State) (c : Chan) (r : TrackRecord) : s.covered c r ≤ s.effective r := by
  cases hs : s.segment c with
  | none => simp [State.covered_of_no_segment hs]
  | some seg =>
    cases hr : r.departing with
    | true => simp [State.covered_of_departing s c hr]
    | false => rw [State.covered_of_segment hs hr]; omega

/-- The area of the side that faces the channel (R31). -/
theorem TrackRecord.area_facing (r : TrackRecord) (c : Chan) :
    r.area (r.facing c) = if (decide (c.val < 20) != r.flipped) then r.areaA else r.areaB := by
  unfold TrackRecord.facing sideOf
  by_cases hc : c.val < 20 <;> cases hf : r.flipped <;> simp [hc, TrackRecord.area]

theorem State.coveredArea_eq (s : State) (c : Chan) (r : TrackRecord) : s.coveredArea c r =
    (if (decide (c.val < 20) != r.flipped) then r.areaA else r.areaB) * s.covered c r / s.effective r := by
  rw [State.coveredArea, TrackRecord.area_facing]

/-- The covered area is a share of the side's area. -/
theorem State.coveredArea_le (s : State) (c : Chan) (r : TrackRecord) {a : Nat} (ha : r.areaA ≤ a) (hb : r.areaB ≤ a) :
    s.coveredArea c r ≤ a := by
  have side : r.area (r.facing c) ≤ a := by rw [TrackRecord.area_facing]; split <;> assumption
  calc s.coveredArea c r
      ≤ r.area (r.facing c) * s.effective r / s.effective r :=
        Nat.div_le_div_right (Nat.mul_le_mul_left _ (s.covered_le_effective c r))
    _ ≤ r.area (r.facing c) := Nat.div_le_of_le_mul (Nat.mul_comm ..).le
    _ ≤ a := side

/-! ### The governor rule -/

theorem greatest_eq_none {m : TrackRecord → Nat} : ∀ {l : List TrackRecord}, greatest m l = none ↔ l = []
  | [] => by simp [greatest]
  | r :: l => by
    unfold greatest
    split
    · simp
    · split <;> simp

theorem greatest_mem {m : TrackRecord → Nat} {t : TrackRecord} : ∀ {l : List TrackRecord},
    greatest m l = some t → t ∈ l
  | [], h => by simp [greatest] at h
  | r :: l, h => by
    unfold greatest at h
    split at h
    · obtain rfl := Option.some.inj h
      exact List.mem_cons_self
    · rename_i u hu
      split at h
      · obtain rfl := Option.some.inj h
        exact List.mem_cons_of_mem _ (greatest_mem hu)
      · obtain rfl := Option.some.inj h
        exact List.mem_cons_self

/-- The greatest of a list is the record that measures more than those before it, and no less than those after. -/
theorem greatest_eq_some {m : TrackRecord → Nat} {r : TrackRecord} {after : List TrackRecord}
    (ha : ∀ x ∈ after, m x ≤ m r) : ∀ {before : List TrackRecord}, (∀ x ∈ before, m x < m r) →
    greatest m (before ++ r :: after) = some r
  | [], _ => by
    change (match greatest m after with
      | none => some r
      | some t => if m r < m t then some t else some r) = some r
    cases h : greatest m after with
    | none => rfl
    | some t => exact if_neg (Nat.not_lt.2 (ha t (greatest_mem h)))
  | b :: before, hb => by
    obtain ⟨hb, rest⟩ := List.forall_mem_cons.1 hb
    rw [List.cons_append, greatest, greatest_eq_some ha rest]
    exact if_pos hb

theorem State.mem_candidates {s : State} {c : Chan} {r : TrackRecord} : r ∈ s.candidates c ↔
    r ∈ s.track ∧ 0 < s.covered c r ∧ r.recipe ≠ none := by
  simp [State.candidates, Option.isSome_iff_ne_none]

/-- Settles O51: the covered length by cases of the segment and the record, the governor as the greatest of the
candidates. -/
theorem coverageRules : Obligations.CoverageRules := by
  unfold Obligations.CoverageRules
  refine ⟨fun s c r => ⟨fun h => State.covered_of_no_segment h r, State.covered_of_departing s c, ?_,
    State.coveredArea_eq s c r, ?_, fun h => by simp [State.coveredArea, h], State.coveredArea_le s c r⟩,
    fun s c => ⟨fun h => ?_, ?_⟩⟩
  · intro seg hs hr lower overlap
    rw [State.covered_of_segment hs hr]
    exact ⟨Int.toNat_of_nonneg ∘ le_of_lt, Int.toNat_of_nonpos⟩
  · unfold State.effective effectiveLength
    cases r.measured <;> cases r.announced <;> rfl
  · have : s.candidates c = [] := List.eq_nil_iff_forall_not_mem.2 fun r hr =>
      h r (State.mem_candidates.1 hr).1 (State.mem_candidates.1 hr).2
    rw [State.governorRule, greatest_eq_none.2 this, Option.map_none]
  · intro before r after ht hr hb ha
    let p (x : TrackRecord) : Bool := decide (0 < s.covered c x) && x.recipe.isSome
    have meets {x : TrackRecord} : p x = true ↔ 0 < s.covered c x ∧ x.recipe ≠ none := by
      simp [p, Option.isSome_iff_ne_none]
    have candidates : s.candidates c = before.filter p ++ r :: after.filter p := by
      rw [State.candidates, ht, List.filter_append, List.filter_cons_of_pos (meets.2 hr)]
    rw [State.governorRule, candidates, greatest_eq_some, Option.map_some]
    · exact fun x hx => ha x (List.mem_of_mem_filter hx) (meets.1 (List.mem_filter.1 hx).2)
    · exact fun x hx => hb x (List.mem_of_mem_filter hx) (meets.1 (List.mem_filter.1 hx).2)

end Sys2Proof.Machine
end

section
/-! PROOFS. The requests to the staging queue and to the exit list; O43 and O45. -/

namespace Sys2Proof.Machine

theorem exec_bootReceptive {i : Instr} {r : Request} {s : State} (hr : requestOf i = some r)
    (h : s.bootReceptive = true) (hq : r ≠ .queryLine) :
    exec i s = .next { s with link := s.answer r .booting .nothing } := by
  have boot : ((s.settled = true ∧ s.pins.resetHeld = false) ∧ s.link.inHand = none) ∧ s.mode = .boot := by
    simpa [State.bootReceptive] using h
  obtain ⟨⟨⟨hs, hp⟩, hi⟩, hm⟩ := boot
  exact exec_booting hr hs hp hi hm hq

/-! ### The staging queue -/

/-- AnnouncePanel's value check, spelled out (R21, check 1). -/
theorem State.entryOk_iff {s : State} {e : StagingEntry} : s.entryOk e = true ↔
    e.panelId ≠ 0 ∧ e.recipe ≤ 15 ∧ (s.recipe e.recipe).isSome = true ∧
    (∀ n, e.announced = some n → 100 ≤ n ∧ n ≤ 1500) ∧ e.areaA ≤ 20000 ∧ e.areaB ≤ 20000 := by
  simp [State.entryOk, Option.all_eq_true, within_iff, and_assoc]

theorem State.idHeld_iff {s : State} {id : Nat} : s.idHeld id = true ↔
    (∃ x ∈ s.staging, x.panelId = id) ∨ ∃ x ∈ s.track, x.panelId = id := by
  simp [State.idHeld]

section
variable {s : State} {e : StagingEntry}

theorem serveAnnouncePanel_badValue (h : s.entryOk e = false) :
    serveAnnouncePanel (some e) s = refuse s .badValue := by simp [serveAnnouncePanel, h]

theorem serveAnnouncePanel_duplicateId (h : s.entryOk e = true) (hk : s.idHeld e.panelId = true) :
    serveAnnouncePanel (some e) s = refuse s .duplicateId := by simp [serveAnnouncePanel, h, hk]

theorem serveAnnouncePanel_full (h : s.entryOk e = true) (hk : s.idHeld e.panelId = false)
    (hl : 8 ≤ s.staging.length) : serveAnnouncePanel (some e) s = refuse s .full := by
  simp [serveAnnouncePanel, h, hk, Config.stagingCapacity, hl]

theorem serveAnnouncePanel_taken (h : s.entryOk e = true) (hk : s.idHeld e.panelId = false)
    (hl : s.staging.length < 8) :
    serveAnnouncePanel (some e) s = taken { s with staging := s.staging ++ [e] } := by
  simp [serveAnnouncePanel, h, hk, Config.stagingCapacity, Nat.not_le.2 hl]

theorem serveWithdrawPanel_notFound {id : Nat} (h0 : id ≠ 0) (h : ∀ e ∈ s.staging, e.panelId ≠ id) :
    serveWithdrawPanel id s = refuse s .notFound := by
  rw [serveWithdrawPanel, if_neg h0, if_neg]
  simpa using h

/-- A withdrawal takes the entry of the id from its place, the others keeping their order (R22). -/
theorem serveWithdrawPanel_taken {id : Nat} {before after : List StagingEntry} (h0 : id ≠ 0)
    (hs : s.staging = before ++ e :: after) (he : e.panelId = id) (others : ∀ x ∈ before ++ after, x.panelId ≠ id) :
    serveWithdrawPanel id s = taken { s with staging := before ++ after } := by
  have keep {l : List StagingEntry} (h : ∀ x ∈ l, x.panelId ≠ id) : l.filter (fun x => x.panelId ≠ id) = l :=
    List.filter_eq_self.2 fun x hx => by simpa using h x hx
  obtain ⟨hb, ha⟩ := List.forall_mem_append.1 others
  have rest : s.staging.filter (fun x => x.panelId ≠ id) = before ++ after := by
    rw [hs, List.filter_append, keep hb, List.filter_cons_of_neg (by simp [he]), keep ha]
  rw [serveWithdrawPanel, if_neg h0, if_pos, rest]
  simp [hs, he]

end

/-- Settles O43, check by check. -/
theorem stagingRequests : Obligations.StagingRequests := by
  unfold Obligations.StagingRequests
  refine ⟨fun s h => ⟨fun e => exec_bootReceptive rfl h (by simp), fun id => exec_bootReceptive rfl h (by simp)⟩,
    fun s e => by simp [State.inUse], fun s h => ⟨fun e => ?_, fun id => ?_⟩⟩
  · intro r replied good known
    have ok : s.hunting.entryOk e = true ↔ good := State.entryOk_iff
    have held : s.hunting.idHeld e.panelId = true ↔ known := State.idHeld_iff
    refine ⟨fun hg => ?_, fun hg hk => ?_, fun hg hk hl => ?_, fun hg hk hl => ?_⟩
    · exact done_refused h (serveAnnouncePanel_badValue (Bool.eq_false_iff.2 (mt ok.1 hg))) (.inl (by simp))
    · exact done_refused h (serveAnnouncePanel_duplicateId (ok.2 hg) (held.2 hk)) (.inl (by simp))
    · exact done_refused h (serveAnnouncePanel_full (ok.2 hg) (Bool.eq_false_iff.2 (mt held.1 hk)) hl) (.inl (by simp))
    · exact done_taken (r := .announcePanel (some e)) h
        (serveAnnouncePanel_taken (ok.2 hg) (Bool.eq_false_iff.2 (mt held.1 hk)) hl) (by simp) rfl rfl
  · intro r replied
    refine ⟨fun h0 => ?_, fun h0 hn => ?_, fun before e after h0 hs he others => ?_⟩
    · exact done_refused (r := .withdrawPanel id) h (if_pos h0) (.inl (by simp))
    · exact done_refused (r := .withdrawPanel id) h (serveWithdrawPanel_notFound h0 hn) (.inl (by simp))
    · exact done_taken (r := .withdrawPanel id) h (serveWithdrawPanel_taken h0 hs he others) (by simp) rfl rfl

/-! ### The exit list -/

/-- A change of the line-stop cause set that leaves an empty set empty raises nothing (R170). -/
theorem State.changeLineStop_quiet {s : State} {f : LineStopCauses → LineStopCauses}
    (h : s.lineStop.isEmpty = true → (f s.lineStop).isEmpty = true) :
    s.changeLineStop f = { s with lineStop := f s.lineStop } := by
  unfold State.changeLineStop
  refine if_neg ?_
  cases he : s.lineStop.isEmpty <;> simp_all

/-- CollectExit takes the head of the exit list, and EXIT_HIGH where eleven remain (R39, R141). -/
theorem serveCollectExit_taken {s : State} {e : ExitRecord} {rest : List ExitRecord} (h : s.exits = e :: rest) :
    serveCollectExit s = ⟨.ok, .exit e,
      { s with
        exits := rest
        lineStop := if rest.length = 11 then { s.lineStop with exitHigh := false } else s.lineStop }⟩ := by
  have cleared : ({ s with exits := rest } : State).changeLineStop (fun l => { l with exitHigh := false }) =
      { s with exits := rest, lineStop := { s.lineStop with exitHigh := false } } :=
    State.changeLineStop_quiet fun empty => by
      simp only [LineStopCauses.isEmpty, Bool.not_eq_true', Bool.or_eq_false_iff] at empty ⊢
      tauto
  unfold serveCollectExit
  simp only [h, cleared, List.length_cons, Config.exitHighAt, Nat.reduceEqDiff]
  split <;> rfl

/-- Settles O45: an empty list, and a list with a head. -/
theorem collectExitResult : Obligations.CollectExitResult := by
  unfold Obligations.CollectExitResult
  refine ⟨fun s h => exec_bootReceptive rfl h (by simp), fun s h => ⟨fun he => ?_, fun e rest he => ?_⟩⟩
  · refine done_refused (r := .collectExit) h ?_ (.inl (by simp))
    change serveCollectExit s.hunting = _
    simp [serveCollectExit, refuse, he]
  · exact done_taken (r := .collectExit) h (serveCollectExit_taken (s := s.hunting) he) (by simp) rfl rfl

end Sys2Proof.Machine
end

section
/-! PROOFS. What the queries report; O50. -/

namespace Sys2Proof.Machine

/-! ### The line's view (R195) -/

theorem vector_toList_four (v : Vector α 4) : v.toList = [v[0], v[1], v[2], v[3]] := by
  refine List.ext_getElem (by simp) fun i h _ => ?_
  have : i < 4 := by simpa using h
  interval_cases i <;> simp

theorem State.faultedCount_eq (s : State) :
    s.faultedCount = (Chan.all.filter fun c => (s.chan c).state.isFaulted).length := rfl

theorem State.inUse_iff {s : State} {n : Nat} : s.inUse n = true ↔
    (∃ e ∈ s.staging, e.recipe = n) ∨ (∃ r ∈ s.track, r.recipe = some n) ∨
      ∃ p, s.profile = some p ∧ p.fallback = some n := by
  simp [State.inUse, Option.any_eq_true, or_assoc]

/-! ### A channel's view (R124) -/

theorem placeIn_of_not_mem [DecidableEq α] {a : α} : ∀ {l : List α}, a ∉ l → placeIn a l = none
  | [], _ => rfl
  | b :: l, h => by
    obtain ⟨hb, hl⟩ := not_or.1 (List.mem_cons.not.1 h)
    rw [placeIn, if_neg hb, placeIn_of_not_mem hl]
    rfl

/-- The place of the first occurrence, from 1. -/
theorem placeIn_append [DecidableEq α] {a : α} {after : List α} : ∀ {before : List α}, a ∉ before →
    placeIn a (before ++ a :: after) = some (before.length + 1)
  | [], _ => if_pos rfl
  | b :: before, h => by
    obtain ⟨hb, hl⟩ := not_or.1 (List.mem_cons.not.1 h)
    rw [List.cons_append, placeIn, if_neg hb, placeIn_append hl]
    rfl

theorem State.queuePlace_none {s : State} {c : Chan} (h : c ∉ s.allQueued) (first : Nat) :
    (s.channelView c first).queuePlace = none := by
  simp only [State.allQueued, List.mem_flatMap, not_exists, not_and] at h
  exact List.findSome?_eq_none_iff.2 fun q hq => placeIn_of_not_mem (h q hq)

/-- With no channel queued twice, a queued channel's place is its place in its own group's queue (R108). -/
theorem State.queuePlace_some {s : State} {c : Chan} {g : BusGroup} {before after : List Chan}
    (nodup : s.allQueued.Nodup) (h : (s.group g).queue = before ++ c :: after) (first : Nat) :
    (s.channelView c first).queuePlace = some (before.length + 1) := by
  have mem : s.group g ∈ s.groups.toList := by simp [State.group]
  obtain ⟨gs, gs', split⟩ := List.append_of_mem mem
  have all : s.allQueued = gs.flatMap (·.queue) ++ (before ++ c :: after ++ gs'.flatMap (·.queue)) := by
    rw [State.allQueued, split, List.flatMap_append, List.flatMap_cons, h]
  rw [all] at nodup
  have earlier : ∀ q ∈ gs, c ∉ q.queue := fun q hq hc =>
    List.disjoint_of_nodup_append nodup (List.mem_flatMap.2 ⟨q, hq, hc⟩) (by simp)
  have ahead : c ∉ before := fun hc =>
    List.disjoint_of_nodup_append (List.nodup_append.1 (List.nodup_append.1 nodup).2.1).1 hc List.mem_cons_self
  change s.groups.toList.findSome? (fun q => placeIn c q.queue) = _
  have none : gs.findSome? (fun q => placeIn c q.queue) = none :=
    List.findSome?_eq_none_iff.2 fun q hq => placeIn_of_not_mem (earlier q hq)
  rw [split, List.findSome?_append, none, List.findSome?_cons, h, placeIn_append ahead]
  rfl

theorem State.inhibited_iff {s : State} {c : Chan} : s.inhibited c = true ↔
    ∃ j, (s.interlock j).latched = true ∧ (s.interlock j).config.drop = true ∧
      (s.interlock j).config.inScope c = true := by
  simp only [State.inhibited, List.any_eq_true, Interlock.drops, Bool.and_eq_true, and_assoc, State.interlock]
  constructor
  · rintro ⟨x, hx, drops⟩
    obtain ⟨i, hi, rfl⟩ := List.getElem_of_mem hx
    exact ⟨⟨i, by simpa using hi⟩, drops⟩
  · rintro ⟨j, drops⟩
    exact ⟨s.interlocks[j], by simp, drops⟩

/-! ### A panel's view (R40) -/

theorem find?_first {α : Type} {p : α → Bool} {before after : List α} {a : α} (hb : ∀ x ∈ before, p x = false)
    (ha : p a = true) : (before ++ a :: after).find? p = some a := by
  rw [List.find?_append, List.find?_eq_none.2 (by simpa using hb), List.find?_cons_of_pos ha]
  rfl

theorem serveQueryPanel_invalid {s : State} {name : PanelName} (h : name.valid = false) :
    serveQueryPanel (some name) s = refuse s .badValue := by simp [serveQueryPanel, h]

theorem serveQueryPanel_valid {s : State} {name : PanelName} (h : name.valid = true) :
    serveQueryPanel (some name) s = (s.panelView name).elim (refuse s .notFound) fun v => ⟨.ok, .panel v, s⟩ := by
  cases view : s.panelView name <;> simp [serveQueryPanel, h, view]

theorem State.panelView_byEntry (s : State) (n : Nat) :
    s.panelView (.byEntry n) = (s.find n).map fun r => .track r (s.effective r) := rfl

/-- By id the staging queue answers before the track (R40). -/
theorem State.panelView_staged {s : State} {n : Nat} {before after : List StagingEntry} {e : StagingEntry}
    (hs : s.staging = before ++ e :: after) (he : e.panelId = n) (hb : ∀ x ∈ before, x.panelId ≠ n) :
    s.panelView (.byId n) = some (.staged (before.length + 1) e) := by
  have found : s.staging.find? (fun x => x.panelId = n) = some e := by
    rw [hs]
    exact find?_first (by simpa using hb) (by simpa using he)
  have place : placeIn n (s.staging.map (·.panelId)) = some (before.length + 1) := by
    rw [hs, List.map_append, List.map_cons, he, placeIn_append (by simpa using hb), List.length_map]
  simp [State.panelView, State.stagedView, found, place]

theorem State.panelView_byId {s : State} {n : Nat} (hs : ∀ e ∈ s.staging, e.panelId ≠ n) :
    s.panelView (.byId n) = (s.track.find? fun r => r.panelId = n).map fun r => .track r (s.effective r) := by
  have none : s.staging.find? (fun x => x.panelId = n) = none := List.find?_eq_none.2 (by simpa using hs)
  simp [State.panelView, State.stagedView, none, State.named]

/-- A query that its owner answers with a view changes nothing but the link. -/
theorem exec_queryPanel {s : State} (h : s.receptive = true) {name : PanelName} (hn : name.valid = true) :
    exec (.queryPanel name) s = .next { s with link := match s.panelView name with
      | some v => s.answer (.queryPanel (some name)) .ok (.panel v)
      | none => s.answer (.queryPanel (some name)) .notFound .nothing } := by
  have view : s.hunting.panelView name = s.panelView name := by cases name <;> rfl
  have served : serve (.queryPanel (some name)) s.hunting = _ := serveQueryPanel_valid hn
  rw [view] at served
  cases hv : s.panelView name with
  | none =>
    rw [hv] at served
    exact done_refused h served (.inl (by simp))
  | some v =>
    rw [hv] at served
    exact done_refused h served (.inl (by simp))

theorem PanelName.valid_byEntry {n : Nat} (h1 : 1 ≤ n) (h2 : n ≤ 65535) : (PanelName.byEntry n).valid = true :=
  within_iff.2 ⟨h1, h2⟩

theorem PanelName.valid_byId {n : Nat} (h : n ≠ 0) : (PanelName.byId n).valid = true := by simpa [valid] using h

/-- Settles O50: the views of the line and of a channel field by field, then each query. -/
theorem queriesReport : Obligations.QueriesReport := by
  unfold Obligations.QueriesReport
  refine ⟨fun s => ?_, fun s c first => ?_, fun s h => ?_⟩
  · intro used v
    refine ⟨?_, by simp [v, State.lineView], fun n hn => ⟨s.inUse n, ?_, State.inUse_iff⟩⟩
    · simp only [v, State.lineView, State.faultedCount_eq, vector_toList_four]
    · simp [v, State.lineView, hn]
  · intro ch v
    refine ⟨?_, fun hc => State.queuePlace_none hc first,
      fun g before after nodup hq => State.queuePlace_some nodup hq first, fun g hg => ?_, fun hs => ?_,
      State.inhibited_iff, fun hi => ?_, fun g r hg hr => ?_⟩
    · simp only [v, ch, State.channelView]
      cases (s.chan c).period <;> rfl
    · simp [v, State.channelView, hg]
    · simp [v, State.channelView, State.busGroup, hs]
    · have hi : (s.chan c).period = .idle := hi
      simp [v, State.channelView, hi, Period.governor]
    · have governor : (s.chan c).period.governor = some g := by
        rcases hg with hg | ⟨p, hp, rfl⟩
        · rw [show (s.chan c).period = _ from hg]; rfl
        · rw [show (s.chan c).period = _ from hp]; rfl
      simp [v, State.channelView, governor, hr]
  · refine ⟨fun name hn => ?_, fun n r h1 h2 hr => ?_, fun n h1 h2 hr => ?_, fun n before r after hn hs ht hr hb => ?_,
      fun n before e after hn hs he hb => ?_, fun n hn hs ht => ?_, fun c first h1 h2 => ?_, fun n first hbad => ?_,
      ?_, ?_⟩
    · exact done_refused (r := .queryPanel (some name)) h (serveQueryPanel_invalid hn) (.inl (by simp))
    · rw [exec_queryPanel h (PanelName.valid_byEntry h1 h2), State.panelView_byEntry, hr]
      rfl
    · have none : s.find n = none := List.find?_eq_none.2 (by simpa using hr)
      rw [exec_queryPanel h (PanelName.valid_byEntry h1 h2), State.panelView_byEntry, none]
      rfl
    · have found : s.track.find? (fun x => x.panelId = n) = some r := by
        rw [ht]
        exact find?_first (by simpa using hb) (by simpa using hr)
      rw [exec_queryPanel h (PanelName.valid_byId hn), State.panelView_byId hs, found]
      rfl
    · rw [exec_queryPanel h (PanelName.valid_byId hn), State.panelView_staged hs he hb]
    · have none : s.track.find? (fun x => x.panelId = n) = none := List.find?_eq_none.2 (by simpa using ht)
      rw [exec_queryPanel h (PanelName.valid_byId hn), State.panelView_byId hs, none]
      rfl
    · refine done_refused (r := .queryChannel c.val first) h ?_ (.inl (by simp))
      have channel : chanOf? c.val = some c := by simp [chanOf?]
      change serveQueryChannel c.val first s.hunting = _
      rw [serveQueryChannel, channel]
      exact if_pos (within_iff.2 ⟨h1, h2⟩)
    · refine done_refused (r := .queryChannel n first) h ?_ (.inl (by simp))
      change serveQueryChannel n first s.hunting = _
      unfold serveQueryChannel
      split
      · rename_i c hc
        refine if_neg fun k => ?_
        obtain ⟨lo, hi⟩ := within_iff.1 k
        have : n < 40 := by
          by_contra big
          simp [chanOf?, big] at hc
        omega
      · rfl
    · exact done_refused (r := .readMonitor) h rfl (.inl (by simp))
    · exact done_refused (r := .queryLine) h rfl (.inl (by simp))

end Sys2Proof.Machine
end

section
/-! PROOFS. A request whose effects are parts of an event, and RemovePanel; O44. -/

namespace Sys2Proof.Machine

/-! ### A taken request's effects and its reply -/

/-- The orders of an event reach the module link without a look at the line link. -/
theorem pumpOrders_updLink (s : State) (f : LineLink → LineLink) :
    pumpOrders (flushOrders (s.updLink f)) = (pumpOrders (flushOrders s)).updLink f := by
  have flushed : flushOrders (s.updLink f) = (flushOrders s).updLink f := rfl
  rw [flushed]
  generalize flushOrders s = t
  unfold pumpOrders startOrder
  rw [State.updLink_moduleLink]
  cases t.moduleLink.sending with
  | some x => rfl
  | none =>
    cases t.moduleLink.waiting with
    | nil => rfl
    | cons o rest => obtain ⟨c, b⟩ := o; cases b <;> rfl

/-- What ends a taken request with these effects: its orders at the module link, its reply, then its notices pending
(R100, R191, R192, R194). -/
theorem done_live_answer {s : State} (h : s.receptive = true) {e : Effects} (hl : e.state.link = s.hunting.link)
    (hm : e.state.moduleLink = s.moduleLink) (f : Frame) (code : ResultCode) (payload : ReplyPayload) :
    done (e.live.putInHand f code payload false) = .next { e.state.issued e.orders with
      link := { s.link.answered f code payload with
        notices := e.notices.foldl (fun p k => joinNotices k p) s.link.notices } } := by
  obtain ⟨settled, -, inHand, -⟩ := State.receptive_iff.1 h
  have hs : e.state.settled = true := by
    simpa [State.settled, hl, hm, State.hunting] using settled
  have live : e.live.link = { s.hunting.link with
      notices := e.notices.foldl (fun p k => joinNotices k p) s.link.notices } := by
    rw [Effects.live, hl]; rfl
  rw [done, settle, State.putInHand, pumpOrders_updLink, pumpOrders_live hs]
  unfold pumpTransmitter LineLink.answered
  simp only [State.updLink_link, live, State.hunting]
  cases ht : s.link.tx <;> simp_all [State.updLink]

/-- A change of the line link and of the channels' records. -/
def State.retouch (k : LineLink → LineLink) (g : Vector Channel 40 → Vector Channel 40) (s : State) : State :=
  { s with link := k s.link, channels := g s.channels }

/-- A part of an event overlooks a change of the line link and the channels: it does the same after it. -/
def Overlooks (k : LineLink → LineLink) (g : Vector Channel 40 → Vector Channel 40) (f : State → Effects) : Prop :=
  ∀ s, f (s.retouch k g) = { f s with state := (f s).state.retouch k g }

namespace Overlooks

variable {k : LineLink → LineLink} {g : Vector Channel 40 → Vector Channel 40}

theorem andThen {f f' : State → Effects} (hf : Overlooks k g f) (hf' : Overlooks k g f') :
    Overlooks k g fun s => (f s).andThen f' := fun s => by
  simp only [Effects.andThen, hf s, hf' (f s).state]

theorem each {α : Type} {f' : α → State → Effects} (hf' : ∀ a, Overlooks k g (f' a)) :
    ∀ (l : List α) {f : State → Effects}, Overlooks k g f → Overlooks k g fun s => (f s).each l f'
  | [], _, hf => hf
  | a :: l, _, hf => each hf' l (hf.andThen (hf' a))

/-- A record leaves the track whatever the channels and the line link (R37). -/
theorem left (entry : Nat) : Overlooks k g (State.left entry) := by
  intro s
  unfold State.left
  rw [show (s.retouch k g).find entry = s.find entry from rfl]
  cases s.find entry with
  | none => rfl
  | some r =>
    dsimp only
    split <;> rfl

/-- The governor rule reads the channels, and not the line link (R62, R67). -/
theorem reawaits (c : Chan) : Overlooks k id (State.reawaits c) := by
  intro s
  have ruled : State.ruled c (s.retouch k id) =
      { State.ruled c s with state := (State.ruled c s).state.retouch k id } := by
    have rule : (s.retouch k id).governorRule c = s.governorRule c := rfl
    unfold State.ruled
    rw [rule]
    cases s.governorRule c with
    | none => rfl
    | some g => simp only [State.sample_monitor]; rfl
  unfold State.reawaits
  rw [show (s.retouch k id).chan c = s.chan c from rfl]
  cases (s.chan c).period with
  | idle => rfl
  | delivering p => rfl
  | align g =>
    dsimp only
    rw [show (s.retouch k id).find g = s.find g from rfl]
    split
    · exact ruled
    · rfl

end Overlooks

/-- A request whose owner's effects are those of a part of an event is answered with these effects. -/
theorem done_effects {s : State} (h : s.receptive = true) {r : Request} (hr : r ≠ .restart) {f : State → Effects}
    (leaves : LeavesLinks f) (blind : ∀ k, Overlooks k id f) (hs : serve r s.hunting = taken (f s.hunting).live) :
    done (s.arriveRequest r) = .next ((f s).answered r) := by
  have hunting : f s.hunting = { f s with state := { (f s).state with link := s.hunting.link } } :=
    blind (fun _ => s.hunting.link) s
  have issued : ∀ (t : State) (l : LineLink) (o : List Order),
      ({ t with link := l } : State).issued o = { t.issued o with link := l } := by
    intro t l o
    unfold State.issued State.sent
    cases t.moduleLink.sending with
    | some x => rfl
    | none =>
      match sortOrders o with
      | [] => rfl
      | ⟨c, b⟩ :: rest => cases b <;> rfl
  rw [State.arriveRequest_receptive h, hs]
  simp only [taken, hr, false_and, decide_false]
  rw [done_live_answer h (leaves _).1 (leaves _).2, hunting, issued, Effects.answered, State.replied, State.answer]
  have link : ((f s).state.issued (f s).orders).link = s.link := by
    have := congrArg State.link (issued (f s).state s.link (f s).orders)
    rwa [show ({ (f s).state with link := s.link } : State) = (f s).state by rw [← (leaves s).1]] at this
  rw [link]

/-! ### RemovePanel -/

theorem PanelName.valid_iff {name : PanelName} : name.valid = true ↔ match name with
    | .byId n => n ≠ 0
    | .byEntry n => 1 ≤ n ∧ n ≤ 65535 := by
  cases name with
  | byId n => simp [PanelName.valid]
  | byEntry n => exact within_iff

/-- The record holds the name (R34). -/
def TrackRecord.Holds (r : TrackRecord) : PanelName → Prop
  | .byId n => r.panelId = n
  | .byEntry n => r.entry = n

theorem State.named_none {s : State} {name : PanelName} (h : ∀ r ∈ s.track, ¬ r.Holds name) : s.named name = none := by
  cases name <;> exact List.find?_eq_none.2 (by simpa [TrackRecord.Holds] using h)

theorem State.named_some {s : State} {name : PanelName} {before after : List TrackRecord} {r : TrackRecord}
    (ht : s.track = before ++ r :: after) (hr : r.Holds name) (hb : ∀ x ∈ before, ¬ x.Holds name) :
    s.named name = some r := by
  cases name <;>
  · simp only [State.named, State.find, ht]
    exact find?_first (by simpa [TrackRecord.Holds] using hb) (by simpa [TrackRecord.Holds] using hr)

theorem serveRemovePanel_invalid {s : State} {name : PanelName} (h : ¬ name.valid = true) :
    serveRemovePanel (some name) s = refuse s .badValue := by simp [serveRemovePanel, h]

theorem serveRemovePanel_notFound {s : State} {name : PanelName} (h : name.valid = true) (hn : s.named name = none) :
    serveRemovePanel (some name) s = refuse s .notFound := by simp [serveRemovePanel, h, hn]

theorem serveRemovePanel_taken {s : State} {name : PanelName} (h : name.valid = true) {r : TrackRecord}
    (hn : s.named name = some r) : serveRemovePanel (some name) s = taken (s.removeRecord r) := by
  simp [serveRemovePanel, h, hn]

/-- The record with this entry number begins departure with cause REMOVED (R28, R34). -/
def State.removing (s : State) (entry : Nat) : State := s.updRecord entry (TrackRecord.depart .removed)

/-- A removal as a part of an event: the departure, the channels that awaited the record (R67), the leaving (log 39). -/
def State.removed (entry : Nat) (s : State) : Effects :=
  ((s.removing entry).quiet.each Chan.all State.reawaits).andThen (State.left entry)

theorem LeavesLinks.removed (entry : Nat) : LeavesLinks (State.removed entry) := by
  intro s
  obtain ⟨link, orders⟩ := LeavesLinks.each LeavesLinks.reawaits Chan.all (s.removing entry).quiet
  rw [State.removed, Effects.andThen_state]
  exact ⟨(LeavesLinks.left entry _).1.trans link, (LeavesLinks.left entry _).2.trans orders⟩

theorem Overlooks.removed (entry : Nat) (k : LineLink → LineLink) : Overlooks k id (State.removed entry) := by
  have start : Overlooks k id fun s => (s.removing entry).quiet := fun _ => rfl
  exact (Overlooks.each Overlooks.reawaits Chan.all start).andThen (.left entry)

theorem State.removeRecord_live (s : State) {r : TrackRecord} (h : r.departing = false) :
    s.removeRecord r = (s.removed r.entry).live := by
  rw [State.removeRecord, if_neg (by simp [h]), State.removed, ← leaveIfDone_live, ← realign_live, State.quiet_live]
  rfl

/-- Where no channel awaits a record that is DEPARTING, the governor rule is nowhere applied (R67). -/
theorem State.reawaits_quiet {s : State} {c : Chan}
    (h : ∀ g, (s.chan c).period = .align g → ∀ x ∈ s.track, x.entry = g → x.departing = false) :
    State.reawaits c s = s.quiet := by
  unfold State.reawaits
  split
  · rename_i g hg
    refine if_neg ?_
    simp only [Option.any_eq_true, not_exists, not_and, Bool.not_eq_true]
    intro x hx
    obtain ⟨mem, entry⟩ := State.mem_of_find hx
    exact h g hg x mem entry
  · rfl

section
variable {s : State} {before after : List TrackRecord} {r : TrackRecord}

/-- The track with one record, whose entry number no other has, on its way out. -/
theorem State.removing_track (ht : s.track = before ++ r :: after) (unique : ∀ x ∈ before ++ after, x.entry ≠ r.entry) :
    (s.removing r.entry).track = before ++ r.depart .removed :: after := by
  have keep {l : List TrackRecord} (h : ∀ x ∈ l, x.entry ≠ r.entry) :
      l.map (fun x => if x.entry = r.entry then x.depart .removed else x) = l := by
    conv_rhs => rw [← List.map_id l]
    exact List.map_congr_left fun x hx => if_neg (h x hx)
  obtain ⟨hb, ha⟩ := List.forall_mem_append.1 unique
  rw [State.removing, State.updRecord_track, ht, List.map_append, List.map_cons, keep hb, keep ha, if_pos rfl]

/-- With no channel awaiting a record that departs, a removal is the departure and the leaving. -/
theorem State.removed_unawaited (ht : s.track = before ++ r :: after)
    (unique : ∀ x ∈ before ++ after, x.entry ≠ r.entry) (unawaited : ∀ c, (s.chan c).period ≠ .align r.entry)
    (others : ∀ c g, (s.chan c).period = .align g → ∀ x ∈ s.track, x.entry = g → x.departing = false) :
    s.removed r.entry = State.left r.entry (s.removing r.entry) := by
  have quiet (c : Chan) : State.reawaits c (s.removing r.entry) = (s.removing r.entry).quiet := by
    refine State.reawaits_quiet fun g hg x hx entry => ?_
    have hg : (s.chan c).period = .align g := hg
    have apart : g ≠ r.entry := fun e => unawaited c (e ▸ hg)
    rw [State.removing_track ht unique, List.mem_append, List.mem_cons] at hx
    refine others c g hg x ?_ entry
    rw [ht, List.mem_append, List.mem_cons]
    rcases hx with hx | rfl | hx
    · exact .inl hx
    · exact absurd entry.symm apart
    · exact .inr (.inr hx)
  rw [State.removed, Effects.each_of_quiet fun c _ => quiet c]
  rfl

theorem State.find_removing (ht : s.track = before ++ r :: after)
    (unique : ∀ x ∈ before ++ after, x.entry ≠ r.entry) :
    (s.removing r.entry).find r.entry = some (r.depart .removed) := by
  rw [State.find, State.removing_track ht unique]
  refine find?_first (fun x hx => ?_) (decide_eq_true rfl)
  exact decide_eq_false ((List.forall_mem_append.1 unique).1 x hx)

/-- A record with something in flight waits on the track (R36). -/
theorem State.left_waits (ht : s.track = before ++ r :: after)
    (unique : ∀ x ∈ before ++ after, x.entry ≠ r.entry) (flying : 0 < r.inFlight) :
    State.left r.entry (s.removing r.entry) = (s.removing r.entry).quiet := by
  have stays : ¬ ((r.depart .removed).departing = true ∧ (r.depart .removed).inFlight = 0) := fun k => by
    have : r.inFlight = 0 := k.2
    omega
  rw [State.left, State.find_removing ht unique]
  exact if_neg stays

/-- A record with nothing in flight leaves at once (R37, R38, R39). -/
theorem State.left_leaves (ht : s.track = before ++ r :: after)
    (unique : ∀ x ∈ before ++ after, x.entry ≠ r.entry) (done : r.inFlight = 0) :
    State.left r.entry (s.removing r.entry) =
      let x := s.exitRecord (r.depart .removed)
      let causes := if s.exits.length = 11 then { s.lineStop with exitHigh := true } else s.lineStop
      ⟨{ s with
          track := before ++ after
          exits := if s.exits.length < 16 then s.exits ++ [x] else s.exits.tail ++ [{ x with lossBefore := true }]
          lineStop := causes }, [], .exit :: lineStopNotice s.lineStop causes⟩ := by
  have leaves : (r.depart .removed).departing = true ∧ (r.depart .removed).inFlight = 0 := ⟨rfl, done⟩
  have keep {l : List TrackRecord} (h : ∀ x ∈ l, x.entry ≠ r.entry) : l.filter (fun x => x.entry ≠ r.entry) = l :=
    List.filter_eq_self.2 fun x hx => by simpa using h x hx
  obtain ⟨hb, ha⟩ := List.forall_mem_append.1 unique
  have gone : (s.removing r.entry).track.filter (fun x => x.entry ≠ r.entry) = before ++ after := by
    rw [State.removing_track ht unique, List.filter_append, keep hb,
      List.filter_cons_of_neg (by simp [TrackRecord.depart]), keep ha]
  rw [State.left, State.find_removing ht unique]
  dsimp only
  rw [if_pos leaves, gone]
  rfl

end

/-- Effects without orders are answered with the reply, then the notices (R191, R192). -/
theorem Effects.answered_of_noOrders {e : Effects} (h : e.state.settled = true) (ho : e.orders = []) (r : Request) :
    e.answered r = e.state.replied r .nothing e.notices := by
  rw [Effects.answered, ho, State.issued_nil h]

/-- Settles O44: the checks, a record already DEPARTING, and the removal as a part of an event; with no channel awaiting
a record that departs, the removal is the leaving alone. -/
theorem removePanelResult : Obligations.RemovePanelResult := by
  unfold Obligations.RemovePanelResult
  intro s name h q replied good holds
  have valid : name.valid = true ↔ good := PanelName.valid_iff
  have holds_iff : ∀ x : TrackRecord, x.Holds name ↔ holds x := fun x => by cases name <;> rfl
  have named_hunting : s.hunting.named name = s.named name := by cases name <;> rfl
  refine ⟨fun hg => ?_, fun hg hn => ?_, fun before r after hg ht hr hb => ?_⟩
  · exact done_refused (r := q) h (serveRemovePanel_invalid (mt valid.1 hg)) (.inl (by simp [q]))
  · have named : s.named name = none := State.named_none fun x hx => (holds_iff x).not.2 (hn x hx)
    exact done_refused (r := q) h (serveRemovePanel_notFound (valid.2 hg) (named_hunting.trans named))
      (.inl (by simp [q]))
  · have named : s.named name = some r :=
      State.named_some ht ((holds_iff r).2 hr) fun x hx => (holds_iff x).not.2 (hb x hx)
    have served : serve q s.hunting = taken (s.hunting.removeRecord r) :=
      serveRemovePanel_taken (valid.2 hg) (named_hunting.trans named)
    refine ⟨fun hd => ?_, fun hd => ?_⟩
    · rw [State.removeRecord, if_pos hd] at served
      exact done_refused (r := q) h served (.inl (by simp [q]))
    · have removes : exec (.removePanel name) s = .next ((s.removed r.entry).answered q) := by
        rw [State.removeRecord_live _ hd] at served
        exact done_effects (r := q) h (by simp [q]) (.removed _) (.removed _) served
      refine ⟨removes, fun unique unawaited others => ?_⟩
      rw [removes, State.removed_unawaited ht unique unawaited others]
      have settled := (State.receptive_iff.1 h).1
      refine ⟨fun flying => ?_, fun done => ?_⟩
      · rw [State.left_waits ht unique flying, Effects.answered_of_noOrders settled rfl]
        have waits : s.removing r.entry = { s with track := before ++ r.depart .removed :: after } := by
          rw [← State.removing_track ht unique]; rfl
        rw [State.quiet_state, waits]
        rfl
      · rw [State.left_leaves ht unique done, Effects.answered_of_noOrders (by exact settled) rfl]
        refine ⟨fun room => ?_, fun head rest hs full => ?_⟩
        · simp only [if_pos room]
          rfl
        · have still : s.exits.length ≠ 11 := by omega
          have tail : s.exits.tail = rest := by rw [hs]; rfl
          simp only [if_neg (Nat.not_lt.2 full), if_neg still, tail, lineStopNotice, Bool.and_not_self,
            Bool.false_eq_true, if_false]
          rfl

end Sys2Proof.Machine
end

section
/-! PROOFS. Reports, report windows, the accounting of a period, the outcome of an attempt and the entry into FAULTED as
parts of an event; O20, O21. -/

namespace Sys2Proof.Machine

/-! ### One channel's record -/

/-- A channel has this record. -/
def State.putting (c : Chan) (ch : Channel) (s : State) : Effects :=
  State.quiet { s with channels := s.withChan c ch }

/-- Orders to one channel fall due. -/
def Effects.ordering (e : Effects) (c : Chan) (l : List OrderBody) : Effects :=
  { e with orders := e.orders ++ ordersTo c l }

theorem LeavesLinks.putting (c : Chan) (ch : Channel) : LeavesLinks (State.putting c ch) := fun _ => ⟨rfl, rfl⟩

theorem LeavesLinks.quiet : LeavesLinks State.quiet := fun _ => ⟨rfl, rfl⟩

theorem Effects.andThen_congr {e : Effects} {f g : State → Effects} (h : f e.state = g e.state) :
    e.andThen f = e.andThen g := by
  rw [Effects.andThen, Effects.andThen, h]

theorem State.updChan_live (e : Effects) (c : Chan) (f : Channel → Channel) :
    e.live.updChan c f = (e.andThen (State.putChannel c fun ch => (f ch, []))).live := by
  simp [State.updChan, Effects.live, State.putChannel, ordersTo, State.chan]

theorem Effects.ordering_nil (e : Effects) (c : Chan) : e.ordering c [] = e := by simp [ordering, ordersTo]

/-- A record put is the one that its channel's next change reads. -/
theorem Effects.putting_putChannel (e : Effects) (c : Chan) (ch : Channel) (f : Channel → Channel × List OrderBody) :
    (e.andThen (State.putting c ch)).andThen (State.putChannel c f) =
      (e.ordering c (f ch).2).andThen (State.putting c (f ch).1) := by
  simp [Effects.andThen, State.putting, State.quiet, State.putChannel, Effects.ordering, State.withChan,
    State.chan]

theorem Effects.putChannel_putChannel (e : Effects) (c : Chan) (f g : Channel → Channel × List OrderBody) :
    (e.andThen (State.putChannel c f)).andThen (State.putChannel c g) =
      e.andThen (State.putChannel c fun ch => ((g (f ch).1).1, (f ch).2 ++ (g (f ch).1).2)) := by
  simp [Effects.andThen, State.putChannel, ordersTo, State.chan]

/-! ### The accounting of a period (R127, R134, R137, R182) -/

/-- The anode counters of a channel rise, as a part of an event (R182). -/
def State.anodeCounting (c : Chan) (charge : Nat × Nat) (s : State) : Effects :=
  (s.anodeCount c charge.1 charge.2).quiet

/-- The accounting in the machine's own terms: its charge, whether it is an estimate, and the figures handed on. -/
theorem State.accounted_eq (p : PeriodRecord) (note : CloseNote) (report : Option PeriodReport) (s : State) :
    s.accounted p note report =
      (((s.creditAll p note (isEstimated note report) (periodCharge p note report)).quiet.each
        (p.contributors.map (·.entry)) State.left).andThen
          (State.sampling p.channel (.accounting (accountingSample p note report)))).andThen
            (State.anodeCounting p.channel (periodCharge p note report)) := by
  have sampled (t : State) (x : Sample) (charge : Nat × Nat) :
      (State.sampling p.channel x t).andThen (State.anodeCounting p.channel charge) =
        ⟨{ t with
            monitor := (t.sample p.channel x).monitor
            anodes := t.anodes.set p.channel
              ⟨min 18446744073709551615 (t.anodes[p.channel].forward + charge.1),
                min 18446744073709551615 (t.anodes[p.channel].reverse + charge.2)⟩ },
          [], monitorNotice t.monitor (t.sample p.channel x).monitor⟩ := by
    rw [State.sample_monitor]
    simp only [Effects.andThen, State.sampling, State.anodeCounting, State.quiet, List.append_nil]
    rfl
  cases report with
  | none => rw [Effects.andThen_assoc]; simp only [sampled]; rfl
  | some r =>
    rw [Effects.andThen_assoc]
    cases hs : note.stale <;>
    · simp only [sampled, State.accounted, periodCharge, isEstimated, accountingSample, hs]
      rfl

theorem account_live (e : Effects) (p : PeriodRecord) (note : CloseNote) (report : Option PeriodReport) :
    e.live.account p note report = (e.andThen (State.accounted p note report)).live := by
  let estimated := isEstimated note report
  let charge := periodCharge p note report
  let credited (s : State) : Effects := (s.creditAll p note estimated charge).quiet
  let done : Effects := (((e.andThen credited).each (p.contributors.map (·.entry)) State.left).andThen
    (State.sampling p.channel (.accounting (accountingSample p note report)))).andThen
      (State.anodeCounting p.channel charge)
  have parts : e.andThen (State.accounted p note report) = done := by
    rw [funext (State.accounted_eq p note report), ← Effects.andThen_assoc, ← Effects.andThen_assoc,
      Effects.andThen_each]
  have start : (e.andThen credited).live = e.live.creditAll p note estimated charge :=
    congrArg Effects.live (Effects.andThen_quiet e fun s => s.creditAll p note estimated charge)
  have counted (u : Effects) :
      (u.andThen (State.anodeCounting p.channel charge)).live = u.live.anodeCount p.channel charge.1 charge.2 :=
    congrArg Effects.live (Effects.andThen_quiet u fun s => s.anodeCount p.channel charge.1 charge.2)
  rw [parts, counted, ← sample_live,
    ← Effects.live_each (step := State.leaveIfDone) (fun entry u => leaveIfDone_live u entry), start, List.foldl_map]
  rfl

/-- The accounting reads no channel's record. -/
theorem Overlooks.accounted (p : PeriodRecord) (note : CloseNote) (report : Option PeriodReport)
    (g : Vector Channel 40 → Vector Channel 40) : Overlooks id g (State.accounted p note report) := by
  have credited : Overlooks id g fun s =>
      (s.creditAll p note (isEstimated note report) (periodCharge p note report)).quiet := fun _ => rfl
  have sampled (x : Sample) : Overlooks id g (State.sampling p.channel x) := fun _ => rfl
  have counted (charge : Nat × Nat) : Overlooks id g (State.anodeCounting p.channel charge) := fun _ => rfl
  rw [funext (State.accounted_eq p note report)]
  exact ((Overlooks.each Overlooks.left _ credited).andThen (sampled _)).andThen (counted _)

theorem LeavesLinks.accounted (p : PeriodRecord) (note : CloseNote) (report : Option PeriodReport) :
    LeavesLinks (State.accounted p note report) := by
  intro s
  obtain ⟨link, orders⟩ := LeavesLinks.each LeavesLinks.left (p.contributors.map (·.entry))
    (s.creditAll p note (isEstimated note report) (periodCharge p note report)).quiet
  rw [State.accounted_eq]
  exact ⟨link, orders⟩

/-- The accounting leaves the profile. -/
theorem State.accounted_prof (p : PeriodRecord) (note : CloseNote) (report : Option PeriodReport) (s : State) :
    (s.accounted p note report).state.prof = s.prof := by
  have kept := (PanelsKept.account s p note report).profile
  have live := account_live s.quiet p note report
  rw [State.quiet_live] at live
  rw [live] at kept
  exact congrArg (fun x : Option Profile => x.getD _) kept

/-- A channel's record put before an accounting is the one put after it. -/
theorem State.putting_accounted (c : Chan) (ch : Channel) (p : PeriodRecord) (note : CloseNote)
    (report : Option PeriodReport) (s : State) :
    (State.putting c ch s).andThen (State.accounted p note report) =
      (s.accounted p note report).andThen (State.putting c ch) := by
  have moved := Overlooks.accounted p note report (fun v => v.set c ch) s
  have put : (State.putting c ch s).state = s.retouch id fun v => v.set c ch := rfl
  rw [Effects.andThen, put, moved, State.putting]
  simp only [Effects.andThen, State.putting, State.quiet, List.nil_append, List.append_nil]
  rfl

/-! ### The outcome of an attempt (R79, R80) -/

/-- The record after an attempt's outcome, before the lone Zero Order that may then fall due. -/
def Channel.judged (interval : Nat) (lone valid : Bool) (ch : Channel) : Channel :=
  let attempting := decide (ch.zero = .attempting)
  let ch := if lone then { ch with loneZero := false } else ch
  if !attempting then ch
  else if valid then { ch with zero := .valid, zeroTimer := some interval, stale := false }
  else
    { ch with
      zero := .due
      stale := true
      retry := if lone && decide (ch.state = .ready) then some Config.retryMs else ch.retry }

theorem Channel.outcome_eq (interval : Nat) (lone valid : Bool) (ch : Channel) :
    ch.outcome interval lone valid = (ch.judged interval lone valid).asking := by
  have ended : ({ ch with loneZero := ch.loneZero && !lone } : Channel) =
      if lone then { ch with loneZero := false } else ch := by
    cases lone <;> simp
  unfold Channel.outcome Channel.judged
  rw [ended]
  have same : (if lone then { ch with loneZero := false } else ch : Channel).zero = ch.zero := by cases lone <;> rfl
  dsimp only
  rw [same]
  by_cases attempting : ch.zero = .attempting
  · cases valid <;> simp [attempting, Config.retryMs]
  · simp [attempting]

theorem State.zeroOutcome_eq (s : State) (c : Chan) (lone valid : Bool) :
    s.zeroOutcome c lone valid =
      let t := (s.updChan c (Channel.judged (s.prof.zeroInterval * 1000) lone valid)).loneZeroIfDue c
      if lone then t.startOccasion c else t := rfl

/-- An attempt's outcome as a part of an event: that of a Zero Order is a start occasion (R63). -/
def State.outcomeTaken (c : Chan) (interval : Nat) (lone valid : Bool) (s : State) : Effects :=
  let e := State.putChannel c (Channel.outcome interval lone valid) s
  if lone then e.andThen (State.started [c]) else e

theorem zeroOutcome_live (e : Effects) (c : Chan) (lone valid : Bool) :
    e.live.zeroOutcome c lone valid =
      (e.andThen (State.outcomeTaken c (e.state.prof.zeroInterval * 1000) lone valid)).live := by
  rw [State.zeroOutcome_eq, show e.live.prof = e.state.prof from rfl]
  generalize e.state.prof.zeroInterval * 1000 = interval
  have asked : (e.live.updChan c (Channel.judged interval lone valid)).loneZeroIfDue c =
      (e.andThen (State.putChannel c (Channel.outcome interval lone valid))).live := by
    rw [State.updChan_live, loneZeroIfDue_live]
    simp [Effects.andThen, State.putChannel, Channel.outcome_eq, State.chan, ordersTo]
  dsimp only
  rw [asked]
  cases lone with
  | false => rfl
  | true =>
    rw [if_pos rfl, startOccasion_live, Effects.andThen_assoc]
    rfl

theorem LeavesLinks.outcomeTaken (c : Chan) (interval : Nat) (lone valid : Bool) :
    LeavesLinks (State.outcomeTaken c interval lone valid) := by
  intro s
  cases lone with
  | false => exact ⟨rfl, rfl⟩
  | true => exact LeavesLinks.started [c] _

/-! ### The entry into FAULTED (R116, R118) -/

theorem arbiterOf_live (e : Effects) (c : Chan) :
    e.live.arbiterOf c = (e.andThen fun t => t.arbitratedFor c).live := by
  unfold State.arbiterOf State.arbitratedFor
  rw [show e.live.busGroup c = e.state.busGroup c from rfl]
  cases h : e.state.busGroup c with
  | none => simp [Effects.andThen, h]
  | some g =>
    dsimp only
    rw [arbiter_live]
    simp [Effects.andThen, h]

theorem LeavesLinks.arbitratedFor (c : Chan) : LeavesLinks fun t => t.arbitratedFor c := by
  intro s
  dsimp only
  unfold State.arbitratedFor
  split
  · exact LeavesLinks.arbitrated _ s
  · exact ⟨rfl, rfl⟩

/-- A channel's own record is the one that becomes FAULTED. -/
def State.faulting (c : Chan) (cause : FaultCause) (s : State) : Effects := s.faultTaken c (s.chan c) cause

theorem LeavesLinks.faulting (c : Chan) (cause : FaultCause) : LeavesLinks (State.faulting c cause) := by
  intro s
  unfold State.faulting State.faultTaken
  split
  · exact ⟨rfl, rfl⟩
  · dsimp only [Effects.andThen_state]
    split
    · exact LeavesLinks.arbitratedFor c _
    · exact ⟨rfl, rfl⟩

/-- A period in flight stopped before its end, the setpoints then zero (R93, R116). -/
def Channel.cut (ch : Channel) : Channel × List OrderBody :=
  match ch.period with
  | .delivering _ => (ch.stopped.1.zeroed, ch.stopped.2)
  | _ => (ch, [])

theorem truncate_live (e : Effects) (c : Chan) :
    e.live.truncate c = (e.andThen (State.putChannel c Channel.cut)).live := by
  unfold State.truncate State.putChannel Channel.cut Effects.andThen
  dsimp only
  rw [show e.live.chan c = e.state.chan c from rfl]
  cases hp : (e.state.chan c).period with
  | delivering p =>
    dsimp only
    rw [order_live, State.updChan_live]
    simp [Effects.andThen, State.putChannel, Channel.stopped, Channel.closed, hp, ordersTo, Config.windowMs]
  | idle => simp [ordersTo, State.set_chan]
  | align g => simp [ordersTo, State.set_chan]

/-- The Disarm Order of a fault, where the contactor is closed (R118). -/
theorem faultDisarm_live (e : Effects) (c : Chan) :
    (if (e.live.chan c).contactorClosed then e.live.order c .disarm else e.live) =
      (e.andThen (State.putChannel c fun ch => (ch, if ch.contactorClosed then [.disarm] else []))).live := by
  rw [order_live, show e.live.chan c = e.state.chan c from rfl]
  cases hc : (e.state.chan c).contactorClosed <;>
    simp [Effects.andThen, State.putChannel, hc, ordersTo, State.set_chan]

/-- FAULTED, truncated and disarmed step by step (R118). -/
theorem Channel.faulted_eq (cause : FaultCause) (ch : Channel) : ch.faulted cause =
    ({ ch.cut.1.periodCleared.zeroed with
        state := .faulted cause, contactorClosed := false, missing := 0, rest := none },
      ch.cut.2 ++ if ch.cut.1.contactorClosed then [.disarm] else []) := by
  unfold Channel.faulted Channel.cut Channel.stopped
  cases ch.period <;> rfl

/-- A channel leaves its arming queue, in the middle of an event (R108). -/
def Effects.dequeued (e : Effects) (c : Chan) : Effects :=
  { e with state := { e.state with
    groups := e.state.groups.map fun q => { q with queue := q.queue.filter (· ≠ c) } } }

theorem dequeue_live (e : Effects) (c : Chan) : e.live.dequeue c = (e.dequeued c).live := by
  rw [State.dequeue, mapVec_eq_map]
  rfl

/-- A channel not yet FAULTED enters FAULTED, its CHANNEL_FAULT raised (R118). -/
def State.faultEntered (c : Chan) (cause : FaultCause) (s : State) : Effects :=
  let f := (s.chan c).faulted cause
  ⟨{ s with
      channels := s.channels.set c f.1
      groups := s.groups.map fun q => { q with queue := q.queue.filter (· ≠ c) } },
    ordersTo c f.2, [.channelFault]⟩

theorem toFaulted_live (e : Effects) (c : Chan) (cause : FaultCause) :
    e.live.toFaulted c cause = (e.andThen (State.faulting c cause)).live := by
  unfold State.toFaulted
  rw [show e.live.chan c = e.state.chan c from rfl]
  by_cases h : (e.state.chan c).state.isFaulted = true
  · rw [if_pos h]
    simp [Effects.andThen, State.faulting, State.faultTaken, h, State.quiet, State.set_chan]
  · rw [if_neg h]
    let u := (e.andThen (State.putChannel c (Channel.faulted cause))).dequeued c
    have put (v : Effects) (f : Channel → Channel) :
        (v.dequeued c).andThen (State.putChannel c fun ch => (f ch, [])) =
          (v.andThen (State.putChannel c fun ch => (f ch, []))).dequeued c := rfl
    dsimp only
    rw [truncate_live, faultDisarm_live, dequeue_live, State.updChan_live, put, Effects.putChannel_putChannel,
      Effects.putChannel_putChannel]
    simp only [List.append_nil, ← Channel.faulted_eq]
    change (if (e.state.chan c).state.isArming = true then (u.live.raise .channelFault).arbiterOf c
      else u.live.raise .channelFault) = _
    have entered : ({ u with notices := u.notices ++ [.channelFault] } : Effects) =
        e.andThen (State.faultEntered c cause) :=
      congrArg (fun l => (⟨u.state, u.orders, l ++ [.channelFault]⟩ : Effects)) (List.append_nil e.notices)
    have parts : e.andThen (State.faulting c cause) = (e.andThen (State.faultEntered c cause)).andThen fun t =>
        if (e.state.chan c).state.isArming then t.arbitratedFor c else t.quiet := by
      rw [Effects.andThen, State.faulting, State.faultTaken, if_neg h, Effects.andThen_assoc]
      rfl
    rw [raise_live, entered, parts]
    cases (e.state.chan c).state.isArming with
    | false => simp [Effects.andThen]
    | true => exact arbiterOf_live _ c

/-- A record put is the one that the fault takes. -/
theorem Effects.putting_faulting (e : Effects) (c : Chan) (ch : Channel) (cause : FaultCause) :
    (e.andThen (State.putting c ch)).andThen (State.faulting c cause) =
      e.andThen fun t => t.faultTaken c ch cause := by
  have taken (t : State) :
      State.faulting c cause { t with channels := t.withChan c ch } = t.faultTaken c ch cause := by
    have own : ({ t with channels := t.withChan c ch } : State).chan c = ch := State.chan_set_same t c ch
    rw [State.faulting, own]
    unfold State.faultTaken
    simp [State.withChan]
  have put : e.andThen (State.putting c ch) = { e with state := { e.state with channels := e.state.withChan c ch } } :=
    Effects.andThen_quiet e fun t => { t with channels := t.withChan c ch }
  rw [put, Effects.andThen, taken, Effects.andThen]

/-! ### The end of a report window (R103, R105) -/

/-- What a used report, or an empty close, does for its order, as a part of an event. -/
def State.windowSettled (c : Chan) (interval : Nat) (kind : WindowKind) (report : Option PeriodReport) (s : State) :
    Effects :=
  let valid := report.any (·.zeroValid)
  match kind with
  | .zeroOrder => State.outcomeTaken c interval true valid s
  | .period p note zeroRequest =>
    (s.accounted p note report).andThen
      (if zeroRequest then State.outcomeTaken c interval false valid else State.quiet)

theorem settleWindow_live (e : Effects) (c : Chan) (w : Window) (report : Option PeriodReport) :
    e.live.settleWindow c w report =
      (e.andThen (State.windowSettled c (e.state.prof.zeroInterval * 1000) w.kind report)).live := by
  unfold State.settleWindow
  cases w.kind with
  | zeroOrder => exact zeroOutcome_live e c true _
  | period p note zeroRequest =>
    dsimp only
    rw [account_live]
    cases zeroRequest with
    | false => simp [Effects.andThen, State.windowSettled]
    | true =>
      rw [if_pos rfl, zeroOutcome_live, Effects.andThen_state, State.accounted_prof, Effects.andThen_assoc]
      rfl

theorem LeavesLinks.windowSettled (c : Chan) (interval : Nat) (kind : WindowKind) (report : Option PeriodReport) :
    LeavesLinks (State.windowSettled c interval kind report) := by
  cases kind with
  | zeroOrder => exact LeavesLinks.outcomeTaken c interval true _
  | period p note zeroRequest =>
    refine (LeavesLinks.accounted p note report).andThen ?_
    split
    · exact LeavesLinks.outcomeTaken c interval false _
    · exact LeavesLinks.quiet

section
variable (c : Chan) (interval : Nat) (ch : Channel) (report : Option PeriodReport) (s : State)

/-- A period's window settled: the accounting, then the record of its channel after the zero request's outcome. -/
theorem State.windowSettled_period (p : PeriodRecord) (note : CloseNote) (zeroRequest : Bool) :
    let x := if zeroRequest then ch.outcome interval false (report.any (·.zeroValid)) else (ch, [])
    (State.putting c ch s).andThen (State.windowSettled c interval (.period p note zeroRequest) report) =
      ((s.accounted p note report).ordering c x.2).andThen (State.putting c x.1) := by
  have parts (f : State → Effects) : (State.putting c ch s).andThen (fun t => (t.accounted p note report).andThen f) =
      ((s.accounted p note report).andThen (State.putting c ch)).andThen f := by
    rw [← State.putting_accounted, Effects.andThen_assoc]
  cases zeroRequest with
  | false =>
    refine (parts State.quiet).trans ?_
    simp [Effects.andThen, Effects.ordering_nil]
  | true => exact (parts _).trans (Effects.putting_putChannel _ c ch _)

/-- A Zero Order's window settled: its outcome, then a start occasion. -/
theorem State.windowSettled_zeroOrder :
    let x := ch.outcome interval true (report.any (·.zeroValid))
    let e := State.started [c] { s with channels := s.withChan c x.1 }
    (State.putting c ch s).andThen (State.windowSettled c interval .zeroOrder report) =
      (e.ordering c x.2).andThen (State.putting c (e.state.chan c)) := by
  have settled : State.windowSettled c interval .zeroOrder report =
      State.outcomeTaken c interval true (report.any (·.zeroValid)) := rfl
  rw [settled]
  generalize report.any (·.zeroValid) = valid
  let x := ch.outcome interval true valid
  let e := State.started [c] { s with channels := s.withChan c x.1 }
  have own : (e.ordering c x.2).andThen (State.putting c (e.state.chan c)) = e.ordering c x.2 := by
    simp [Effects.andThen, State.putting, State.withChan, State.quiet, Effects.ordering, State.set_chan]
  have put : (State.putting c ch s).andThen (State.putChannel c (Channel.outcome interval true valid)) =
      (s.quiet.ordering c x.2).andThen (State.putting c x.1) := Effects.putting_putChannel s.quiet c ch _
  have parts : (State.putting c ch s).andThen (State.outcomeTaken c interval true valid) =
      ((s.quiet.ordering c x.2).andThen (State.putting c x.1)).andThen (State.started [c]) := by
    rw [← put, Effects.andThen_assoc]
    rfl
  refine parts.trans (Eq.trans ?_ own.symm)
  have orders : ordersTo c x.2 ++ [] ++ [] = [] ++ ordersTo c x.2 := by simp
  exact congrArg (fun l => (⟨e.state, l, e.notices⟩ : Effects)) orders

end

/-! ### A period report (R101, R103, R104, R117) -/

/-- The module has answered, and the zero value it then gives is kept (R99, R103). -/
def Channel.answered (r : PeriodReport) (ch : Channel) : Channel :=
  { ch with missing := 0, lastZero := if r.zeroValid then some r.zeroValue else ch.lastZero }

theorem State.heard_keepZero (s : State) (c : Chan) (f : Channel → Channel) (r : PeriodReport) :
    ((s.updChan c f).heard c).keepZero c r = (State.putting c (Channel.answered r (f (s.chan c))) s).live := by
  unfold State.keepZero State.heard Channel.answered
  cases r.zeroValid <;> simp [State.updChan, State.putting, State.withChan, State.chan]

/-- The fault that a used report's code brings, as a part of an event. -/
def State.reportEnds (c : Chan) (r : PeriodReport) : State → Effects :=
  if r.faultCode = 0 then State.quiet else State.faulting c (.moduleFault r.faultCode)

theorem reportFault_live (e : Effects) (c : Chan) (r : PeriodReport) :
    e.live.reportFault c r = (e.andThen (State.reportEnds c r)).live := by
  unfold State.reportFault State.reportEnds
  split
  · simp [Effects.andThen]
  · exact toFaulted_live e c _

theorem LeavesLinks.reportEnds (c : Chan) (r : PeriodReport) : LeavesLinks (State.reportEnds c r) := by
  unfold State.reportEnds
  split
  · exact LeavesLinks.quiet
  · exact LeavesLinks.faulting c _

/-- The missing report counted (R105, R118), as a part of an event. -/
def State.missing (c : Chan) (s : State) : Effects :=
  let ch := s.chan c
  if ch.state.isFaulted = false ∧ ch.missing = 2 then State.faulting c .moduleSilent s
  else State.putting c (if ch.state.isFaulted then ch else { ch with missing := ch.missing + 1 }) s

theorem missed_live (e : Effects) (c : Chan) : e.live.missed c = (e.andThen (State.missing c)).live := by
  unfold State.missed
  rw [show e.live.chan c = e.state.chan c from rfl]
  cases faulted : (e.state.chan c).state.isFaulted with
  | true => simp [Effects.andThen, State.missing, faulted, State.putting, State.withChan, State.set_chan, State.quiet]
  | false =>
    by_cases third : (e.state.chan c).missing = 2
    · have parts : e.andThen (State.missing c) = e.andThen (State.faulting c .moduleSilent) := by
        simp [Effects.andThen, State.missing, faulted, third]
      rw [parts, ← toFaulted_live]
      simp [third, Config.silentAt]
    · rw [State.updChan_live]
      have below : ¬ (e.state.chan c).missing + 1 = Config.silentAt := by simpa [Config.silentAt] using third
      rw [if_neg below]
      simp [Effects.andThen, State.missing, faulted, third, State.putting, State.putChannel, State.quiet, ordersTo,
        State.withChan]

theorem LeavesLinks.missing (c : Chan) : LeavesLinks (State.missing c) := by
  intro s
  unfold State.missing
  dsimp only
  split
  · exact LeavesLinks.faulting c _ s
  · exact LeavesLinks.putting c _ s

/-- What follows a settled window, its channel's record being `ch`, as the statements say it. -/
theorem Effects.ended_reportEnds (e : Effects) (c : Chan) (ch : Channel) (r : PeriodReport) :
    ((e.andThen (State.putting c ch)).andThen (State.reportEnds c r)).ended =
      if r.faultCode = 0 then (e.andThen (State.putting c ch)).ended
      else (e.andThen fun t => t.faultTaken c ch (.moduleFault r.faultCode)).ended := by
  unfold State.reportEnds
  split
  · simp [Effects.andThen]
  · rw [Effects.putting_faulting]

theorem Effects.ended_missing (e : Effects) (c : Chan) (ch : Channel) :
    ((e.andThen (State.putting c ch)).andThen (State.missing c)).ended =
      if ch.state.isFaulted = false ∧ ch.missing = 2 then (e.andThen fun t => t.faultTaken c ch .moduleSilent).ended
      else (e.andThen (State.putting c
        (if ch.state.isFaulted then ch else { ch with missing := ch.missing + 1 }))).ended := by
  have own : (e.andThen (State.putting c ch)).state.chan c = ch := State.chan_set_same e.state c ch
  by_cases third : ch.state.isFaulted = false ∧ ch.missing = 2
  · have faults : State.missing c (e.andThen (State.putting c ch)).state =
        State.faulting c .moduleSilent (e.andThen (State.putting c ch)).state := by
      rw [State.missing, own]
      exact if_pos third
    rw [if_pos third, Effects.andThen_congr faults, Effects.putting_faulting]
  · have counts : State.missing c (e.andThen (State.putting c ch)).state =
        State.putting c (if ch.state.isFaulted then ch else { ch with missing := ch.missing + 1 })
          (e.andThen (State.putting c ch)).state := by
      rw [State.missing, own]
      exact if_neg third
    rw [if_neg third, Effects.andThen_congr counts]
    simp [Effects.andThen, State.putting, State.quiet, State.withChan]

/-- A channel's record put, a window settled, and a last part. -/
def State.windowEvent (c : Chan) (ch : Channel) (kind : WindowKind) (report : Option PeriodReport)
    (f : State → Effects) (s : State) : Effects :=
  ((State.putting c ch s).andThen (State.windowSettled c (s.prof.zeroInterval * 1000) kind report)).andThen f

theorem done_windowEvent {s t : State} (h : s.settled = true) {c : Chan} {ch : Channel} {kind : WindowKind}
    {report : Option PeriodReport} {f : State → Effects} (leaves : LeavesLinks f)
    (ht : t = (s.windowEvent c ch kind report f).live) : done t = .next (s.windowEvent c ch kind report f).ended :=
  done_live ((((LeavesLinks.putting c ch).andThen (.windowSettled c _ kind report)).andThen leaves).settled h) ht

/-- A report used in its window (R103), as one event. -/
theorem exec_windowReport {s : State} (h : s.settled = true) {c : Chan} {r : PeriodReport} {w : Window}
    (present : (s.chan c).state ≠ .faulted .moduleAbsent) (hw : (s.chan c).windowOf r.tag = some w) :
    exec (.periodReport c r) s = .next
      (s.windowEvent c (Channel.answered r { s.chan c with windows := (s.chan c).windows.erase w }) w.kind (some r)
        (State.reportEnds c r)).ended := by
  have takes : s.takeReport c r = s.useReport c w r := by simp [State.takeReport, present, hw]
  refine done_windowEvent (t := s.takeReport c r) h (.reportEnds c r) ?_
  rw [takes, State.useReport, State.closeWindow, State.heard_keepZero, settleWindow_live, reportFault_live]
  rfl

/-- The module's own early stop (R117), as one event that settles a window which never opened. -/
theorem exec_earlyStop {s : State} (h : s.settled = true) {c : Chan} {r : PeriodReport} {p : InFlight}
    (present : (s.chan c).state ≠ .faulted .moduleAbsent) (hw : (s.chan c).windowOf r.tag = none)
    (hp : (s.chan c).period = .delivering p) (tag : p.tag = r.tag) (code : r.faultCode ≠ 0) :
    exec (.periodReport c r) s = .next
      (s.windowEvent c (Channel.answered r { s.chan c with period := .idle, forward := 0, reverse := 0 })
        (.period p.record (closeNote p true (s.chan c).stale) p.zeroRequest) (some r)
        (State.reportEnds c r)).ended := by
  let w : Window := ⟨p.tag, 0, .period p.record (closeNote p true (s.chan c).stale) p.zeroRequest⟩
  have takes : s.takeReport c r = s.earlyStop c p r := by simp [State.takeReport, present, hw, hp, tag, code]
  have stops : s.earlyStop c p r =
      (((((s.updChan c fun ch => { ch.zeroed with period := .idle }).heard c).keepZero c r).settleWindow c w
        (some r)).reportFault c r) := rfl
  refine done_windowEvent (t := s.takeReport c r) h (.reportEnds c r) ?_
  rw [takes, stops, State.heard_keepZero, settleWindow_live, reportFault_live]
  rfl

/-- The oldest window closes empty (R105), as one event. -/
theorem exec_windowClose {s : State} (h : s.settled = true) {c : Chan} {w : Window} {rest : List Window}
    (hw : (s.chan c).windows = w :: rest) :
    exec (.reportWindowClose c) s = .next
      (s.windowEvent c { s.chan c with windows := rest } w.kind none (State.missing c)).ended := by
  have closes : s.closeWindow c w = (State.putting c { s.chan c with windows := rest } s).live := by
    simp [State.closeWindow, State.updChan_withChan, hw, State.putting]
  have takes : s.windowCloses c = ((s.closeWindow c w).settleWindow c w none).missed c := by
    simp [State.windowCloses, hw]
  refine done_windowEvent (t := s.windowCloses c) h (.missing c) ?_
  rw [takes, closes, settleWindow_live, missed_live]
  rfl

/-- A late or unmatched report, or one without a fault code for the period in flight, shows that the module answers
(R104). -/
theorem State.takeReport_discarded {s : State} {c : Chan} {r : PeriodReport}
    (present : (s.chan c).state ≠ .faulted .moduleAbsent) (hw : (s.chan c).windowOf r.tag = none)
    (sound : ∀ p, (s.chan c).period = .delivering p → p.tag = r.tag → r.faultCode = 0) :
    s.takeReport c r = s.heard c := by
  unfold State.takeReport
  rw [if_neg present, hw]
  cases hp : (s.chan c).period with
  | idle => rfl
  | align g => rfl
  | delivering p =>
    refine if_neg ?_
    rintro ⟨tag, code⟩
    exact code (sound p hp tag)

/-- Settles O20: the report is discarded, or settles a window of a period or of a Zero Order, or is an early stop. -/
theorem reportAccountsPeriod : Obligations.ReportAccountsPeriod := by
  unfold Obligations.ReportAccountsPeriod
  intro s c r h ch heard interval ends ordering
  have period (p : PeriodRecord) (note : CloseNote) (z : Bool) (ch' : Channel) :
      (s.windowEvent c ch' (.period p note z) (some r) (State.reportEnds c r)).ended =
        let x := if z then ch'.outcome interval false r.zeroValid else (ch', [])
        ends (ordering (s.accounted p note (some r)) x.2) x.1 := by
    rw [State.windowEvent, State.windowSettled_period, Effects.ended_reportEnds]
    rfl
  have zeroOrder (ch' : Channel) :
      (s.windowEvent c ch' .zeroOrder (some r) (State.reportEnds c r)).ended =
        let x := ch'.outcome interval true r.zeroValid
        let e := State.started [c] { s with channels := s.withChan c x.1 }
        ends (ordering e x.2) (e.state.chan c) := by
    rw [State.windowEvent, State.windowSettled_zeroOrder, Effects.ended_reportEnds]
    rfl
  refine ⟨fun absent => ?_, fun present => ⟨fun hw none => ?_, fun w p note hw hk => ?_, fun w p note hw hk => ?_,
    fun w hw hk => ?_, fun p hw hp tag code => ?_⟩⟩
  · have unheard : s.takeReport c r = s := if_pos absent
    change done (s.takeReport c r) = _
    rw [unheard]
    exact done_of_links h rfl rfl
  · change done (s.takeReport c r) = _
    rw [State.takeReport_discarded present hw none]
    exact done_of_links h rfl rfl
  · rw [exec_windowReport h present hw, hk, period]
    exact congrArg (fun e => Host.Outcome.next (ends e _)) (Effects.ordering_nil _ c)
  · rw [exec_windowReport h present hw, hk, period]
    rfl
  · rw [exec_windowReport h present hw, hk, zeroOrder]
    rfl
  · rw [exec_earlyStop h present hw hp tag code, period]
    rfl

/-- Settles O21: the settled window, then the missing report counted. -/
theorem windowClosesEmpty : Obligations.WindowClosesEmpty := by
  unfold Obligations.WindowClosesEmpty
  intro s c h
  refine ⟨fun none => ?_, fun w rest hw => ?_⟩
  · have still : s.windowCloses c = s := by simp [State.windowCloses, none]
    change done (s.windowCloses c) = _
    rw [still]
    exact done_of_links h rfl rfl
  · refine ⟨fun p note z hk => ?_, fun hk => ?_⟩
    · rw [exec_windowClose h hw, hk, State.windowEvent, State.windowSettled_period, Effects.ended_missing]
      rfl
    · rw [exec_windowClose h hw, hk, State.windowEvent, State.windowSettled_zeroOrder, Effects.ended_missing]
      rfl

end Sys2Proof.Machine
end

section
/-! PROOFS. The requests to the recipe records and to the ramp tables; O37. -/

namespace Sys2Proof.Machine

/-! ### The checks, spelled out -/

theorem strictlyRising_iff : ∀ {l : List Nat}, strictlyRising l = true ↔ l.Pairwise (· < ·)
  | [] => by simp [strictlyRising]
  | [a] => by simp [strictlyRising]
  | a :: b :: rest => by
    rw [← List.isChain_iff_pairwise, List.isChain_cons_cons, List.isChain_iff_pairwise,
      ← strictlyRising_iff (l := b :: rest), strictlyRising, Bool.and_eq_true, decide_eq_true_eq]

/-- The ranges of a recipe record's fields (R42). -/
theorem Recipe.inRange_iff {r : Recipe} : r.inRange = true ↔
    (1 ≤ r.timing.fwd ∧ r.timing.fwd ≤ 500) ∧ r.timing.rest1 ≤ 20 ∧ r.timing.rev ≤ 50 ∧
    r.timing.rest2 ≤ 20 ∧ r.rampTable ≤ 3 ∧ r.holdFraction ≤ 100 ∧
    (∀ x, r.target = some x → 1 ≤ x ∧ x ≤ 100000) ∧ (1 ≤ r.tolerance ∧ r.tolerance ≤ 50) ∧
    (1 ≤ r.stages.length ∧ r.stages.length ≤ 4) ∧
    ∀ st ∈ r.stages, st.start ≤ 16000 ∧ st.forwardDensity ≤ 1500 ∧ st.reverseDensity ≤ 6000 := by
  simp only [Recipe.inRange, Bool.and_eq_true, within_iff, Option.all_eq_true, List.all_eq_true, Nat.zero_le,
    true_and, and_assoc]

/-- What a valid recipe is (R46). A record in range has a stage, so the check on the first stage has one to read. -/
theorem Recipe.valid_iff {r : Recipe} : r.valid = true ↔
    r.inRange = true ∧ (∀ st, r.stages.head? = some st → st.start = 0) ∧
    (r.stages.map (·.start)).Pairwise (· < ·) ∧
    ∀ st ∈ r.stages, (r.timing.rev = 0 → st.reverseDensity = 0) ∧
      (st.reverseDensity ≠ 0 → st.reverseDensity * r.timing.rev < st.forwardDensity * r.timing.fwd) := by
  have first (range : r.inRange = true) : (r.stages.head?.any fun st => st.start = 0) = true ↔
      ∀ st, r.stages.head? = some st → st.start = 0 := by
    obtain ⟨-, -, -, -, -, -, -, -, ⟨one, -⟩, -⟩ := Recipe.inRange_iff.1 range
    obtain ⟨st, rest, hl⟩ := List.exists_cons_of_length_pos one
    simp [hl]
  have reverse : (decide (r.timing.rev ≠ 0) || r.stages.all fun st => st.reverseDensity = 0) = true ↔
      ∀ st ∈ r.stages, r.timing.rev = 0 → st.reverseDensity = 0 := by
    simp only [Bool.or_eq_true, decide_eq_true_eq, List.all_eq_true, ← imp_iff_not_or, ne_eq]
    exact ⟨fun h st hs hz => h hz st hs, fun h hz st hs => h st hs hz⟩
  have balance : (r.stages.all fun st => decide (st.reverseDensity = 0) ||
        decide (st.reverseDensity * r.timing.rev < st.forwardDensity * r.timing.fwd)) = true ↔
      ∀ st ∈ r.stages, st.reverseDensity ≠ 0 →
        st.reverseDensity * r.timing.rev < st.forwardDensity * r.timing.fwd := by
    simp only [List.all_eq_true, Bool.or_eq_true, decide_eq_true_eq, or_iff_not_imp_left, ne_eq]
  simp only [Recipe.valid, Bool.and_eq_true, and_assoc, strictlyRising_iff, reverse, balance, ← forall₂_and]
  exact and_congr_right fun range => and_congr_left' (first range)

/-- What a ramp table must be (R53, R54). -/
theorem rampValid_iff {steps : List Nat} : rampValid steps = true ↔
    1 ≤ steps.length ∧ steps.length ≤ 16 ∧ (∀ x ∈ steps, 1 ≤ x ∧ x ≤ 100) ∧
    steps.Pairwise (· < ·) ∧ steps.getLast? = some 100 := by
  simp only [rampValid, Bool.and_eq_true, within_iff, List.all_eq_true, strictlyRising_iff, decide_eq_true_eq,
    and_assoc]

/-! ### The owner's answers (R47, R50, R54) -/

theorem State.putRecipe_eq (s : State) (k : Fin 16) (r : Option Recipe) :
    s.putRecipe k r = { s with recipes := s.recipes.set k r } := dif_pos k.2

theorem serveSetRecipe_bad {s : State} {n : Nat} {r : Recipe} (h : 15 < n ∨ ¬ r.valid = true) :
    serveSetRecipe n r s = refuse s .badValue := if_pos (by simpa using h)

theorem serveSetRecipe_used {s : State} {n : Nat} {r : Recipe} (hn : n ≤ 15) (hv : r.valid = true)
    (hu : s.inUse n = true) : serveSetRecipe n r s = refuse s .inUse :=
  (if_neg (by simp [hv, hn])).trans (if_pos hu)

theorem serveSetRecipe_free {s : State} {k : Fin 16} {r : Recipe} (hv : r.valid = true) (hu : ¬ s.inUse k = true) :
    serveSetRecipe k r s = taken { s with recipes := s.recipes.set k (some r) } := by
  have checked : ¬ (15 < k.val || !r.valid) = true := by simp [hv]; omega
  rw [serveSetRecipe, if_neg checked, if_neg hu, State.putRecipe_eq]

theorem serveClearRecipe_bad {s : State} {n : Nat} (h : 15 < n) :
    serveClearRecipe n s = refuse s .badValue := if_pos h

theorem serveClearRecipe_undefined {s : State} {n : Nat} (hn : n ≤ 15) (h : s.recipe n = none) :
    serveClearRecipe n s = refuse s .notFound :=
  (if_neg (by omega)).trans (if_pos (by simp [h]))

theorem serveClearRecipe_used {s : State} {n : Nat} (hn : n ≤ 15) (hr : (s.recipe n).isSome = true)
    (hu : s.inUse n = true) : serveClearRecipe n s = refuse s .inUse := by
  have defined : ¬ (s.recipe n).isNone = true := by simp [← Option.isSome_iff_ne_none, hr]
  rw [serveClearRecipe, if_neg (by omega), if_neg defined, if_pos hu]

theorem serveClearRecipe_free {s : State} {k : Fin 16} (hr : (s.recipe k).isSome = true)
    (hu : ¬ s.inUse k = true) : serveClearRecipe k s = taken { s with recipes := s.recipes.set k none } := by
  have defined : ¬ (s.recipe k).isNone = true := by simp [← Option.isSome_iff_ne_none, hr]
  rw [serveClearRecipe, if_neg (by omega), if_neg defined, if_neg hu, State.putRecipe_eq]

theorem serveSetRamp_bad {s : State} {table : Nat} {steps : List Nat} (hm : s.mode = .offline)
    (h : 3 < table ∨ ¬ rampValid steps = true) : serveSetRamp table steps s = refuse s .badValue := by
  unfold serveSetRamp
  rw [if_neg (not_not.2 hm)]
  split
  · exact if_neg (h.resolve_left (by omega))
  · rfl

theorem serveSetRamp_good {s : State} {steps : List Nat} (hm : s.mode = .offline) (hv : rampValid steps = true)
    (k : Fin 4) : serveSetRamp k steps s = taken { s with ramps := s.ramps.set k steps } := by
  unfold serveSetRamp
  rw [if_neg (not_not.2 hm), dif_pos k.2, if_pos hv]

/-! ### The requests -/

/-- Settles O37, request by request and check by check. -/
theorem recipeRequests : Obligations.RecipeRequests := by
  unfold Obligations.RecipeRequests
  intro s h used
  have inUse {n : Nat} : s.hunting.inUse n = true ↔ used n := State.inUse_iff (s := s)
  refine ⟨?_, ?_, ?_⟩
  · intro n rec replied ranges valid
    have checks : rec.valid = true ↔ valid := Recipe.valid_iff.trans (and_congr_left' Recipe.inRange_iff)
    refine ⟨fun bad => ?_, fun hn hv hu => ?_, fun k hk hv hu => ?_⟩
    · exact done_refused h (serveSetRecipe_bad (bad.imp_right (mt checks.1))) (.inl (by simp))
    · exact done_refused h (serveSetRecipe_used hn (checks.2 hv) (inUse.2 hu)) (.inl (by simp))
    · subst hk
      exact done_taken (r := .setRecipe k rec) h (serveSetRecipe_free (checks.2 hv) (mt inUse.1 hu)) (by simp) rfl rfl
  · intro n replied
    refine ⟨fun hn => ?_, fun hn hr => ?_, fun hn hr hu => ?_, fun k hk hr hu => ?_⟩
    · exact done_refused h (serveClearRecipe_bad hn) (.inl (by simp))
    · exact done_refused h (serveClearRecipe_undefined hn hr) (.inl (by simp))
    · exact done_refused h (serveClearRecipe_used (s := s.hunting) hn hr (inUse.2 hu)) (.inl (by simp))
    · subst hk
      exact done_taken (r := .clearRecipe k) h (serveClearRecipe_free (s := s.hunting) hr (mt inUse.1 hu)) (by simp)
        rfl rfl
  · intro table steps replied good
    refine ⟨fun hm => ?_, fun hm bad => ?_, fun hm hg k hk => ?_⟩
    · exact done_refused h (if_pos hm) (.inl (by simp))
    · exact done_refused h (serveSetRamp_bad (s := s.hunting) hm (bad.imp_right (mt rampValid_iff.1))) (.inl (by simp))
    · subst hk
      exact done_taken (r := .setRamp k steps) h (serveSetRamp_good (s := s.hunting) hm (rampValid_iff.2 hg) k)
        (by simp) rfl rfl

end Sys2Proof.Machine
end

section
/-! PROOFS. Phase clocks and channel intervals (R43, R58, R59, R64); O15. -/

namespace Sys2Proof.Machine

/-! ### The next interval (R43) -/

/-- The next interval read from the lengths of those that follow. -/
theorem Timing.next?_eq (t : Timing) (i : Interval) :
    t.next? i = ((i.following.map fun j => (t.length j, j)).find? fun x => decide (x.1 ≠ 0)).map (·.2) := by
  rw [List.find?_map, Option.map_map]
  exact Option.map_id'.symm

/-! ### Phase clocks (R58, R59) -/

theorem State.runningClock_eq {s : State} {r : TrackRecord} {k : PhaseClock} {rec : Recipe} (hd : r.departing = false)
    (hk : r.clock = some k) (hr : s.recipeOf r = some rec) : s.runningClock r = some (k, rec.timing) := by
  simp [State.runningClock, hd, hk, hr]

/-- A boundary that no channel awaits moves the clock alone (R59). -/
theorem State.passBoundary_unawaited {s : State} {entry : Nat} (h : ∀ c, (s.chan c).period ≠ .align entry)
    (k : PhaseClock) (t : Timing) : s.passBoundary entry k t =
      s.updRecord entry fun r => { r with clock := some ⟨.fwd, t.fwd, periodsAfter k.periods⟩ } :=
  State.forChans_eq_self _ fun c => if_neg (h c)

section
variable {s : State} {entry : Nat} {k : PhaseClock} {t : Timing}

theorem State.phaseIntervalEnds_passes (h : (s.find entry).bind s.runningClock = some (k, t)) {i : Interval}
    (hi : t.next? k.interval = some i) : s.phaseIntervalEnds entry =
      s.updRecord entry fun r => { r with clock := some ⟨i, t.length i, k.periods⟩ } := by
  simp only [State.phaseIntervalEnds, h, hi]

theorem State.phaseIntervalEnds_last (h : (s.find entry).bind s.runningClock = some (k, t))
    (hi : t.next? k.interval = none) : s.phaseIntervalEnds entry = s.passBoundary entry k t := by
  simp only [State.phaseIntervalEnds, h, hi]

theorem State.phaseBoundaryComes_eq (h : (s.find entry).bind s.runningClock = some (k, t)) :
    s.phaseBoundaryComes entry = if t.next? k.interval = none then s.passBoundary entry k t else s := by
  simp only [State.phaseBoundaryComes, h]

end

/-! ### Channel intervals (R64, R65) -/

section
variable {s : State} {c : Chan} {p : InFlight}

theorem State.channelIntervalEnds_passes (hp : (s.chan c).period = .delivering p) {i : Interval}
    (hi : (s.chan c).timing.next? p.interval = some i) : s.channelIntervalEnds c =
      s.updChan c fun ch =>
        { ch with period := .delivering { p with interval := i, remaining := ch.timing.length i } } := by
  simp only [State.channelIntervalEnds, hp, hi]

theorem State.channelIntervalEnds_last (hp : (s.chan c).period = .delivering p)
    (hi : (s.chan c).timing.next? p.interval = none) : s.channelIntervalEnds c = s.endPeriod c p := by
  simp only [State.channelIntervalEnds, hp, hi]

theorem State.periodEnds_eq (hp : (s.chan c).period = .delivering p) : s.periodEnds c =
    if (s.chan c).timing.next? p.interval = none then s.endPeriod c p else s := by
  simp only [State.periodEnds, hp]

end

/-! ### The events -/

/-- Settles O15: the order of the intervals, the phase clocks, the channel intervals. -/
theorem clocksRun : Obligations.ClocksRun := by
  unfold Obligations.ClocksRun
  refine ⟨?_, ?_, ?_⟩
  · intro t first
    exact ⟨t.next?_eq .fwd, t.next?_eq .rest1, t.next?_eq .rev, t.next?_eq .rest2, rfl, rfl, rfl, rfl⟩
  · intro s r k rec h found here clock recipe put
    have runs : (s.find r.entry).bind s.runningClock = some (k, rec.timing) := by
      rw [found, Option.bind_some, State.runningClock_eq here clock recipe]
    refine ⟨fun i next => ⟨?_, ?_⟩, fun last unawaited => ⟨?_, ?_⟩⟩
    · change done (s.phaseIntervalEnds r.entry) = _
      rw [State.phaseIntervalEnds_passes runs next]
      exact done_of_links h rfl rfl
    · change done (s.phaseBoundaryComes r.entry) = _
      rw [State.phaseBoundaryComes_eq runs, if_neg (by simp [next])]
      exact done_of_links h rfl rfl
    · change done (s.phaseBoundaryComes r.entry) = _
      rw [State.phaseBoundaryComes_eq runs, if_pos last, State.passBoundary_unawaited unawaited]
      exact done_of_links h rfl rfl
    · change done (s.phaseIntervalEnds r.entry) = _
      rw [State.phaseIntervalEnds_last runs last, State.passBoundary_unawaited unawaited]
      exact done_of_links h rfl rfl
  · intro s c p h delivers
    refine ⟨fun i next => ⟨?_, ?_⟩, fun last => ?_⟩
    · change done (s.channelIntervalEnds c) = _
      rw [State.channelIntervalEnds_passes delivers next]
      exact done_of_links h rfl rfl
    · change done (s.periodEnds c) = _
      rw [State.periodEnds_eq delivers, if_neg (by simp [next])]
      exact done_of_links h rfl rfl
    · change done (s.channelIntervalEnds c) = done (s.periodEnds c)
      rw [State.channelIntervalEnds_last delivers last, State.periodEnds_eq delivers, if_pos last]

end Sys2Proof.Machine
end

section
/-! PROOFS. What the channels' invariant asks, channel by channel, and the operations on one channel that keep it; O59. -/

namespace Sys2Proof.Machine

/-! ### The invariant, channel by channel -/

/-- The channels with `p` fit their states and the arming queues, and the queues fit the mode (R61, R98, R108, R153). -/
structure ChannelsFit (p : Chan → Prop) (s : State) : Prop where
  ok : ∀ c, p c → (s.chan c).ok = true
  dormant : ∀ c ∈ s.allQueued, p c → (s.chan c).state = .dormant
  out : s.mode.active = false → ∀ c, p c → (s.chan c).state.isOut = true
  nodup : s.allQueued.Nodup
  empty : s.mode.active = false → s.allQueued = []
  boot : s.bootTimer = none ∨ s.mode = .boot

/-- Every channel fits. -/
def State.Fit : State → Prop := ChannelsFit fun _ => True

/-- Every channel but `c` fits. -/
def State.FitBut (c : Chan) : State → Prop := ChannelsFit (· ≠ c)

theorem State.all_channels {s : State} {p : Channel → Bool} :
    s.channels.toList.all p = true ↔ ∀ c, p (s.chan c) = true := by
  simp only [Vector.all_toList, Vector.all_eq_true]
  exact ⟨fun h c => h c c.isLt, fun h i hi => h ⟨i, hi⟩⟩

theorem State.channelInv_iff {s : State} : s.channelInv = true ↔ s.Fit := by
  unfold State.channelInv
  simp only [State.all_channels, Bool.and_eq_true, Bool.or_eq_true, decide_eq_true_eq]
  simp only [List.all_eq_true, decide_eq_true_eq, List.isEmpty_iff, Option.isNone_iff_eq_none]
  constructor
  · rintro ⟨⟨⟨⟨ok, nodup⟩, dormant⟩, modes⟩, boot⟩
    have still : s.mode.active = false → _ := fun ha => modes.resolve_left (by simp [ha])
    exact ⟨fun c _ => ok c, fun c hc _ => dormant c hc, fun ha c _ => (still ha).1 c, nodup, fun ha => (still ha).2, boot⟩
  · rintro ⟨ok, dormant, out, nodup, empty, boot⟩
    refine ⟨⟨⟨⟨fun c => ok c trivial, nodup⟩, fun c hc => dormant c hc trivial⟩, ?_⟩, boot⟩
    cases ha : s.mode.active with
    | true => exact .inl rfl
    | false => exact .inr ⟨fun c => out ha c trivial, empty ha⟩

/-- What the invariant reads of a state. -/
def State.channelParts (s : State) := (s.channels, s.groups, s.mode, s.bootTimer)

theorem ChannelsFit.of_parts {p : Chan → Prop} {s t : State} (h : ChannelsFit p s)
    (e : t.channelParts = s.channelParts) : ChannelsFit p t := by
  simp only [State.channelParts, Prod.mk.injEq] at e
  obtain ⟨channels, groups, mode, boot⟩ := e
  have chan (c : Chan) : t.chan c = s.chan c := by rw [State.chan_def, channels, State.chan_def]
  have queued : t.allQueued = s.allQueued := by rw [State.allQueued, groups, State.allQueued]
  constructor
  · simpa only [chan] using h.ok
  · simpa only [chan, queued] using h.dormant
  · simpa only [chan, mode] using h.out
  · simpa only [queued] using h.nodup
  · simpa only [queued, mode] using h.empty
  · simpa only [mode, boot] using h.boot

theorem State.Fit.of_parts {s t : State} (h : s.Fit) (e : t.channelParts = s.channelParts) : t.Fit :=
  ChannelsFit.of_parts h e

theorem State.Fit.but {s : State} (h : s.Fit) (c : Chan) : s.FitBut c :=
  { h with
    ok := fun d _ => h.ok d trivial
    dormant := fun d hd _ => h.dormant d hd trivial
    out := fun ha d _ => h.out ha d trivial }

/-- With one channel left out, that channel may change. -/
theorem State.FitBut.updChan {s : State} {c : Chan} (h : s.FitBut c) (f : Channel → Channel) :
    (s.updChan c f).FitBut c where
  ok d hd := by rw [State.updChan_chan_other s f hd]; exact h.ok d hd
  dormant d hq hd := by rw [State.updChan_chan_other s f hd]; exact h.dormant d hq hd
  out ha d hd := by rw [State.updChan_chan_other s f hd]; exact h.out ha d hd
  nodup := h.nodup
  empty := h.empty
  boot := h.boot

/-- A channel with a record that fits completes the others. -/
theorem State.FitBut.put {s : State} {c : Chan} (h : s.FitBut c) {f : Channel → Channel}
    (ok : (f (s.chan c)).ok = true) (dormant : c ∈ s.allQueued → (f (s.chan c)).state = .dormant)
    (out : s.mode.active = false → (f (s.chan c)).state.isOut = true) : (s.updChan c f).Fit := by
  have g := h.updChan f
  have own : (s.updChan c f).chan c = f (s.chan c) := s.updChan_chan_same c f
  exact
    { g with
      ok := fun d _ => if e : d = c then by rw [e, own]; exact ok else g.ok d e
      dormant := fun d hd _ => if e : d = c then by rw [e, own]; exact dormant (e ▸ hd) else g.dormant d hd e
      out := fun ha d _ => if e : d = c then by rw [e, own]; exact out ha else g.out ha d e }

/-- A change of a channel that the invariant does not read. -/
theorem State.Fit.alter {s : State} (h : s.Fit) (c : Chan) {f : Channel → Channel}
    (ok : (f (s.chan c)).ok = (s.chan c).ok) (state : (f (s.chan c)).state = (s.chan c).state) :
    (s.updChan c f).Fit :=
  (h.but c).put (ok.trans (h.ok c trivial)) (fun hc => state.trans (h.dormant c hc trivial))
    (fun ha => by rw [state]; exact h.out ha c trivial)

theorem State.Fit.forChans {f : Chan → State → State} {s : State} (h : s.Fit)
    (hf : ∀ c s, s.Fit → (f c s).Fit) : (s.forChans f).Fit :=
  State.forChans_keeps (P := State.Fit) hf s h

theorem State.Fit.foldl {f : State → α → State} (hf : ∀ s a, s.Fit → (f s a).Fit) : ∀ (l : List α) {s : State},
    s.Fit → (l.foldl f s).Fit
  | [], _, h => h
  | a :: l, s, h => foldl hf l (hf s a h)

/-! ### A channel at work -/

/-- A channel at work: closed to its module, in no arming queue, the line tracking; its own record may be in the middle of
a change. -/
structure Engaged (c : Chan) (s : State) : Prop where
  others : s.FitBut c
  unqueued : c ∉ s.allQueued
  active : s.mode.active = true
  closed : (s.chan c).contactorClosed = true

namespace Engaged

variable {s : State} {c : Chan}

/-- A channel neither DORMANT nor FAULTED is at work (R98, R108, R153). -/
theorem of_fit (h : s.Fit) (hc : (s.chan c).state.isOut = false) : Engaged c s where
  others := h.but c
  unqueued hq := by simp [h.dormant c hq trivial, ChannelState.isOut] at hc
  active := by
    by_contra ha
    simp [h.out (by simpa using ha) c trivial] at hc
  closed := by
    have ok := h.ok c trivial
    simp only [Channel.ok, hc, Bool.and_eq_true, decide_eq_true_eq] at ok
    simpa using ok.1.1

theorem of_parts {t : State} (h : Engaged c s) (e : t.channelParts = s.channelParts) : Engaged c t := by
  have others := ChannelsFit.of_parts h.others e
  simp only [State.channelParts, Prod.mk.injEq] at e
  obtain ⟨channels, groups, mode, -⟩ := e
  refine ⟨others, ?_, mode ▸ h.active, ?_⟩
  · rw [State.allQueued, groups]; exact h.unqueued
  · rw [State.chan_def, channels]; exact h.closed

theorem updChan (h : Engaged c s) {f : Channel → Channel}
    (hf : (f (s.chan c)).contactorClosed = (s.chan c).contactorClosed) : Engaged c (s.updChan c f) :=
  ⟨h.others.updChan f, h.unqueued, h.active, by rw [State.updChan_chan_same, hf, h.closed]⟩

/-- A channel at work whose record fits. -/
theorem put (h : Engaged c s) {f : Channel → Channel} (ok : (f (s.chan c)).ok = true) : (s.updChan c f).Fit :=
  h.others.put ok (fun hq => absurd hq h.unqueued) (fun ha => absurd ha (by simp [h.active]))

theorem order (h : Engaged c s) (d : Chan) (b : OrderBody) : Engaged c (s.order d b) := h.of_parts rfl

end Engaged

/-! ### The arming queues -/

/-- One group's queue for another: the channels queued are the same but for those of that queue. -/
theorem State.allQueued_set (s : State) (g : BusGroup) (q : Group) :
    (({ s with groups := s.groups.set g q } : State).allQueued ++ (s.group g).queue).Perm
      (s.allQueued ++ q.queue) := by
  rw [List.perm_iff_count]
  intro a
  unfold State.allQueued State.group
  rw [vector_toList_four, vector_toList_four]
  fin_cases g <;> simp <;> omega

/-- A channel that is in no queue joins one. -/
theorem State.allQueued_join {s : State} {g : BusGroup} {c : Chan} {q : Group}
    (hq : q.queue = (s.group g).queue ++ [c]) :
    (({ s with groups := s.groups.set g q } : State).allQueued).Perm (c :: s.allQueued) := by
  have swap := s.allQueued_set g q
  rw [List.perm_iff_count] at swap ⊢
  intro a
  have := swap a
  simp only [hq, List.count_append, List.count_cons, List.count_nil] at this ⊢
  omega

/-- A channel leaves the one queue it is in. -/
theorem State.allQueued_leave {s : State} (h : s.allQueued.Nodup) {g : BusGroup} {c : Chan}
    (hc : c ∈ (s.group g).queue) {q : Group} (hq : q.queue = (s.group g).queue.filter (· ≠ c)) :
    s.allQueued.Perm (c :: ({ s with groups := s.groups.set g q } : State).allQueued) := by
  have nodup : (s.group g).queue.Nodup :=
    (List.nodup_flatMap.1 h).1 _ (by simp [State.group])
  have parts : (s.group g).queue.Perm (c :: q.queue) := by
    rw [hq, List.filter_congr (q := (· != c)) fun d _ => by rw [Bool.eq_iff_iff]; simp, ← nodup.erase_eq_filter]
    exact List.perm_cons_erase hc
  have swap := s.allQueued_set g q
  rw [List.perm_iff_count] at swap parts ⊢
  intro a
  have s1 := swap a
  have s2 := parts a
  simp only [List.count_append, List.count_cons] at s1 s2 ⊢
  omega

theorem State.dequeue_allQueued (s : State) (c : Chan) :
    (s.dequeue c).allQueued = s.allQueued.filter (· ≠ c) := by
  unfold State.dequeue State.allQueued
  rw [List.filter_flatMap]
  simp [mapVec, List.flatMap_map]

end Sys2Proof.Machine
end

section
/-! PROOFS. The operations on channels keep them fitting (R98, R61, R108): one lemma for each; O59. -/

namespace Sys2Proof.Machine

/-- The Allocation Engine's setpoints are zero but in a NORMAL period (R93, R94). -/
theorem State.allocate_setpoints (s : State) (c : Chan) (g : Nat) (t : Timing) (k : PeriodKind) :
    let p := s.allocate c g t k
    p.kind = .normal ∨ p.forward = 0 ∧ p.reverse = 0 := by
  cases k with
  | normal => exact .inl rfl
  | zero => exact .inr ⟨rfl, rfl⟩

section
variable {s : State} {c : Chan}

/-! ### Runs, ALIGN and READY -/

theorem State.sample_parts (s : State) (c : Chan) (x : Sample) : (s.sample c x).channelParts = s.channelParts := by
  unfold State.sample
  split
  · rfl
  · dsimp only; split <;> rfl

theorem Engaged.toAlign (h : Engaged c s) (running : (s.chan c).state = .running) (g : Nat) : (s.toAlign c g).Fit :=
  State.Fit.of_parts (h.put (by simp [Channel.ok, Channel.zeroed, running, h.closed, ChannelState.isOut]))
    (State.sample_parts ..)

theorem State.Fit.startOccasion (h : s.Fit) (c : Chan) : (s.startOccasion c).Fit := by
  unfold State.startOccasion
  split
  · rename_i hm
    have ready : (s.chan c).state = .ready := by
      simp only [State.mayStart, Bool.and_eq_true, decide_eq_true_eq] at hm
      exact hm.1.1.1
    have engaged := Engaged.of_fit h (c := c) (by rw [ready]; rfl)
    split
    · exact (engaged.updChan rfl).toAlign (by rw [State.updChan_chan_same]) _
    · exact h
  · exact h

theorem State.Fit.startOccasions (h : s.Fit) : s.startOccasions.Fit := h.forChans fun c _ hs => hs.startOccasion c

theorem State.Fit.loneZeroIfDue (h : s.Fit) (c : Chan) : (s.loneZeroIfDue c).Fit := by
  unfold State.loneZeroIfDue
  dsimp only
  split
  · have ordered : (s.order c (.zero (s.chan c).tag)).Fit := h.of_parts rfl
    exact ordered.alter c rfl rfl
  · exact h

theorem Engaged.toReady (h : Engaged c s) : (s.toReady c).Fit := by
  have ready : (s.updChan c fun ch => { ch.zeroed with state := .ready, period := .idle }).Fit :=
    h.put (by simp [Channel.ok, Channel.zeroed, h.closed, ChannelState.isOut])
  exact (ready.loneZeroIfDue c).startOccasion c

/-! ### Periods -/

theorem Engaged.startPeriod (h : Engaged c s)
    (state : (s.chan c).state = .running ∨ ∃ d, (s.chan c).state = .draining d) (g : Nat) :
    (s.startPeriod c g).Fit := by
  unfold State.startPeriod
  split
  · exact h.toReady
  · rename_i rec _
    dsimp only
    generalize hp : s.allocate c g rec.timing _ = p
    have timing : p.timing = rec.timing := by rw [← hp]; rfl
    have setpoints := hp ▸ s.allocate_setpoints c g rec.timing _
    have raised : Engaged c (s.raiseCounts p.contributors) := h.of_parts rfl
    refine (raised.order c _).put ?_
    have own : ((s.raiseCounts p.contributors).order c
        (.period (s.chan c).tag p.forward p.reverse rec.timing (decide ((s.chan c).zero = .due)))).chan c = s.chan c := rfl
    rw [own]
    rcases state with state | ⟨d, state⟩ <;>
      simp [Channel.ok, state, h.closed, ChannelState.isOut, timing, setpoints]

theorem Engaged.takeRule (h : Engaged c s) (running : (s.chan c).state = .running) (ended : Option Nat) :
    (s.takeRule c ended).Fit := by
  unfold State.takeRule
  split
  · exact h.toReady
  · split
    · exact h.startPeriod (.inl running) _
    · exact h.toAlign running _

/-- A channel in ALIGN or with a period in flight is at work: RUNNING in ALIGN, RUNNING or DRAINING in flight (R61). -/
theorem State.Fit.of_align (h : s.Fit) {g : Nat} (hp : (s.chan c).period = .align g) :
    Engaged c s ∧ (s.chan c).state = .running := by
  have ok := h.ok c trivial
  have running : (s.chan c).state = .running := by
    cases hs : (s.chan c).state <;> simp_all [Channel.ok]
  exact ⟨.of_fit h (by rw [running]; rfl), running⟩

theorem State.Fit.of_delivering (h : s.Fit) {p : InFlight} (hp : (s.chan c).period = .delivering p) :
    Engaged c s ∧ ((s.chan c).state = .running ∨ ∃ d, (s.chan c).state = .draining d) := by
  have ok := h.ok c trivial
  have state : (s.chan c).state = .running ∨ ∃ d, (s.chan c).state = .draining d := by
    cases hs : (s.chan c).state <;> simp_all [Channel.ok]
  refine ⟨.of_fit h ?_, state⟩
  rcases state with state | ⟨d, state⟩ <;> rw [state] <;> rfl

/-! ### The arming arbiter -/

theorem State.Fit.arbiter (h : s.Fit) (g : BusGroup) : (s.arbiter g).Fit := by
  unfold State.arbiter
  split
  · rename_i c hc
    unfold State.grantee at hc
    split at hc
    · rename_i ha
      have active : s.mode.active = true := by
        simp only [Bool.and_eq_true] at ha
        exact ha.1.1
      have leaves := s.allQueued_leave h.nodup (List.mem_of_find?_eq_some hc)
        (q := ⟨(s.group g).queue.filter (· ≠ c), some 0⟩) rfl
      obtain ⟨gone, nodup⟩ := List.nodup_cons.1 (leaves.nodup h.nodup)
      have others : State.FitBut c { s with groups := s.groups.set g ⟨(s.group g).queue.filter (· ≠ c), some 0⟩ } :=
        { ok := (h.but c).ok
          dormant := fun d hd hne => (h.but c).dormant d (leaves.mem_iff.2 (List.mem_cons_of_mem _ hd)) hne
          out := (h.but c).out
          nodup := nodup
          empty := fun hi => absurd hi (by simp [active])
          boot := h.boot }
      have c_dormant := h.dormant c (leaves.mem_iff.2 List.mem_cons_self) trivial
      have idle : (s.chan c).period = .idle := by
        have ok := h.ok c trivial
        cases hp : (s.chan c).period <;> simp_all [Channel.ok]
      have own : ({ s with groups := s.groups.set g ⟨(s.group g).queue.filter (· ≠ c), some 0⟩ } : State).chan c =
        s.chan c := rfl
      refine State.Fit.of_parts (others.put (f := fun ch => { ch with
        state := .arming Config.armingMs, contactorClosed := true, missing := 0, forward := 0, reverse := 0 })
        ?_ (fun hq => absurd hq gone) (fun hi => absurd hi (by simp [active]))) rfl
      rw [own]
      simp [Channel.ok, idle, ChannelState.isOut]
    · cases hc
  · exact h

theorem State.Fit.arbiterOf (h : s.Fit) (c : Chan) : (s.arbiterOf c).Fit := by
  unfold State.arbiterOf
  split
  · exact h.arbiter _
  · exact h

/-! ### Entries into DORMANT and FAULTED -/

theorem Engaged.toDormant (h : Engaged c s) : (s.toDormant c).Fit := by
  have out : ((s.order c .disarm).updChan c fun ch =>
      { ch.periodCleared.zeroed with
        state := .dormant, contactorClosed := false, rest := some s.prof.contactorRest }).Fit :=
    (h.order c .disarm).put (by simp [Channel.ok, Channel.periodCleared, Channel.zeroed, ChannelState.isOut])
  unfold State.toDormant
  dsimp only
  split
  · exact out.arbiterOf c
  · exact out

theorem Engaged.truncate (h : Engaged c s) : Engaged c (s.truncate c) := by
  unfold State.truncate
  split
  · rename_i p hp
    refine (h.order c _).updChan ?_
    have own : (s.order c (.stop p.tag)).chan c = s.chan c := rfl
    rw [own]
    simp [Channel.closed, Channel.zeroed, hp]
  · exact h

theorem State.FitBut.truncate (h : s.FitBut c) : (s.truncate c).FitBut c := by
  unfold State.truncate
  split
  · rename_i p hp
    have ordered : (s.order c (.stop p.tag)).FitBut c := ChannelsFit.of_parts h rfl
    exact ordered.updChan _
  · exact h

/-- A channel that leaves every queue and is out of use fits (R98, R118). -/
theorem State.FitBut.dequeue (h : s.FitBut c) : (s.dequeue c).FitBut c where
  ok := h.ok
  dormant d hd hne := by
    rw [State.dequeue_allQueued] at hd
    exact h.dormant d (List.mem_filter.1 hd).1 hne
  out := h.out
  nodup := by rw [State.dequeue_allQueued]; exact h.nodup.filter _
  empty ha := by rw [State.dequeue_allQueued, h.empty ha]; rfl
  boot := h.boot

theorem State.Fit.dequeue (h : s.Fit) (c : Chan) : (s.dequeue c).Fit := by
  have others := (h.but c).dequeue
  have whole := others.put (f := id) (h.ok c trivial)
    (fun hq => by rw [State.dequeue_allQueued] at hq; simp at hq) (fun ha => h.out ha c trivial)
  exact whole.of_parts (by simp [State.channelParts])

theorem State.Fit.raise (h : s.Fit) (k : NoticeKind) : (s.raise k).Fit := h.of_parts rfl

theorem State.FitBut.toFaulted (h : s.FitBut c) (sound : (s.chan c).state.isFaulted = false) (cause : FaultCause) :
    (s.toFaulted c cause).Fit := by
  have disarmed : (if ((s.truncate c).chan c).contactorClosed then (s.truncate c).order c .disarm
      else s.truncate c).FitBut c := by
    split
    · exact ChannelsFit.of_parts h.truncate rfl
    · exact h.truncate
  have faulted (f : Channel → Channel) (hf : ∀ ch, f ch = { ch.periodCleared.zeroed with
      state := .faulted cause, contactorClosed := false, missing := 0, rest := none }) := disarmed.dequeue.put (f := f)
    (by simp [hf, Channel.ok, Channel.periodCleared, Channel.zeroed, ChannelState.isOut])
    (fun hq => by rw [State.dequeue_allQueued] at hq; simp at hq) (fun _ => by rw [hf]; rfl)
  have raised := (faulted _ fun _ => rfl).raise .channelFault
  unfold State.toFaulted
  rw [if_neg (by simp [sound])]
  dsimp only
  split
  · exact raised.arbiterOf c
  · exact raised

theorem State.Fit.toFaulted (h : s.Fit) (c : Chan) (cause : FaultCause) : (s.toFaulted c cause).Fit := by
  cases sound : (s.chan c).state.isFaulted with
  | true => rw [State.toFaulted, if_pos sound]; exact h
  | false => exact (h.but c).toFaulted sound cause

/-! ### Drains -/

theorem Engaged.drainEnds (h : Engaged c s) (d : Destination) : (s.drainEnds c d).Fit := by
  unfold State.drainEnds
  split
  · split
    · have freed : Engaged c { s with freeCount := s.freeCount + 1 } := h.of_parts rfl
      exact Engaged.toReady (freed.updChan (f := fun ch => { ch with index := _ }) rfl)
    · exact h.toReady
  · exact h.toDormant

theorem State.Fit.beginDrain (h : s.Fit) (running : (s.chan c).state = .running) (d : Destination) :
    (s.beginDrain c d).Fit := by
  have engaged := Engaged.of_fit h (c := c) (by rw [running]; rfl)
  have ok := h.ok c trivial
  unfold State.beginDrain
  split
  · rename_i p hp
    refine engaged.put ?_
    simpa [Channel.ok, running, hp, ChannelState.isOut] using ok
  · cases d with
    | ready => exact engaged.toReady
    | dormant => exact engaged.toDormant

theorem State.Fit.redirect (h : s.Fit) {d : Destination} (draining : (s.chan c).state = .draining d)
    {f : Channel → Channel} (hf : ∃ st k, (st = .running ∨ ∃ d, st = .draining d) ∧
      f (s.chan c) = { s.chan c with state := st, index := k }) : (s.updChan c f).Fit := by
  have engaged := Engaged.of_fit h (c := c) (by rw [draining]; rfl)
  have ok := h.ok c trivial
  obtain ⟨st, k, hst, hf⟩ := hf
  refine engaged.put ?_
  rw [hf]
  cases hp : (s.chan c).period <;> rcases hst with rfl | ⟨e, rfl⟩ <;>
    simp_all [Channel.ok, ChannelState.isOut]

theorem State.Fit.cancelDrain (h : s.Fit) {d : Destination} (draining : (s.chan c).state = .draining d) :
    (s.cancelDrain c).Fit :=
  h.redirect draining ⟨.running, _, .inl rfl, rfl⟩

theorem State.Fit.endPeriod (h : s.Fit) {p : InFlight} (hp : (s.chan c).period = .delivering p) :
    (s.endPeriod c p).Fit := by
  obtain ⟨engaged, state⟩ := h.of_delivering hp
  have closes : (Channel.closed false (s.chan c)).state = (s.chan c).state ∧
      (Channel.closed false (s.chan c)).contactorClosed = (s.chan c).contactorClosed := by simp [Channel.closed, hp]
  have cut : Engaged c (s.updChan c (Channel.closed false)) := engaged.updChan closes.2
  have own : ((s.updChan c (Channel.closed false)).chan c).state = (s.chan c).state := by
    rw [State.updChan_chan_same, closes.1]
  unfold State.endPeriod
  dsimp only
  split
  · rename_i d hd
    unfold State.stepDrain
    split
    · exact cut.drainEnds d
    · split
      · exact cut.startPeriod (.inr ⟨d, hd⟩) _
      · exact cut.drainEnds d
  · rename_i hd
    exact cut.takeRule (own.trans (state.resolve_right fun ⟨d, e⟩ => hd d (own.trans e))) _

/-! ### The zero-offset outcome -/

/-- An attempt's outcome changes nothing that the invariant reads. -/
theorem Channel.judged_ok (interval : Nat) (lone valid : Bool) (ch : Channel) :
    (ch.judged interval lone valid).ok = ch.ok ∧ (ch.judged interval lone valid).state = ch.state := by
  unfold Channel.judged
  cases lone <;> cases valid <;> dsimp only <;> split <;> exact ⟨rfl, rfl⟩

theorem State.Fit.zeroOutcome (h : s.Fit) (c : Chan) (lone valid : Bool) : (s.zeroOutcome c lone valid).Fit := by
  obtain ⟨ok, state⟩ := Channel.judged_ok (s.prof.zeroInterval * 1000) lone valid (s.chan c)
  have judged := (h.alter c ok state).loneZeroIfDue c
  rw [State.zeroOutcome_eq]
  dsimp only
  split
  · exact judged.startOccasion c
  · exact judged

theorem State.Fit.dropChannel (h : s.Fit) (c : Chan) : (s.dropChannel c).Fit := by
  have engaged (hc : (s.chan c).state.isOut = false) : Engaged c (s.truncate c) := (Engaged.of_fit h hc).truncate
  unfold State.dropChannel
  split
  · rename_i hs
    exact (engaged (by rw [hs]; rfl)).toReady
  · rename_i hs
    have freed : Engaged c { s.truncate c with freeCount := (s.truncate c).freeCount + 1 } :=
      (engaged (by rw [hs]; rfl)).of_parts rfl
    exact Engaged.toReady (freed.updChan (f := fun ch => { ch with index := _ }) rfl)
  · rename_i hs
    exact (engaged (by rw [hs]; rfl)).toDormant
  all_goals exact h

theorem State.Fit.inhibitionEnds (h : s.Fit) (c : Chan) : (s.inhibitionEnds c).Fit := by
  unfold State.inhibitionEnds
  split
  · have restarted : (s.updChan c fun ch => { ch with index := 0 }).Fit := h.alter c rfl rfl
    exact restarted.startOccasion c
  · exact h

end

/-- What ends a command opens the windows of Zero Orders, and leaves the channels otherwise (R103). -/
theorem State.Fit.settle {s : State} (h : s.Fit) : (settle s).Fit := by
  have send (t : State) : (pumpTransmitter t).channelParts = t.channelParts := by
    unfold pumpTransmitter
    split
    · split
      · rfl
      · split <;> rfl
    · rfl
  have flushed : (flushOrders s).Fit := h.of_parts rfl
  have pumped : (pumpOrders (flushOrders s)).Fit := by
    unfold pumpOrders startOrder
    split
    · rename_i o rest _ _
      have started : State.Fit { flushOrders s with moduleLink :=
        { (flushOrders s).moduleLink with waiting := rest, sending := some o } } := flushed.of_parts rfl
      dsimp only
      split
      · exact started.alter _ rfl rfl
      · exact started
    · exact flushed
  exact pumped.of_parts (send _)

end Sys2Proof.Machine
end

section
/-! PROOFS. O59, continued: reports, clocks, modes, interlocks, the millimetre, requests, resets, and every step. -/

namespace Sys2Proof.Machine

/-! ### Records -/

theorem State.changeLineStop_parts (s : State) (f : LineStopCauses → LineStopCauses) :
    (s.changeLineStop f).channelParts = s.channelParts := by simp [State.channelParts]

theorem State.leaveIfDone_parts (s : State) (entry : Nat) : (s.leaveIfDone entry).channelParts = s.channelParts := by
  have arrives (t : State) (e : ExitRecord) : (t.exitArrives e).channelParts = t.channelParts := by
    unfold State.exitArrives
    dsimp only
    split
    · exact State.changeLineStop_parts ..
    · rfl
  unfold State.leaveIfDone State.leaveTrack
  split
  · rfl
  · split
    · split
      · rfl
      · exact arrives ..
    · rfl

theorem mode_of_parts {s t : State} (h : t.channelParts = s.channelParts) : t.mode = s.mode :=
  congrArg (fun x => x.2.2.1) h

theorem foldl_parts {f : State → α → State} (h : ∀ s a, (f s a).channelParts = s.channelParts) :
    ∀ (l : List α) (s : State), (l.foldl f s).channelParts = s.channelParts
  | [], _ => rfl
  | a :: l, s => (foldl_parts h l (f s a)).trans (h s a)

/-- An accounting credits records, and leaves the channels (R127). -/
theorem State.account_parts (s : State) (p : PeriodRecord) (note : CloseNote) (report : Option PeriodReport) :
    (s.account p note report).channelParts = s.channelParts := by
  have counted (t : State) (x : Sample) (f r : Nat) :
      ((t.sample p.channel x).anodeCount p.channel f r).channelParts = t.channelParts := State.sample_parts ..
  exact (counted ..).trans (foldl_parts (fun t (q : Contributor) => t.leaveIfDone_parts q.entry) _ _)

section
variable {s : State} {c : Chan}

/-! ### What leaves the channels as they are -/

theorem State.Fit.changeLineStop (h : s.Fit) (f : LineStopCauses → LineStopCauses) : (s.changeLineStop f).Fit :=
  h.of_parts (State.changeLineStop_parts s f)

theorem State.Fit.trackingCause (h : s.Fit) (f : LineStopCauses → LineStopCauses) : (s.trackingCause f).Fit :=
  (h.raise .tracking).changeLineStop f

theorem State.Fit.updConveyor (h : s.Fit) (f : Conveyor → Conveyor) : (s.updConveyor f).Fit := h.of_parts rfl

theorem State.Fit.restartStall (h : s.Fit) : s.restartStall.Fit := h.of_parts rfl

theorem State.Fit.updInterlock (h : s.Fit) (i : Input) (f : Interlock → Interlock) : (s.updInterlock i f).Fit :=
  h.of_parts rfl

theorem State.Fit.updLink (h : s.Fit) (f : LineLink → LineLink) : (s.updLink f).Fit := h.of_parts rfl

theorem State.Fit.mapTrack (h : s.Fit) (f : TrackRecord → TrackRecord) :
    State.Fit { s with track := s.track.map f } := h.of_parts rfl

theorem State.Fit.withCauses (h : s.Fit) (causes : HoldCauses) : State.Fit { s with holdCauses := causes } :=
  h.of_parts rfl

/-! ### Reports -/

theorem State.Fit.settleWindow (h : s.Fit) (c : Chan) (w : Window) (report : Option PeriodReport) :
    (s.settleWindow c w report).Fit := by
  unfold State.settleWindow
  dsimp only
  split
  · exact h.zeroOutcome ..
  · rename_i p note _ _
    have accounted := h.of_parts (State.account_parts s p note report)
    split
    · exact accounted.zeroOutcome ..
    · exact accounted

theorem State.Fit.heard (h : s.Fit) (c : Chan) : (s.heard c).Fit := h.alter c rfl rfl

theorem State.Fit.keepZero (h : s.Fit) (c : Chan) (r : PeriodReport) : (s.keepZero c r).Fit := by
  unfold State.keepZero
  split
  · exact h.alter c rfl rfl
  · exact h

theorem State.Fit.reportFault (h : s.Fit) (c : Chan) (r : PeriodReport) : (s.reportFault c r).Fit := by
  unfold State.reportFault
  split
  · exact h
  · exact h.toFaulted ..

/-- A channel in the middle of its module's early stop: the others fit, and it is not yet FAULTED (R117). -/
structure Stopping (c : Chan) (s : State) : Prop where
  others : s.FitBut c
  sound : (s.chan c).state.isFaulted = false

namespace Stopping

theorem of_parts {t : State} (h : Stopping c s) (e : t.channelParts = s.channelParts) : Stopping c t := by
  refine ⟨ChannelsFit.of_parts h.others e, ?_⟩
  simp only [State.channelParts, Prod.mk.injEq] at e
  rw [State.chan_def, e.1]
  exact h.sound

theorem updChan (h : Stopping c s) {f : Channel → Channel} (hf : (f (s.chan c)).state = (s.chan c).state) :
    Stopping c (s.updChan c f) :=
  ⟨h.others.updChan f, by rw [State.updChan_chan_same, hf, h.sound]⟩

theorem order (h : Stopping c s) (b : OrderBody) : Stopping c (s.order c b) := h.of_parts rfl

theorem zeroOutcome (h : Stopping c s) (valid : Bool) : Stopping c (s.zeroOutcome c false valid) := by
  rw [State.zeroOutcome_eq]
  have judged := h.updChan (Channel.judged_ok (s.prof.zeroInterval * 1000) false valid (s.chan c)).2
  change Stopping c (State.loneZeroIfDue _ c)
  unfold State.loneZeroIfDue
  dsimp only
  split
  · exact (judged.order _).updChan rfl
  · exact judged

end Stopping

theorem State.Fit.earlyStop (h : s.Fit) {p : InFlight} (hp : (s.chan c).period = .delivering p) {r : PeriodReport}
    (code : r.faultCode ≠ 0) : (s.earlyStop c p r).Fit := by
  have start : Stopping c s := by
    refine ⟨h.but c, ?_⟩
    rcases (h.of_delivering hp).2 with state | ⟨d, state⟩ <;> rw [state] <;> rfl
  have stopped := start.updChan (f := fun ch => { ch.zeroed with period := .idle }) rfl
  have heard : Stopping c ((s.updChan c fun ch => { ch.zeroed with period := .idle }).heard c) := stopped.updChan rfl
  have kept : Stopping c (((s.updChan c fun ch => { ch.zeroed with period := .idle }).heard c).keepZero c r) := by
    unfold State.keepZero
    split
    · exact heard.updChan rfl
    · exact heard
  have accounted := kept.of_parts (State.account_parts _ p.record (closeNote p true (s.chan c).stale) (some r))
  unfold State.earlyStop
  dsimp only
  rw [State.reportFault, if_neg code]
  split
  · have outcome := accounted.zeroOutcome r.zeroValid
    exact outcome.others.toFaulted outcome.sound _
  · exact accounted.others.toFaulted accounted.sound _

theorem State.Fit.takeReport (h : s.Fit) (c : Chan) (r : PeriodReport) : (s.takeReport c r).Fit := by
  unfold State.takeReport
  split
  · exact h
  · split
    · rename_i w _
      have closed : (s.closeWindow c w).Fit := h.alter c rfl rfl
      exact (((closed.heard c).keepZero c r).settleWindow c w _).reportFault c r
    · split
      · rename_i hp
        split
        · rename_i stops
          exact h.earlyStop hp stops.2
        · exact h.heard c
      · exact h.heard c

theorem State.Fit.windowCloses (h : s.Fit) (c : Chan) : (s.windowCloses c).Fit := by
  have missed {t : State} (ht : t.Fit) : (t.missed c).Fit := by
    unfold State.missed
    split
    · exact ht
    · split
      · exact ht.toFaulted ..
      · exact ht.alter c rfl rfl
  unfold State.windowCloses
  split
  · exact h
  · rename_i w _ _
    have closed : (s.closeWindow c w).Fit := h.alter c rfl rfl
    exact missed (closed.settleWindow c w _)

theorem State.Fit.takeArmReport (h : s.Fit) (c : Chan) (code : Nat) : (s.takeArmReport c code).Fit := by
  unfold State.takeArmReport
  split
  · rename_i hm
    have arming : (s.chan c).state.isOut = false := by
      simp only [Bool.and_eq_true] at hm
      cases hs : (s.chan c).state <;> simp_all [ChannelState.isArming, ChannelState.isOut]
    split
    · have ready := (Engaged.of_fit h arming).updChan (f := fun ch => { ch with
        state := .ready, zero := .due, stale := false }) rfl
      exact ready.toReady.arbiterOf c
    · exact h.toFaulted ..
  · split
    · exact h
    · exact h.heard c

/-! ### Clocks and timers -/

theorem State.Fit.passBoundary (h : s.Fit) (entry : Nat) (k : PhaseClock) (t : Timing) :
    (s.passBoundary entry k t).Fit := by
  have clocked : (s.updRecord entry fun r => { r with clock := some ⟨.fwd, t.fwd, periodsAfter k.periods⟩ }).Fit :=
    h.of_parts rfl
  refine clocked.forChans fun c u hu => ?_
  split
  · rename_i hp
    obtain ⟨engaged, running⟩ := hu.of_align hp
    unfold State.alignEnds
    split
    · exact engaged.startPeriod (.inl running) _
    · exact engaged.takeRule running _
  · exact hu

theorem State.Fit.phaseIntervalEnds (h : s.Fit) (entry : Nat) : (s.phaseIntervalEnds entry).Fit := by
  unfold State.phaseIntervalEnds
  split
  · exact h
  · split
    · exact h.of_parts rfl
    · exact h.passBoundary ..

theorem State.Fit.phaseBoundaryComes (h : s.Fit) (entry : Nat) : (s.phaseBoundaryComes entry).Fit := by
  unfold State.phaseBoundaryComes
  split
  · exact h
  · split
    · exact h.passBoundary ..
    · exact h

theorem State.Fit.channelIntervalEnds (h : s.Fit) (c : Chan) : (s.channelIntervalEnds c).Fit := by
  unfold State.channelIntervalEnds
  split
  · rename_i p hp
    split
    · refine h.alter c ?_ rfl
      cases hs : (s.chan c).state <;> simp [Channel.ok, hp, hs]
    · exact h.endPeriod hp
  · exact h

theorem State.Fit.periodEnds (h : s.Fit) (c : Chan) : (s.periodEnds c).Fit := by
  unfold State.periodEnds
  split
  · rename_i p hp
    split
    · exact h.endPeriod hp
    · exact h
  · exact h

theorem State.Fit.channelTimers (h : s.Fit) (c : Chan) :
    (s.zeroTimerEnds c).Fit ∧ (s.retryEnds c).Fit ∧ (s.armingExpires c).Fit ∧ (s.restEnds c).Fit := by
  refine ⟨?_, ?_, ?_, ?_⟩
  · unfold State.zeroTimerEnds
    split
    · have due : (s.updChan c fun ch => { ch with zeroTimer := none, zero := .due }).Fit := h.alter c rfl rfl
      exact due.loneZeroIfDue c
    · exact h
  · unfold State.retryEnds
    split
    · have waited : (s.updChan c fun ch => { ch with retry := none }).Fit := h.alter c rfl rfl
      exact waited.loneZeroIfDue c
    · exact h
  · unfold State.armingExpires
    split
    · exact h.toFaulted ..
    · exact h
  · have rested : (s.updChan c fun ch => { ch with rest := none }).Fit := h.alter c rfl rfl
    unfold State.restEnds
    split
    · dsimp only
      split
      · exact rested.arbiterOf c
      · exact rested
    · exact h

/-- A group's time since its last grant does not matter. -/
theorem State.Fit.spacingReached (h : s.Fit) (g : BusGroup) : (s.spacingReached g).Fit := by
  unfold State.spacingReached
  dsimp only
  split
  · have queued : (s.updGroup g fun q => { q with sinceGrant := q.sinceGrant.map (max s.prof.spacing[g]) }).allQueued =
        s.allQueued := by
      unfold State.allQueued State.updGroup
      rw [vector_toList_four, vector_toList_four]
      fin_cases g <;> simp
    have spaced : (s.updGroup g fun q => { q with sinceGrant := q.sinceGrant.map (max s.prof.spacing[g]) }).Fit :=
      { ok := h.ok
        dormant := by rw [queued]; exact h.dormant
        out := h.out
        nodup := by rw [queued]; exact h.nodup
        empty := by rw [queued]; exact h.empty
        boot := h.boot }
    exact spaced.arbiter g
  · exact h

/-! ### Modes -/

/-- Where the line tracks before and after, its mode does not matter. -/
theorem State.Fit.of_active {t : State} (h : s.Fit) (hs : s.mode.active = true) (ht : t.mode.active = true)
    (channels : t.channels = s.channels) (groups : t.groups = s.groups) (boot : t.bootTimer = s.bootTimer) : t.Fit := by
  have none : s.bootTimer = none := h.boot.resolve_right (LineMode.ne_boot_of_active hs)
  have chan (c : Chan) : t.chan c = s.chan c := by rw [State.chan_def, channels, State.chan_def]
  have queued : t.allQueued = s.allQueued := by rw [State.allQueued, groups, State.allQueued]
  exact
    { ok := fun c hc => chan c ▸ h.ok c hc
      dormant := fun c hq hc => chan c ▸ h.dormant c (queued ▸ hq) hc
      out := fun ha => absurd ha (by simp [ht])
      nodup := queued ▸ h.nodup
      empty := fun ha => absurd ha (by simp [ht])
      boot := .inl (boot.trans none) }

/-- Every channel changes in what the invariant does not read. -/
theorem State.Fit.alterAll {f : Channel → Channel} (h : s.Fit) (ok : ∀ ch, ch.ok = true → (f ch).ok = true)
    (dormant : ∀ ch, ch.state = .dormant → (f ch).state = .dormant)
    (out : ∀ ch, ch.state.isOut = true → (f ch).state.isOut = true) :
    State.Fit { s with channels := mapVec f s.channels } := by
  have chan (c : Chan) : ({ s with channels := mapVec f s.channels } : State).chan c = f (s.chan c) := by
    simp [State.chan, mapVec_eq_map]
  exact
    { ok := fun c hc => by rw [chan]; exact ok _ (h.ok c hc)
      dormant := fun c hq hc => by rw [chan]; exact dormant _ (h.dormant c hq hc)
      out := fun ha c hc => by rw [chan]; exact out _ (h.out ha c hc)
      nodup := h.nodup
      empty := h.empty
      boot := h.boot }

theorem State.Fit.holdToRun (h : s.Fit) (ha : s.mode.active = true) : s.holdToRun.Fit := by
  have running (ch : Channel) : (ch.whenRunning fun ch => { ch with index := 0 }).ok = ch.ok ∧
      (ch.whenRunning fun ch => { ch with index := 0 }).state = ch.state := by
    unfold Channel.whenRunning
    split <;> exact ⟨rfl, rfl⟩
  have run : (State.restartStall { s with mode := .run }).Fit := h.of_active ha rfl rfl rfl rfl
  exact run.alterAll (fun ch ok => (running ch).1.trans ok) (fun ch d => (running ch).2.trans d)
    (fun ch d => by rw [(running ch).2]; exact d)

theorem State.Fit.standbyToRun (h : s.Fit) (ha : s.mode.active = true) : s.standbyToRun.Fit := by
  have run : (State.restartStall { s with mode := .run }).Fit := h.of_active ha rfl rfl rfl rfl
  have cancelled := run.forChans (f := fun c s => if (s.chan c).state = .draining .ready then s.cancelDrain c else s)
    fun c u hu => by
      split
      · rename_i hd
        exact hu.cancelDrain hd
      · exact hu
  exact cancelled.startOccasions

theorem State.Fit.runToHold (h : s.Fit) (ha : s.mode.active = true) (causes : HoldCauses) :
    (s.runToHold causes).Fit := by
  have held : State.Fit { s with mode := .hold, holdCauses := causes } := h.of_active ha rfl rfl rfl rfl
  exact held.startOccasions

theorem State.Fit.toStandby (h : s.Fit) (ha : s.mode.active = true) : s.toStandby.Fit := by
  have standby : State.Fit { s with mode := .standby, holdCauses := HoldCauses.none } := h.of_active ha rfl rfl rfl rfl
  refine standby.forChans fun c u hu => ?_
  split
  · rename_i running
    exact hu.beginDrain running _
  · exact hu

theorem State.anyArmed_iff : s.anyArmed = true ↔ ∃ c, (s.chan c).state.isOut = false := by
  have armed : s.anyArmed = !s.channels.toList.all fun ch => ch.state.isOut := by
    rw [State.anyArmed, List.not_all_eq_any_not]
    congr
    funext ch
    cases ch.state <;> rfl
  rw [armed, Bool.not_eq_true', ← Bool.not_eq_true, State.all_channels]
  simp

theorem State.Fit.toOffline (h : s.Fit) (ha : s.mode.active = true) (out : s.anyArmed = false) : s.toOffline.Fit := by
  have out : ∀ c, (s.chan c).state.isOut = true := fun c => by
    by_contra hc
    simp [State.anyArmed_iff.2 ⟨c, by simpa using hc⟩] at out
  have queued : s.toOffline.allQueued = [] := by
    simp [State.allQueued, State.toOffline, mapVec]
  exact
    { ok := h.ok
      dormant := by simp [queued]
      out := fun _ c _ => out c
      nodup := by simp [queued]
      empty := fun _ => queued
      boot := .inl (h.boot.resolve_right (LineMode.ne_boot_of_active ha)) }

theorem State.Fit.offlineToRun (h : s.Fit) (hm : s.mode = .offline) : s.offlineToRun.Fit where
  ok := h.ok
  dormant := h.dormant
  out ha := by simp [State.offlineToRun, LineMode.active] at ha
  nodup := h.nodup
  empty ha := by simp [State.offlineToRun, LineMode.active] at ha
  boot := .inl (h.boot.resolve_right (by simp [hm]))

theorem State.Fit.addHoldCause (h : s.Fit) (f : HoldCauses → HoldCauses) : (s.addHoldCause f).Fit := by
  unfold State.addHoldCause
  split
  · rename_i hm
    exact (h.runToHold (by simp [hm, LineMode.active]) _).raise _
  · exact h.withCauses _
  · exact h

theorem State.Fit.removeStall (h : s.Fit) (ha : s.mode.active = true) : s.removeStall.Fit := by
  unfold State.removeStall
  dsimp only
  have removed := h.withCauses { s.holdCauses with stall := false }
  split
  · split
    · exact (removed.holdToRun ha).raise _
    · exact removed
  · exact h

/-! ### Interlocks -/

theorem State.Fit.latch (h : s.Fit) (i : Input) : (s.latch i).Fit := by
  have latched := (h.updInterlock i fun x => { x with latched := true }).raise .interlock
  have dropped (l : List Chan) := State.forList_keeps (P := State.Fit) (f := fun c s => s.dropChannel c)
    (fun c u hu => hu.dropChannel c) l _ latched
  unfold State.latch
  dsimp only
  split <;> split
  · exact ((dropped _).addHoldCause _).changeLineStop _
  · exact (dropped _).changeLineStop _
  · exact (dropped _).addHoldCause _
  · exact dropped _

theorem State.Fit.latchIfLevel (h : s.Fit) (i : Input) : (s.latchIfLevel i).Fit := by
  unfold State.latchIfLevel
  dsimp only
  split
  · exact h.latch i
  · exact h

theorem State.Fit.unlatch (h : s.Fit) (i : Input) : (s.unlatch i).Fit := by
  have cleared := h.updInterlock i fun x => { x with latched := false }
  have freed (l : List Chan) := State.forList_keeps (P := State.Fit) (f := fun c s => s.inhibitionEnds c)
    (fun c u hu => hu.inhibitionEnds c) l _ cleared
  have turned {t : State} (ht : t.Fit) : t.interlockToCommand.Fit := by
    unfold State.interlockToCommand
    split
    · exact ht.withCauses _
    · exact ht
  unfold State.unlatch
  dsimp only
  split <;> split
  · exact (turned (freed _)).changeLineStop _
  · exact turned (freed _)
  · exact (freed _).changeLineStop _
  · exact freed _

theorem State.Fit.interlockChanges (h : s.Fit) (i : Input) (l : Level) : (s.interlockChanges i l).Fit := by
  unfold State.interlockChanges State.followLevel
  dsimp only
  have moved : State.Fit { s with pins := { s.pins with interlocks := s.pins.interlocks.set i l } } := h.of_parts rfl
  split
  · exact moved
  · have followed := moved.updInterlock i fun x => { x with level := l }
    split
    · exact followed.latch i
    · exact followed

theorem State.Fit.setInterlock (h : s.Fit) (n : Nat) (k : Option InterlockConfig) : (s.setInterlock n k).2.Fit := by
  unfold State.setInterlock
  split
  · split
    · exact h
    · split
      · exact h
      · dsimp only
        split
        · exact ((h.unlatch _).updInterlock ..).latchIfLevel _
        · exact (h.updInterlock ..).latchIfLevel _
  · exact h

theorem State.Fit.ackInterlock (h : s.Fit) (n : Nat) : (s.ackInterlock n).2.Fit := by
  unfold State.ackInterlock
  split
  · exact h
  · dsimp only
    split
    · exact h
    · split
      · exact h
      · exact h.unlatch _

/-! ### The eye and the millimetre -/

theorem State.Fit.examineEye (h : s.Fit) : s.examineEye.Fit := by
  have rising {t : State} (ht : t.Fit) : t.risingEdge.Fit := by
    have bound (rest : List StagingEntry) (track : List TrackRecord) (n : Nat) :
        State.Fit { t with staging := rest, track := track, nextEntry := n } := ht.of_parts rfl
    unfold State.risingEdge
    split
    · exact ht.trackingCause _
    · dsimp only
      split <;> exact (bound ..).startOccasions
  unfold State.examineEye
  split
  · have seen : State.Fit { s with conveyor := { s.conveyor with accepted := s.pins.eye, debounce := some 0 } } :=
      h.of_parts rfl
    dsimp only
    split
    · exact rising seen
    · exact seen.mapTrack _
  · exact h

theorem State.Fit.realign (h : s.Fit) : s.realign.Fit := by
  refine h.forChans fun c u hu => ?_
  split
  · rename_i hp
    obtain ⟨engaged, running⟩ := hu.of_align hp
    split
    · exact engaged.takeRule running _
    · exact hu
  · exact hu

theorem State.Fit.leaving (h : s.Fit) (l : List Nat) : (l.foldl State.leaveIfDone s).Fit :=
  h.of_parts (foldl_parts State.leaveIfDone_parts l s)

theorem State.Fit.judgeEyeStuck (h : s.Fit) : s.judgeEyeStuck.Fit := by
  unfold State.judgeEyeStuck
  split
  · exact (h.mapTrack _).trackingCause _
  · exact h

theorem State.judgeDepartures_eq (s : State) : s.judgeDepartures =
    ((s.track.filter s.passedOut).map (·.entry)).foldl State.leaveIfDone s.passing.realign := rfl

theorem State.Fit.judgeDepartures (h : s.Fit) : s.judgeDepartures.Fit := by
  have passing : s.passing.Fit := h.mapTrack _
  rw [State.judgeDepartures_eq]
  exact passing.realign.leaving _

theorem State.judgeEyeStuck_mode (s : State) : s.judgeEyeStuck.mode = s.mode := by
  unfold State.judgeEyeStuck State.trackingCause
  split
  · rw [State.changeLineStop_mode]; rfl
  · rfl

theorem State.judgeDepartures_mode (s : State) : s.judgeDepartures.mode = s.mode := by
  have left := foldl_parts State.leaveIfDone_parts ((s.track.filter s.passedOut).map (·.entry)) s.passing.realign
  rw [State.judgeDepartures_eq, mode_of_parts left, (ChannelWork.realign s.passing).mode]
  rfl

theorem State.Fit.advance (h : s.Fit) (ha : s.mode.active = true) : s.advance.Fit := by
  have moved : s.moveRecords.Fit := h.of_parts rfl
  have restarted : s.moveRecords.judgeEyeStuck.judgeDepartures.startOccasions.restartStall.Fit :=
    moved.judgeEyeStuck.judgeDepartures.startOccasions.restartStall
  have active : s.moveRecords.judgeEyeStuck.judgeDepartures.startOccasions.restartStall.mode.active = true := by
    rw [State.restartStall_mode, (ChannelWork.startOccasions _).mode, State.judgeDepartures_mode,
      State.judgeEyeStuck_mode]
    exact ha
  have removed := restarted.removeStall active
  unfold State.advance State.growDebounce
  dsimp only
  split
  · exact (removed.updConveyor _).examineEye
  · exact removed.updConveyor _

theorem State.Fit.takeForwardPulse (h : s.Fit) : s.takeForwardPulse.Fit := by
  unfold State.takeForwardPulse
  split
  · exact h
  · rename_i ha
    have ha : s.mode.active = true := by simpa using ha
    split
    · dsimp only
      split
      · exact (h.updConveyor _).examineEye
      · exact h.updConveyor _
    · split
      · exact (h.updConveyor _).advance ha
      · exact h.updConveyor _

theorem State.Fit.takeReversePulse (h : s.Fit) : s.takeReversePulse.Fit := by
  unfold State.takeReversePulse
  split
  · exact h
  · dsimp only
    split
    · exact (h.updConveyor _).trackingCause _
    · exact h.updConveyor _

theorem State.Fit.stallExpires (h : s.Fit) : s.stallExpires.Fit := by
  have expired := h.updConveyor fun v => { v with stall := .expired }
  unfold State.stallExpires
  split
  · dsimp only
    split
    · exact expired.addHoldCause _
    · exact expired
  · exact h

/-! ### Requests -/

/-- The requests that touch no channel: configuration, panels, the monitor and the anode counters. -/
theorem State.serveConfiguration_parts (s : State) :
    (∀ p, (serveSetProfile p s).state.channelParts = s.channelParts) ∧
    (∀ x, (serveSetSegment x s).state.channelParts = s.channelParts) ∧
    (∀ c f r, (serveSetLimits c f r s).state.channelParts = s.channelParts) ∧
    (∀ n r, (serveSetRecipe n r s).state.channelParts = s.channelParts) ∧
    (∀ n, (serveClearRecipe n s).state.channelParts = s.channelParts) ∧
    ∀ n l, (serveSetRamp n l s).state.channelParts = s.channelParts := by
  have put (n : Nat) (r : Option Recipe) : (s.putRecipe n r).channelParts = s.channelParts := by
    unfold State.putRecipe
    split <;> rfl
  refine ⟨fun p => ?_, fun x => ?_, fun c f r => ?_, fun n r => ?_, fun n => ?_, fun n l => ?_⟩
  · unfold serveSetProfile
    (repeat' split) <;> rfl
  · unfold serveSetSegment
    (repeat' split) <;> rfl
  · unfold serveSetLimits
    (repeat' split) <;> rfl
  · unfold serveSetRecipe
    (repeat' split)
    · rfl
    · rfl
    · exact put ..
  · unfold serveClearRecipe
    (repeat' split)
    · rfl
    · rfl
    · rfl
    · exact put ..
  · unfold serveSetRamp
    (repeat' split) <;> rfl

theorem State.servePanels_parts (s : State) :
    (∀ e, (serveAnnouncePanel e s).state.channelParts = s.channelParts) ∧
    (∀ n, (serveWithdrawPanel n s).state.channelParts = s.channelParts) ∧
    (∀ n, (serveQueryPanel n s).state.channelParts = s.channelParts) ∧
    (serveCollectExit s).state.channelParts = s.channelParts := by
  refine ⟨fun e => ?_, fun n => ?_, fun n => ?_, ?_⟩
  · unfold serveAnnouncePanel
    (repeat' split) <;> rfl
  · unfold serveWithdrawPanel
    (repeat' split) <;> rfl
  · unfold serveQueryPanel
    (repeat' split) <;> rfl
  · unfold serveCollectExit
    split
    · rfl
    · dsimp only
      split
      · exact State.changeLineStop_parts ..
      · rfl

theorem State.serveMonitors_parts (s : State) :
    (∀ n p, (serveSetMonitor n p s).state.channelParts = s.channelParts) ∧
    (∀ o, (serveControlMonitor o s).state.channelParts = s.channelParts) ∧
    (∀ n, (serveReadAnode n s).state.channelParts = s.channelParts) ∧
    (∀ n f r, (serveSetAnode n f r s).state.channelParts = s.channelParts) ∧
    (∀ n k, (serveQueryChannel n k s).state.channelParts = s.channelParts) ∧
    (serveRestart s).state.channelParts = s.channelParts := by
  refine ⟨fun n p => ?_, fun o => ?_, fun n => ?_, fun n f r => ?_, fun n k => ?_, ?_⟩
  · unfold serveSetMonitor
    (repeat' split) <;> rfl
  · unfold serveControlMonitor
    (repeat' split) <;> rfl
  · unfold serveReadAnode
    split <;> rfl
  · unfold serveSetAnode
    split <;> rfl
  · unfold serveQueryChannel
    (repeat' split) <;> rfl
  · unfold serveRestart
    split <;> rfl

theorem State.Fit.setModeRun (h : s.Fit) : s.setModeRun.2.Fit := by
  unfold State.setModeRun
  split
  case h_1 hm =>
    split
    · exact h
    · split
      · exact h
      · exact h.offlineToRun hm
  case h_2 => exact h
  case h_3 hm =>
    have active : s.mode.active = true := by rw [hm]; rfl
    have commanded := h.withCauses { s.holdCauses with command := false }
    split
    · exact h
    · dsimp only
      split
      · exact commanded.holdToRun active
      · exact commanded
  case h_4 hm =>
    have active : s.mode.active = true := by rw [hm]; rfl
    split
    · exact h
    · dsimp only
      exact h.standbyToRun active
  case h_5 => exact h

theorem State.Fit.setModeHold (h : s.Fit) : s.setModeHold.2.Fit := by
  unfold State.setModeHold
  split
  case h_1 hm =>
    have active : s.mode.active = true := by rw [hm]; rfl
    dsimp only
    exact h.runToHold active _
  case h_2 => exact h.withCauses _
  all_goals exact h

theorem State.Fit.setModeStandby (h : s.Fit) : s.setModeStandby.2.Fit := by
  have enters (active : s.mode.active = true) : s.toStandby.Fit := h.toStandby active
  unfold State.setModeStandby
  split
  case h_1 hm => dsimp only; exact enters (by rw [hm]; rfl)
  case h_2 hm => dsimp only; exact enters (by rw [hm]; rfl)
  all_goals exact h

theorem State.Fit.setModeOffline (h : s.Fit) : s.setModeOffline.2.Fit := by
  have enters (active : s.mode.active = true) : (if (!s.track.isEmpty) = true then (ResultCode.trackNotEmpty, s)
      else if s.anyArmed = true then (.channelsArmed, s) else (.ok, s.toOffline)).2.Fit := by
    split
    · exact h
    · split
      · exact h
      · rename_i out
        exact h.toOffline active (by simpa using out)
  unfold State.setModeOffline
  split
  case h_1 => exact h
  case h_5 => exact h
  all_goals rename_i hm; exact enters (by rw [hm]; rfl)

theorem State.Fit.serveSetMode (h : s.Fit) (m : Option RequestedMode) : (serveSetMode m s).state.Fit := by
  unfold Machine.serveSetMode
  split
  · exact h
  · rw [modeServed_state]; exact h.setModeOffline
  · rw [modeServed_state]; exact h.setModeRun
  · rw [modeServed_state]; exact h.setModeHold
  · rw [modeServed_state]; exact h.setModeStandby

/-- A channel that is armed joins its group's queue where it is DORMANT and not queued (R107, R108). -/
theorem State.Fit.armChannel (h : s.Fit) (ha : s.mode.active = true) (c : Chan) : (s.armChannel c).Fit := by
  unfold State.armChannel
  split
  · rename_i dormant
    split
    · exact h
    · rename_i hq
      split
      · rename_i g _
        have apart : c ∉ s.allQueued := fun k => hq (State.queued_iff.2 k)
        have joins := s.allQueued_join (q := { s.group g with queue := (s.group g).queue ++ [c] }) rfl
        have joined : (s.updGroup g fun q => { q with queue := q.queue ++ [c] }).Fit :=
          { ok := h.ok
            dormant := fun d hd _ => by
              rcases List.mem_cons.1 (joins.mem_iff.1 hd) with rfl | hd
              · exact dormant
              · exact h.dormant d hd trivial
            out := fun hi => absurd hi (by simp [State.updGroup, ha])
            nodup := joins.nodup_iff.2 (List.nodup_cons.2 ⟨apart, h.nodup⟩)
            empty := fun hi => absurd hi (by simp [State.updGroup, ha])
            boot := h.boot }
        exact joined.arbiter g
      · exact h
  · rename_i draining
    exact h.cancelDrain draining
  all_goals exact h

theorem ChannelWork.armChannel (s : State) (c : Chan) : ChannelWork s (s.armChannel c) := by
  unfold State.armChannel
  split
  · split
    · exact refl s
    · split
      · exact (updGroup ..).trans (arbiter ..)
      · exact refl s
  · exact cancelDrain ..
  all_goals exact refl s

theorem State.Fit.serveArmChannels (h : s.Fit) (hb : s.mode ≠ .boot) (l : List Nat) :
    (serveArmChannels l s).state.Fit := by
  unfold Machine.serveArmChannels
  split
  · exact h
  · rename_i ho
    have active : s.mode.active = true := by cases hm : s.mode <;> simp_all [LineMode.active]
    split
    · exact h
    · exact h
    · refine (State.forList_keeps (P := fun t => t.Fit ∧ t.mode.active = true) (fun c t ht => ?_) _ s ⟨h, active⟩).1
      exact ⟨ht.1.armChannel ht.2 c, by rw [(ChannelWork.armChannel t c).mode]; exact ht.2⟩

theorem State.Fit.disarmChannel (h : s.Fit) (c : Chan) : (s.disarmChannel c).Fit := by
  unfold State.disarmChannel
  split
  · exact h.dequeue c
  · rename_i hs
    exact (Engaged.of_fit h (by rw [hs]; rfl)).toDormant
  · rename_i hs
    exact (Engaged.of_fit h (by rw [hs]; rfl)).toDormant
  · rename_i hs
    exact h.beginDrain hs _
  · rename_i hs
    exact h.redirect hs ⟨.draining .dormant, _, .inr ⟨_, rfl⟩, rfl⟩
  · exact h

/-- A channel out of use becomes DORMANT as it stands (R114). -/
theorem State.Fit.clearFaultOf (h : s.Fit) (out : (s.chan c).state.isOut = true) : (s.clearFaultOf c).Fit := by
  have rested : s.clearedRest.2.channelParts = s.channelParts := by
    unfold State.clearedRest
    split <;> rfl
  have own : s.clearedRest.2.chan c = s.chan c := by
    rw [State.chan_def, show s.clearedRest.2.channels = s.channels from congrArg Prod.fst rested, State.chan_def]
  have fits : Channel.ok { s.chan c with state := .dormant, rest := s.clearedRest.1 } = true := by
    have ok := h.ok c trivial
    cases hs : (s.chan c).state <;> cases hp : (s.chan c).period <;> simp_all [Channel.ok, ChannelState.isOut]
  exact ((h.of_parts rested).but c).put (f := fun ch => { ch with state := .dormant, rest := s.clearedRest.1 })
    (by rw [own]; exact fits) (fun _ => rfl) (fun _ => rfl)

end

/-- A cleared channel is DORMANT, and no other channel changes (R114). -/
theorem State.clearFaultOf_isOut {s : State} (c d : Chan) (out : (s.chan d).state.isOut = true) :
    ((s.clearFaultOf c).chan d).state.isOut = true := by
  have own : ∀ e, s.clearedRest.2.chan e = s.chan e := fun e => by
    unfold State.clearedRest
    split <;> rfl
  change ((s.clearedRest.2.updChan c fun ch => { ch with state := .dormant, rest := s.clearedRest.1 }).chan d).state.isOut
    = true
  by_cases hd : d = c
  · rw [hd, State.updChan_chan_same]; rfl
  · rw [State.updChan_chan_other _ _ hd, own]; exact out

theorem State.Fit.clearing {s : State} (h : s.Fit) : ∀ {l : List Chan}, (∀ c ∈ l, (s.chan c).state.isOut = true) →
    (s.forList l fun c s => s.clearFaultOf c).Fit := by
  intro l out
  induction l generalizing s with
  | nil => exact h
  | cons c l ih =>
    have cleared := h.clearFaultOf (out c List.mem_cons_self)
    exact ih cleared fun d hd => s.clearFaultOf_isOut c d (out d (List.mem_cons_of_mem _ hd))

end Sys2Proof.Machine
end

section
/-! PROOFS. O59, concluded: requests, the links, resets, time, and every step. -/

namespace Sys2Proof.Machine

section
variable {s : State}

/-! ### Requests -/

theorem mem_listChans {l : List Nat} {c : Chan} (h : c ∈ listChans l) : c.val ∈ l := by
  have seen : ∀ (m seen : List Chan), c ∈ m.foldl (fun seen c => if c ∈ seen then seen else seen ++ [c]) seen →
      c ∈ seen ∨ c ∈ m := by
    intro m
    induction m with
    | nil => exact fun _ h => .inl h
    | cons d m ih =>
      intro seen h
      rcases ih _ h with h | h
      · dsimp only at h
        split at h
        · exact .inl h
        · rcases List.mem_append.1 h with h | h
          · exact .inl h
          · exact .inr (List.mem_cons.2 (.inl (List.mem_singleton.1 h)))
      · exact .inr (List.mem_cons_of_mem _ h)
  rcases seen _ _ h with h | h
  · cases h
  · obtain ⟨n, hn, hc⟩ := List.mem_filterMap.1 h
    unfold chanOf? at hc
    split at hc
    · obtain rfl := Option.some.inj hc
      exact hn
    · cases hc

/-- A list passes a check where no item fails it (R106, R113). -/
theorem firstFailing_eq_none {bad : Nat → Bool} {l : List Nat} :
    firstFailing bad l = none ↔ l ≠ [] ∧ l.length ≤ 40 ∧ ∀ n ∈ l, bad n = false := by
  unfold firstFailing
  split
  · rename_i h
    simp only [reduceCtorEq, false_iff, not_and]
    intro some short
    rw [List.length_eq_zero_iff] at h
    exact absurd short (by have := h.resolve_left some; omega)
  · rename_i h
    simp only [not_or, List.length_eq_zero_iff, not_lt] at h
    simp [h]

/-- ClearFault finds the channels of its list FAULTED (R114). -/
theorem State.Fit.serveClearFault (h : s.Fit) (l : List Nat) : (serveClearFault l s).state.Fit := by
  unfold Machine.serveClearFault
  split
  · exact h
  · exact h
  · rename_i sound
    refine h.clearing fun c hc => ?_
    have faulted := (firstFailing_eq_none.1 sound).2.2 c.val (mem_listChans hc)
    simp only [State.namesSound, chanOf?, c.isLt, dif_pos, Option.any_some, Bool.not_eq_false'] at faulted
    cases hs : (s.chan c).state <;> simp_all [ChannelState.isFaulted, ChannelState.isOut]

theorem State.Fit.serveRemovePanel (h : s.Fit) (n : Option PanelName) : (serveRemovePanel n s).state.Fit := by
  unfold Machine.serveRemovePanel
  split
  · exact h
  · split
    · exact h
    · split
      · exact h
      · rename_i r _
        change (s.removeRecord r).Fit
        unfold State.removeRecord
        split
        · exact h
        · exact State.Fit.of_parts (h.mapTrack _).realign (State.leaveIfDone_parts ..)

/-- Every request that is taken outside BOOT leaves the channels fitting. -/
theorem State.Fit.serve (h : s.Fit) {r : Request} (hb : s.mode ≠ .boot ∨ r = .queryLine) : (serve r s).state.Fit := by
  obtain ⟨setProfile, setSegment, setLimits, setRecipe, clearRecipe, setRamp⟩ := s.serveConfiguration_parts
  obtain ⟨announce, withdraw, queryPanel, collect⟩ := s.servePanels_parts
  obtain ⟨setMonitor, control, readAnode, setAnode, queryChannel, restart⟩ := s.serveMonitors_parts
  cases r with
  | setProfile p => exact h.of_parts (setProfile p)
  | setSegment x => exact h.of_parts (setSegment x)
  | setLimits c f r => exact h.of_parts (setLimits c f r)
  | setRecipe n r => exact h.of_parts (setRecipe n r)
  | clearRecipe n => exact h.of_parts (clearRecipe n)
  | setRamp n l => exact h.of_parts (setRamp n l)
  | setMode m => exact h.serveSetMode m
  | restart => exact h.of_parts restart
  | armChannels l => exact h.serveArmChannels (hb.resolve_right (by simp)) l
  | disarmChannels l =>
    change (serveDisarmChannels l s).state.Fit
    unfold serveDisarmChannels
    split
    · exact h
    · exact State.forList_keeps (P := State.Fit) (f := fun c s => s.disarmChannel c)
        (fun c u hu => hu.disarmChannel c) _ s h
  | clearFault l => exact h.serveClearFault l
  | announcePanel e => exact h.of_parts (announce e)
  | withdrawPanel id => exact h.of_parts (withdraw id)
  | removePanel n => exact h.serveRemovePanel n
  | queryPanel n => exact h.of_parts (queryPanel n)
  | collectExit => exact h.of_parts collect
  | setInterlock n k => exact h.setInterlock n k
  | ackInterlock n => exact h.ackInterlock n
  | clearLineStop => exact h.changeLineStop _
  | setMonitor n p => exact h.of_parts (setMonitor n p)
  | controlMonitor o => exact h.of_parts (control o)
  | readMonitor => exact h
  | readAnode n => exact h.of_parts (readAnode n)
  | setAnode n f r => exact h.of_parts (setAnode n f r)
  | queryChannel n k => exact h.of_parts (queryChannel n k)
  | queryLine => exact h

/-! ### The links -/

theorem State.Fit.takeRequest (h : s.Fit) (f : Frame) (r : Request) : (s.takeRequest f r).Fit := by
  unfold State.takeRequest
  split
  · exact h.updLink _
  · rename_i hb
    refine (h.serve ?_).updLink _
    by_cases hr : r = .queryLine
    · exact .inr hr
    · exact .inl fun hm => hb ⟨hm, hr⟩

theorem State.Fit.takeFrame (h : s.Fit) (f : Frame) : (s.takeFrame f).Fit := by
  unfold State.takeFrame
  split
  · exact h.updLink _
  · exact h.takeRequest ..

theorem State.Fit.meet (h : s.Fit) (f : Frame) {take : State → State} (ht : ∀ t : State, t.Fit → (take t).Fit) :
    (s.meet f take).Fit := by
  have hunting := h.updLink fun l => { l with receiver := .hunt, gap := 0 }
  unfold State.meet
  split
  · exact h
  · dsimp only
    split
    · exact ht _ hunting
    · exact hunting.updLink _
    · exact hunting

theorem State.Fit.arrive (h : s.Fit) (f : Frame) : (s.arrive f).Fit := h.meet f fun _ ht => ht.takeFrame f

theorem State.Fit.takeByte (h : s.Fit) (b : Byte) : (s.takeByte b).Fit := by
  have moved (r : Receiver) : (s.receive r).Fit := h.updLink _
  unfold State.takeByte State.checkEnds
  split
  · exact h
  · split
    case h_5 =>
      split
      · split
        · exact h.arrive _
        · exact moved _
      · exact moved _
    all_goals exact moved _

/-! ### Resets and BOOT -/

/-- A state of BOOT with every channel as after a reset (R83, R122, R125). -/
theorem State.Fit.of_boot (hm : s.mode = .boot) (hc : s.channels = .replicate 40 .afterReset)
    (hg : s.groups = .replicate 4 ⟨[], none⟩) : s.Fit := by
  have chan (c : Chan) : s.chan c = .afterReset := by simp [State.chan_def, hc]
  have queued : s.allQueued = [] := by simp [State.allQueued, hg]
  exact
    { ok := fun c _ => by rw [chan]; rfl
      dormant := by simp [queued]
      out := fun _ c _ => by rw [chan]; rfl
      nodup := by simp [queued]
      empty := fun _ => queued
      boot := .inr hm }

theorem State.Fit.restarts (s : State) : s.restarts.Fit := .of_boot rfl rfl rfl

theorem State.Fit.powersOn (s : State) : s.powersOn.Fit := by
  unfold State.powersOn
  dsimp only
  split <;> exact .of_boot rfl rfl rfl

/-- At the end of BOOT the channels are DORMANT or FAULTED, as OFFLINE asks (R121, R148). -/
theorem State.Fit.bootEnds (h : s.Fit) : s.bootEnds.Fit := by
  unfold State.bootEnds
  split
  · rename_i hb
    have boot : s.mode = .boot := h.boot.resolve_left (Option.isSome_iff_ne_none.1 hb)
    have inactive : s.mode.active = false := by rw [boot]; rfl
    have settled (ch : Channel) (ok : ch.ok = true) (out : ch.state.isOut = true) :
        ch.settled.ok = true ∧ ch.settled.state.isOut = true := by
      unfold Channel.settled
      split
      · exact ⟨ok, out⟩
      · refine ⟨?_, rfl⟩
        cases hs : ch.state <;> cases hp : ch.period <;> simp_all [Channel.ok, ChannelState.isOut]
    let u : State := { s with bootTimer := none, channels := mapVec Channel.settled s.channels, mode := .offline }
    have chan (c : Chan) : u.chan c = (s.chan c).settled := by simp [u, State.chan, mapVec_eq_map]
    have queued : u.allQueued = [] := h.empty inactive
    have offline : u.Fit :=
      { ok := fun c _ => by rw [chan]; exact (settled _ (h.ok c trivial) (h.out inactive c trivial)).1
        dormant := by simp [queued]
        out := fun _ c _ => by rw [chan]; exact (settled _ (h.ok c trivial) (h.out inactive c trivial)).2
        nodup := by simp [queued]
        empty := fun _ => queued
        boot := .inl rfl }
    have levels : (u.raise .lineMode).takeLevels.Fit :=
      State.Fit.foldl (fun t i ht => ht.updInterlock i _) _ (offline.raise .lineMode)
    exact State.Fit.foldl (fun t i ht => ht.latchIfLevel i) _ levels
  · exact h

theorem State.Fit.transmitted (h : s.Fit) : s.transmitted.Fit := by
  unfold State.transmitted
  split
  · exact h
  · exact h.updLink _
  · split
    · exact .restarts s
    · unfold State.replySent
      have sent := h.updLink fun l => { l with tx := .idle, inHand := none, held := none }
      dsimp only
      split
      · exact sent.takeFrame _
      · exact sent

/-! ### Time -/

theorem Channel.tick_ok {ch : Channel} (h : ch.ok = true) : ch.tick.ok = true := by
  cases hs : ch.state <;> cases hp : ch.period <;>
    simp_all [Channel.ok, Channel.tick, ChannelState.tick, Period.tick, ChannelState.isOut]

theorem Channel.tick_dormant {ch : Channel} (h : ch.state = .dormant) : ch.tick.state = .dormant := by
  simp [Channel.tick, h, ChannelState.tick]

theorem Channel.tick_isOut {ch : Channel} (h : ch.state.isOut = true) : ch.tick.state.isOut = true := by
  cases hs : ch.state <;> simp_all [Channel.tick, ChannelState.tick, ChannelState.isOut]

theorem State.Fit.millisecond (h : s.Fit) : s.millisecond.Fit := by
  have ticked := h.alterAll (f := Channel.tick) (fun _ => Channel.tick_ok) (fun _ => Channel.tick_dormant)
    (fun _ => Channel.tick_isOut)
  have queued : s.timersTick.allQueued = s.allQueued := by
    simp [State.allQueued, State.timersTick, mapVec, List.flatMap_map, Group.tick]
  have timers : s.timersTick.Fit :=
    { ok := ticked.ok
      dormant := by rw [queued]; exact ticked.dormant
      out := ticked.out
      nodup := by rw [queued]; exact h.nodup
      empty := by rw [queued]; exact h.empty
      boot := h.boot.imp (fun hb => by simp [State.timersTick, hb, countDown]) id }
  unfold State.millisecond State.holdMillisecond
  split
  · exact timers.mapTrack _
  · exact timers

/-! ### Every command, every step -/

theorem State.Fit.done {t : State} (h : s.Fit) (ht : done s = .next t) : t.Fit := done_eq_next.1 ht ▸ h.settle

theorem State.Fit.exec (i : Instr) (s t : State) (hs : s.Fit) (h : exec i s = .next t) : t.Fit := by
  cases hr : requestOf i with
  | some r =>
    rw [exec_of_request hr] at h
    exact (hs.meet _ fun _ ht => ht.takeRequest ..).done h
  | none =>
    cases i with
    | powerOn b => exact (State.Fit.powersOn _).done h
    | resetLineActive =>
      have held : s.resetHolds.Fit := .of_boot rfl rfl rfl
      exact held.done h
    | resetLineRelease b =>
      refine State.Fit.done ?_ h
      split
      · exact .of_boot rfl rfl rfl
      · exact hs
    | restartTakesEffect b =>
      refine State.Fit.done ?_ h
      split
      · exact .restarts _
      · exact hs
    | bootEnd => exact hs.bootEnds.done h
    | presenceReply c =>
      refine State.Fit.done ?_ h
      unfold State.takePresence
      split
      · exact hs.alter c rfl rfl
      · exact hs
    | forwardPulse => exact hs.takeForwardPulse.done h
    | reversePulse => exact hs.takeReversePulse.done h
    | eyeChange l =>
      refine State.Fit.done ?_ h
      unfold State.eyeChanges
      split
      · exact hs
      · have moved : State.Fit { s with pins := { s.pins with eye := l } } := hs.of_parts rfl
        exact moved.examineEye
    | stallTimerExpiry => exact hs.stallExpires.done h
    | phaseIntervalEnd n => exact (hs.phaseIntervalEnds n).done h
    | phaseBoundary n => exact (hs.phaseBoundaryComes n).done h
    | channelIntervalEnd c => exact (hs.channelIntervalEnds c).done h
    | periodEnd c => exact (hs.periodEnds c).done h
    | zeroTimerExpiry c => exact (hs.channelTimers c).1.done h
    | loneZeroRetryExpiry c => exact (hs.channelTimers c).2.1.done h
    | periodReport c r => exact (hs.takeReport c r).done h
    | reportWindowClose c => exact (hs.windowCloses c).done h
    | armReport c n => exact (hs.takeArmReport c n).done h
    | armingTimeout c => exact (hs.channelTimers c).2.2.1.done h
    | contactorRestEnd c => exact (hs.channelTimers c).2.2.2.done h
    | armingSpacingReached g => exact (hs.spacingReached g).done h
    | interlockInputChange i l => exact (hs.interlockChanges i l).done h
    | frameReceived k p => exact (hs.arrive _).done h
    | interByteGap => exact (hs.updLink _).done h
    | framingError => exact (hs.updLink _).done h
    | transmitComplete => exact hs.transmitted.done h
    | badKind k =>
      refine State.Fit.done ?_ h
      split
      · exact hs.arrive _
      · exact hs
    | receivedByte b => exact (hs.takeByte b).done h
    | moduleOrderSent =>
      have sent : s.orderSent.Fit := hs.of_parts rfl
      exact sent.done h
    | holdDwellMillisecond =>
      refine State.Fit.done ?_ h
      unfold State.holdMillisecond
      split
      · exact hs.mapTrack _
      · exact hs
    | _ => cases hr

end

/-- Settles O59: the invariant channel by channel; every operation on a channel at work leaves a record that fits, and no
other event touches what the invariant reads. -/
theorem stepKeepsChannelInv : Obligations.StepKeepsChannelInv := by
  unfold Obligations.StepKeepsChannelInv
  intro s t hs h
  exact State.channelInv_iff.2 (step_keeps (P := State.Fit) (fun _ _ hu => hu.of_parts rfl)
    (fun _ _ hu => hu.of_parts rfl) (fun _ hu => hu.millisecond) State.Fit.exec (State.channelInv_iff.1 hs) h)

end Sys2Proof.Machine
end

section
/-! PROOFS. The start of a period and the boundary of a record as parts of an event (R64, R66, R78, R101); O16. -/

namespace Sys2Proof.Machine

/-! ### Loops of parts under a condition -/

/-- A loop of the machine whose turns do what the parts say, where `P` of the turns still to come holds of the state. -/
theorem Effects.live_each_of {f : α → State → Effects} {step : State → α → State} {P : List α → State → Prop}
    (h : ∀ a l (e : Effects), P (a :: l) e.state →
      step e.live a = (e.andThen (f a)).live ∧ P l (f a e.state).state) :
    ∀ (l : List α) (e : Effects), P l e.state → l.foldl step e.live = (e.each l f).live
  | [], _, _ => rfl
  | a :: l, e, hp => by
    obtain ⟨turn, rest⟩ := h a l e hp
    rw [List.foldl_cons, turn, live_each_of h l (e.andThen (f a)) rest]
    rfl

theorem Effects.andThen_quiet_self (e : Effects) : e.andThen State.quiet = e := by simp [Effects.andThen]

/-- A loop in which only one member's part is not quiet is that part. -/
theorem Effects.each_single [DecidableEq α] {f : α → State → Effects} {a : α} (quiet : ∀ b ≠ a, ∀ t, f b t = t.quiet) :
    ∀ (l : List α) (e : Effects), l.Nodup → e.each l f = if a ∈ l then e.andThen (f a) else e
  | [], _, _ => rfl
  | b :: l, e, nodup => by
    obtain ⟨hb, nodup⟩ := List.nodup_cons.1 nodup
    rw [Effects.each_cons, each_single quiet l _ nodup]
    by_cases hab : b = a
    · subst hab
      simp [hb]
    · have same : e.andThen (f b) = e := by
        rw [Effects.andThen_congr (g := State.quiet) (quiet b hab _), Effects.andThen_quiet_self]
      have hne : a ≠ b := fun k => hab k.symm
      simp [same, hne]

theorem Chan.all_nodup : Chan.all.Nodup := List.nodup_finRange 40

theorem Chan.mem_all (c : Chan) : c ∈ Chan.all := List.mem_finRange c

/-! ### What ends an event with one order -/

/-- One order that is no Zero Order joins the module link (R100). -/
theorem State.issued_order {s : State} {o : Order} (ho : ∀ tag, o.body ≠ .zero tag) :
    s.issued [o] = { s with moduleLink := s.moduleLink.ordering [o] } := by
  rcases s.issued_cases [o] with e | ⟨c, tag, mem, -⟩
  · rw [e, sortOrders_single]
  · have := List.mem_singleton.1 mem
    exact absurd (by rw [← this]) (ho tag)

/-- With no notices the line link stays, whatever the module link. -/
theorem State.raised_nil_of_links {s t : State} (h : s.settled = true) (hl : t.link = s.link) : t.raised [] = t := by
  have idle : t.link.tx = .idle → t.link.inHand = none ∧ t.link.notices = [] := by
    rw [hl]; exact (State.settled_iff.1 h).2.2
  have : t.link.raising t.snapshot [] = t.link := by
    unfold LineLink.raising
    dsimp only [List.foldl_nil]
    split
    · rename_i ht hn
      simp [(idle ht).2] at hn
    · rfl
  rw [State.raised, this]

theorem State.issued_link (s : State) (l : List Order) : (s.issued l).link = s.link := by
  unfold State.issued State.sent
  dsimp only
  split <;> rfl

/-- An event without notices ends with its orders. -/
theorem Effects.ended_of_noNotices {e : Effects} (h : e.state.settled = true) (hn : e.notices = []) :
    e.ended = e.state.issued e.orders := by
  rw [Effects.ended, hn, State.raised_nil_of_links h (State.issued_link ..)]

/-! ### The start of a period -/

theorem startPeriod_live (e : Effects) (c : Chan) {g : Nat} {rec : Recipe} {index : Int}
    (h : (e.state.find g).bind e.state.recipeOf = some rec)
    (hi : indexAfter .normal (e.state.chan c).state (e.state.chan c).index = index) :
    e.live.startPeriod c g = (e.andThen fun t => t.begins c g rec.timing index).live := by
  have kind (due : Bool) : (if (due && rec.timing.noRest) = true then PeriodKind.zero else .normal) =
      if due = true ∧ rec.timing.rest1 < 2 ∧ rec.timing.rest2 < 2 then .zero else .normal := by
    simp [Timing.noRest]
  have after (k : PeriodKind) : indexAfter k (e.state.chan c).state (e.state.chan c).index =
      if k = .zero then (e.state.chan c).index else index := by
    cases k with
    | zero => rfl
    | normal => rw [hi]; rfl
  unfold State.startPeriod
  rw [show (e.live.find g).bind e.live.recipeOf = some rec from h, show e.live.chan c = e.state.chan c from rfl]
  dsimp only
  rw [kind]
  unfold Effects.andThen State.begins
  dsimp only
  rw [← after]
  generalize (if decide ((e.state.chan c).zero = .due) = true ∧ rec.timing.rest1 < 2 ∧ rec.timing.rest2 < 2 then
    PeriodKind.zero else .normal) = k
  rw [show e.live.allocate c g rec.timing k = e.state.allocate c g rec.timing k from rfl]
  generalize e.state.allocate c g rec.timing k = p
  simp [State.updChan, Effects.live, State.order, State.raiseCounts, State.chan]
  rfl

theorem LeavesLinks.begins (c : Chan) (g : Nat) (timing : Timing) (index : Int) :
    LeavesLinks fun t => t.begins c g timing index := fun _ => ⟨rfl, rfl⟩

theorem LeavesLinks.ruled (c : Chan) : LeavesLinks (State.ruled c) := by
  intro s
  unfold State.ruled
  split <;> exact ⟨rfl, rfl⟩

/-- A period that starts alone ends with its order at the module link. -/
theorem State.begins_ended {s : State} (h : s.settled = true) (c : Chan) (g : Nat) (timing : Timing) (index : Int) :
    (s.begins c g timing index).ended = s.periodStarted c g timing index := by
  rw [Effects.ended_of_noNotices ((LeavesLinks.begins c g timing index).settled h) rfl]
  exact State.issued_order (by simp)

end Sys2Proof.Machine
end

section
/-! PROOFS. The boundary of a record (R59, R66, R67), channel by channel; O16. -/

namespace Sys2Proof.Machine

/-! ### What coverage reads of the track -/

/-- A record without its in-flight count and its phase clock, which coverage does not read (R30, R31). -/
def TrackRecord.bare (r : TrackRecord) : TrackRecord := { r with inFlight := 0, clock := none }

/-- What the channels read of the line is in `t` as in `s` (R30, R31, R48, R85). -/
structure SameCover (s t : State) : Prop where
  recipes : t.recipes = s.recipes
  segments : t.segments = s.segments
  profile : t.profile = s.profile
  track : t.track.map TrackRecord.bare = s.track.map TrackRecord.bare

theorem TrackRecord.bare_ite {p : Prop} [Decidable p] {r q : TrackRecord} (h : q.bare = r.bare) :
    (if p then q else r).bare = r.bare := by
  split
  · exact h
  · rfl

theorem State.covered_bare (s : State) (c : Chan) (r : TrackRecord) : s.covered c r.bare = s.covered c r := rfl

theorem State.recipeOf_bare (s : State) (r : TrackRecord) : s.recipeOf r.bare = s.recipeOf r := rfl

namespace SameCover
variable {s t : State}

theorem of_map {f : TrackRecord → TrackRecord} (h : ∀ r, (f r).bare = r.bare) (recipes : t.recipes = s.recipes)
    (segments : t.segments = s.segments) (profile : t.profile = s.profile) (track : t.track = s.track.map f) :
    SameCover s t :=
  ⟨recipes, segments, profile, by rw [track, List.map_map]; exact List.map_congr_left fun r _ => h r⟩

theorem trans {u : State} (h : SameCover s t) (k : SameCover t u) : SameCover s u :=
  ⟨k.recipes.trans h.recipes, k.segments.trans h.segments, k.profile.trans h.profile, k.track.trans h.track⟩

theorem covered (h : SameCover s t) (c : Chan) (r : TrackRecord) : t.covered c r = s.covered c r := by
  simp only [State.covered, State.segment, State.effective, State.prof, h.segments, h.profile]

theorem recipeOf (h : SameCover s t) (r : TrackRecord) : t.recipeOf r = s.recipeOf r := by
  have same : t.recipe = s.recipe := funext fun n => by simp only [State.recipe, h.recipes]
  rw [State.recipeOf, State.recipeOf, same]

/-- The record with an entry number is the same but for its count and its clock. -/
theorem find (h : SameCover s t) {entry : Nat} {r : TrackRecord} (found : s.find entry = some r) :
    ∃ q, t.find entry = some q ∧ q.bare = r.bare := by
  have bare (u : State) : (u.find entry).map TrackRecord.bare =
      (u.track.map TrackRecord.bare).find? fun q => decide (q.entry = entry) := by
    rw [List.find?_map]
    rfl
  have same : (t.find entry).map TrackRecord.bare = some r.bare := by
    rw [bare, h.track, ← bare, found]
    rfl
  exact Option.map_eq_some_iff.1 same

theorem covers (h : SameCover s t) {entry : Nat} {r : TrackRecord} (found : s.find entry = some r) (c : Chan) :
    (t.find entry).any (fun q => decide (0 < t.covered c q)) = decide (0 < s.covered c r) := by
  obtain ⟨q, hq, bare⟩ := h.find found
  rw [hq, Option.any_some, h.covered, ← State.covered_bare s c q, bare, State.covered_bare]

theorem recipe_of_find (h : SameCover s t) {entry : Nat} {r : TrackRecord} (found : s.find entry = some r) :
    (t.find entry).bind t.recipeOf = s.recipeOf r := by
  obtain ⟨q, hq, bare⟩ := h.find found
  rw [hq, Option.bind_some, h.recipeOf, ← State.recipeOf_bare s q, bare, State.recipeOf_bare]

/-- The Allocation Engine reads the same (R84 to R94). -/
theorem allocate (h : SameCover s t) (ramps : t.ramps = s.ramps) (mode : t.mode = s.mode) {c : Chan}
    (index : (t.chan c).index = (s.chan c).index) {g : Nat} {r : TrackRecord} (found : s.find g = some r)
    (timing : Timing) (kind : PeriodKind) : t.allocate c g timing kind = s.allocate c g timing kind := by
  have list (u : State) : (u.candidates c).map (u.contributor c) =
      ((u.track.map TrackRecord.bare).filter fun q => decide (0 < u.covered c q) && q.recipe.isSome).map
        (u.contributor c) := by
    rw [List.filter_map, List.map_map]
    rfl
  have contributor : t.contributor c = s.contributor c := funext fun q => by
    simp only [State.contributor, State.coveredArea, State.effective, State.prof, State.segment, h.covered, h.recipeOf,
      h.segments, h.profile, mode]
  have contributors : (t.candidates c).map (t.contributor c) = (s.candidates c).map (s.contributor c) := by
    rw [list, list, contributor, h.track]
    simp only [h.covered]
  have ramp : t.rampOf g = s.rampOf g := by
    unfold State.rampOf
    rw [h.recipe_of_find found, found, Option.bind_some]
    simp only [State.ramp, ramps]
  have segment : t.segment c = s.segment c := by rw [State.segment, State.segment, h.segments]
  simp only [State.allocate, contributors, ramp, index, segment, mode]

end SameCover

/-! ### The boundary -/

theorem SameCover.begins (s : State) (c : Chan) (g : Nat) (timing : Timing) (index : Int) :
    SameCover s (s.begins c g timing index).state := by
  refine of_map (fun r => ?_) rfl rfl rfl rfl
  exact TrackRecord.bare_ite rfl

theorem SameCover.ruled (s : State) (c : Chan) : SameCover s (s.ruled c).state := by
  have same (r : TrackRecord) : (id r).bare = r.bare := rfl
  unfold State.ruled
  split <;> exact of_map same rfl rfl rfl (List.map_id _).symm

theorem State.chan_of_set {s t : State} {c d : Chan} {ch : Channel} (h : t.channels = s.channels.set c ch) (hd : d ≠ c) :
    t.chan d = s.chan d := by
  have : (c : Nat) ≠ d := fun e => hd (Fin.ext e.symm)
  simp [State.chan, h, this]

theorem State.chan_of_set_same {s t : State} {c : Chan} {ch : Channel} (h : t.channels = s.channels.set c ch) :
    t.chan c = ch := by simp [State.chan, h]

theorem State.begins_chan_other (s : State) {c d : Chan} (hd : d ≠ c) (g : Nat) (timing : Timing) (index : Int) :
    (s.begins c g timing index).state.chan d = s.chan d := State.chan_of_set rfl hd

theorem State.ruled_chan_other (s : State) {c d : Chan} (hd : d ≠ c) : (s.ruled c).state.chan d = s.chan d := by
  unfold State.ruled
  split <;> exact State.chan_of_set rfl hd

/-- What the boundary of the record `entry` makes of a channel, where `s` is the line as it was (R66). -/
def State.meets (s : State) (entry : Nat) (r : TrackRecord) (timing : Timing) (c : Chan) (t : State) : Effects :=
  if (s.chan c).period ≠ .align entry then t.quiet
  else if 0 < s.covered c r then t.begins c entry timing (min ((s.chan c).index + 1) 16)
  else t.ruled c

/-- In the middle of a boundary: coverage reads as before it, and the channels still to come stand as they stood. -/
def State.MidBoundary (s : State) (l : List Chan) (t : State) : Prop :=
  l.Nodup ∧ SameCover s t ∧ ∀ d ∈ l, t.chan d = s.chan d

section
variable {s : State} {entry : Nat} {r : TrackRecord} {rec : Recipe}

theorem LeavesLinks.meets (c : Chan) : LeavesLinks (s.meets entry r rec.timing c) := by
  intro t
  unfold State.meets
  split
  · exact LeavesLinks.quiet t
  · split
    · exact LeavesLinks.begins c entry _ _ t
    · exact LeavesLinks.ruled c t

theorem State.MidBoundary.meets {c : Chan} {l : List Chan} {t : State} (h : s.MidBoundary (c :: l) t) :
    s.MidBoundary l (s.meets entry r rec.timing c t).state := by
  obtain ⟨nodup, cover, chans⟩ := h
  obtain ⟨fresh, nodup⟩ := List.nodup_cons.1 nodup
  have ne {d : Chan} (hd : d ∈ l) : d ≠ c := fun e => fresh (e ▸ hd)
  refine ⟨nodup, ?_⟩
  unfold State.meets
  split
  · exact ⟨cover, fun d hd => chans d (List.mem_cons_of_mem _ hd)⟩
  · split
    · exact ⟨cover.trans (.begins ..),
        fun d hd => (State.begins_chan_other _ (ne hd) ..).trans (chans d (List.mem_cons_of_mem _ hd))⟩
    · exact ⟨cover.trans (.ruled ..),
        fun d hd => (State.ruled_chan_other _ (ne hd)).trans (chans d (List.mem_cons_of_mem _ hd))⟩

/-- One channel meets the boundary (R66). -/
theorem boundary_turn (found : s.find entry = some r) (recipe : s.recipeOf r = some rec)
    (running : ∀ d, (s.chan d).period = .align entry → (s.chan d).state = .running)
    {c : Chan} {l : List Chan} {e : Effects} (h : s.MidBoundary (c :: l) e.state) :
    (if (e.live.chan c).period = .align entry then e.live.alignEnds c entry else e.live) =
      (e.andThen (s.meets entry r rec.timing c)).live := by
  obtain ⟨-, cover, chans⟩ := h
  have chan : e.state.chan c = s.chan c := chans c List.mem_cons_self
  rw [show e.live.chan c = e.state.chan c from rfl, chan]
  by_cases awaits : (s.chan c).period = .align entry
  · rw [if_pos awaits, State.alignEnds]
    change (if (e.state.find entry).any (fun q => decide (0 < e.state.covered c q)) = true then _ else _) = _
    rw [cover.covers found]
    by_cases covered : 0 < s.covered c r
    · have index : indexAfter .normal (e.state.chan c).state (e.state.chan c).index = min ((s.chan c).index + 1) 16 := by
        rw [chan, running c awaits]
        rfl
      rw [if_pos (decide_eq_true covered),
        startPeriod_live e c ((cover.recipe_of_find found).trans recipe) index]
      exact congrArg Effects.live (Effects.andThen_congr (by simp [State.meets, awaits, covered]))
    · rw [if_neg (by simpa using covered), takeRule_live]
      exact congrArg Effects.live (Effects.andThen_congr (by simp [State.meets, awaits, covered]))
  · rw [if_neg awaits, Effects.andThen_congr (g := State.quiet) (by simp [State.meets, awaits]),
      Effects.andThen_quiet_self]

end

/-- The line after the phase clock of a record has been put (R59). -/
def State.clockPut (s : State) (entry : Nat) (k : PhaseClock) : State :=
  { s with track := s.track.map fun t => if t.entry = entry then { t with clock := some k } else t }

theorem SameCover.clockPut (s : State) (entry : Nat) (k : PhaseClock) : SameCover s (s.clockPut entry k) := by
  refine of_map (fun r => ?_) rfl rfl rfl rfl
  exact TrackRecord.bare_ite rfl

/-- The boundary of a record as parts of an event, channel by channel (R59, R66; log 15). -/
theorem passBoundary_live {s : State} {r : TrackRecord} {rec : Recipe} (found : s.find r.entry = some r)
    (recipe : s.recipeOf r = some rec)
    (running : ∀ d, (s.chan d).period = .align r.entry → (s.chan d).state = .running) (k : PhaseClock) :
    s.passBoundary r.entry k rec.timing =
      ((s.clockPut r.entry ⟨.fwd, rec.timing.fwd, periodsAfter k.periods⟩).quiet.each Chan.all
        (s.meets r.entry r rec.timing)).live := by
  have start : s.MidBoundary Chan.all (s.clockPut r.entry ⟨.fwd, rec.timing.fwd, periodsAfter k.periods⟩) :=
    ⟨Chan.all_nodup, .clockPut .., fun _ _ => rfl⟩
  rw [← Effects.live_each_of (P := s.MidBoundary)
    (step := fun t c => if (t.chan c).period = .align r.entry then t.alignEnds c r.entry else t) (fun c l e h => ⟨boundary_turn found recipe running h, h.meets⟩) Chan.all _ start, State.quiet_live]
  rfl

/-- The boundary of a record that one channel alone awaits is that channel's part. -/
theorem State.meets_single {s : State} {entry : Nat} {r : TrackRecord} {timing : Timing} {c : Chan}
    (alone : ∀ d, (s.chan d).period = .align entry ↔ d = c) (t : State) :
    t.quiet.each Chan.all (s.meets entry r timing) = s.meets entry r timing c t := by
  have quiet (d : Chan) (hd : d ≠ c) (u : State) : s.meets entry r timing d u = u.quiet :=
    if_pos fun h => hd ((alone d).1 h)
  rw [Effects.each_single quiet _ _ Chan.all_nodup, if_pos (Chan.mem_all c)]
  rfl

/-- Settles O16: the boundary is the channels' parts one after another, and one awaiting channel's part alone. -/
theorem boundaryStartsPeriod : Obligations.BoundaryStartsPeriod := by
  unfold Obligations.BoundaryStartsPeriod
  intro s r k rec h found here clock recipe last running next clocked meets
  have runs : (s.find r.entry).bind s.runningClock = some (k, rec.timing) := by
    rw [found, Option.bind_some, State.runningClock_eq here clock recipe]
  have live := passBoundary_live found recipe running k
  have settled : clocked.settled = true := h
  have ends : exec (.phaseBoundary r.entry) s = .next (clocked.quiet.each Chan.all meets).ended := by
    change done (s.phaseBoundaryComes r.entry) = _
    rw [State.phaseBoundaryComes_eq runs, if_pos last]
    have links := LeavesLinks.each (f := s.meets r.entry r rec.timing) LeavesLinks.meets Chan.all clocked.quiet
    exact done_live (State.settled_of_links settled links.1 links.2) live
  refine ⟨ends, ?_, fun c alone => ?_⟩
  · change done (s.phaseIntervalEnds r.entry) = done (s.phaseBoundaryComes r.entry)
    rw [State.phaseIntervalEnds_last runs last, State.phaseBoundaryComes_eq runs, if_pos last]
  · have awaits : (s.chan c).period = .align r.entry := (alone c).2 rfl
    have single : clocked.quiet.each Chan.all meets = meets c clocked := State.meets_single alone clocked
    rw [ends, single]
    refine ⟨fun covered => ?_, fun covered => ?_⟩
    · simp only [meets, awaits, covered, ne_eq, not_true_eq_false, if_false, lt_irrefl]
    · have cover : SameCover s clocked := .clockPut ..
      have same (kind : PeriodKind) : clocked.allocate c r.entry rec.timing kind = s.allocate c r.entry rec.timing kind :=
        cover.allocate rfl rfl rfl found _ _
      have starts : meets c clocked = clocked.begins c r.entry rec.timing (min ((s.chan c).index + 1) 16) := by
        simp only [meets, awaits, covered, ne_eq, not_true_eq_false, if_false, if_true]
      rw [starts, State.begins_ended settled]
      intro due kind p ch
      unfold State.periodStarted State.begins
      dsimp only
      rw [same]
      simp only [clocked, List.map_map]
      rfl

end Sys2Proof.Machine
end

section
/-! PROOFS. The end of a channel's period, under a governor or in a drain (R65, R74); O17 and O18. -/

namespace Sys2Proof.Machine

/-! ### The orders of one event, channel by channel (R100) -/

theorem flatMap_single [DecidableEq α] {a : α} (x : List β) : ∀ {l : List α}, l.Nodup →
    (l.flatMap fun b => if b = a then x else []) = if a ∈ l then x else []
  | [], _ => by simp
  | b :: l, nodup => by
    obtain ⟨fresh, nodup⟩ := List.nodup_cons.1 nodup
    rw [List.flatMap_cons, flatMap_single x nodup]
    by_cases h : b = a
    · subst h
      simp [fresh]
    · have : a ≠ b := fun k => h k.symm
      simp [h, this]

theorem filter_ordersTo (c d : Chan) (l : List OrderBody) :
    ((ordersTo d l).filter fun o => o.channel = c) = if d = c then ordersTo c l else [] := by
  unfold ordersTo
  by_cases h : d = c
  · subst h
    simp
  · simp [List.filter_map, h]

/-- Orders that stand channel by channel stay in their order. -/
theorem sortOrders_byChannel (f : Chan → List OrderBody) :
    sortOrders (Chan.all.flatMap fun c => ordersTo c (f c)) = Chan.all.flatMap fun c => ordersTo c (f c) := by
  unfold sortOrders
  refine List.flatMap_congr fun c _ => ?_
  have own : (fun d => (ordersTo d (f d)).filter fun o => o.channel = c) =
      fun d => if d = c then ordersTo c (f c) else [] := by
    funext d
    rw [filter_ordersTo]
    by_cases h : d = c
    · rw [if_pos h, if_pos h, h]
    · rw [if_neg h, if_neg h]
  rw [List.filter_flatMap, own, flatMap_single _ Chan.all_nodup, if_pos (Chan.mem_all c)]

@[simp] theorem sortOrders_ordersTo (c : Chan) (l : List OrderBody) : sortOrders (ordersTo c l) = ordersTo c l := by
  have own : (Chan.all.flatMap fun d => ordersTo d (if d = c then l else [])) = ordersTo c l := by
    have split : (fun d => ordersTo d (if d = c then l else [])) = fun d => if d = c then ordersTo c l else [] := by
      funext d
      by_cases h : d = c
      · rw [if_pos h, if_pos h, h]
      · rw [if_neg h, if_neg h]
        rfl
    rw [split, flatMap_single _ Chan.all_nodup, if_pos (Chan.mem_all c)]
  rw [← own, sortOrders_byChannel]

theorem State.issued_ordersTo (s : State) (c : Chan) (l : List OrderBody) :
    s.issued (ordersTo c l) = s.sent (ordersTo c l) := by
  rw [State.issued, sortOrders_ordersTo]

/-! ### A channel alone -/

section
variable {s : State}

/-- An event that is one channel's new record and the orders to it. -/
theorem putChannel_ended (h : s.settled = true) (c : Chan) (f : Channel → Channel × List OrderBody) :
    (State.putChannel c f s).ended =
      ({ s with channels := s.withChan c (f (s.chan c)).1 }.sent (ordersTo c (f (s.chan c)).2)) := by
  rw [Effects.ended_of_noNotices ((LeavesLinks.putChannel c f).settled h) rfl]
  exact State.issued_ordersTo ..

/-- The line after a channel has entered READY (R61, R63, R80): the lone Zero Order that then falls due, and its start
occasion. -/
def State.readiedEnd (s : State) (c : Chan) : State :=
  let x := (s.chan c).readied
  let t := State.runsStarted { s with channels := s.withChan c x.1 } [c]
  (t.sent (ordersTo c x.2)).raised (monitorNotice s.monitor t.monitor)

theorem done_toReady (h : s.settled = true) (c : Chan) : done (s.toReady c) = .next (s.readiedEnd c) := by
  have live : s.toReady c = (s.quiet.andThen fun t =>
      (State.putChannel c Channel.readied t).andThen (State.started [c])).live := by
    rw [← Effects.andThen_assoc, ← toReady_live, State.quiet_live]
  rw [LeavesLinks.done ((LeavesLinks.putChannel c _).andThen (LeavesLinks.started [c])) h live]
  unfold State.readiedEnd Effects.ended
  simp [State.putChannel, State.started, State.issued_ordersTo, State.withChan]

/-- A period that starts, and nothing else (R64). -/
theorem done_startPeriod (h : s.settled = true) (c : Chan) {g : Nat} {r : TrackRecord} {rec : Recipe} {index : Int}
    (found : s.find g = some r) (recipe : s.recipeOf r = some rec)
    (hi : indexAfter .normal (s.chan c).state (s.chan c).index = index) :
    done (s.startPeriod c g) = .next (s.periodStarted c g rec.timing index) := by
  have runs : (s.find g).bind s.recipeOf = some rec := by rw [found, Option.bind_some, recipe]
  have live : s.startPeriod c g = (s.quiet.andThen fun t => t.begins c g rec.timing index).live := by
    rw [← startPeriod_live s.quiet c runs hi, State.quiet_live]
  rw [(LeavesLinks.begins c g rec.timing index).done h live, State.begins_ended h]

theorem done_takeRule_none (h : s.settled = true) (c : Chan) :
    done (s.takeRule c none) = .next (s.ruled c).ended :=
  (LeavesLinks.ruled c).done h (by rw [← takeRule_live, State.quiet_live])

/-- With another governor than that of the period that ended, or none, the rule's outcome is that of no period. -/
theorem State.takeRule_other {c : Chan} {g : Nat} (h : s.governorRule c ≠ some g) :
    s.takeRule c (some g) = s.takeRule c none := by
  unfold State.takeRule
  split
  · rfl
  · rename_i k found
    have : g ≠ k := fun e => h (e ▸ found)
    simp [this]

theorem State.takeRule_same {c : Chan} {g : Nat} (h : s.governorRule c = some g) :
    s.takeRule c (some g) = s.startPeriod c g := by
  simp [State.takeRule, h]

end

/-! ### The end of a period (R65) -/

/-- The channel after its period has ended: the report window open with the whole intervals in its close note (R103,
R128). -/
def Channel.ended (ch : Channel) (p : InFlight) : Channel :=
  { ch with
    period := .idle
    windows := ch.windows ++
      [⟨p.tag, 20, .period p.record ⟨false, p.record.timing.fwd, p.record.timing.rev, ch.stale⟩ p.zeroRequest⟩] }

/-- The line after a channel's period has ended, before what follows. -/
def State.periodClosed (s : State) (c : Chan) (p : InFlight) : State :=
  { s with channels := s.withChan c ((s.chan c).ended p) }

section
variable {s : State} {c : Chan} {p : InFlight}

theorem State.periodClosed_chan (s : State) (c : Chan) (p : InFlight) :
    (s.periodClosed c p).chan c = (s.chan c).ended p := State.chan_set_same ..

theorem State.updChan_closed (hp : (s.chan c).period = .delivering p) :
    s.updChan c (Channel.closed false) = s.periodClosed c p := by
  rw [State.updChan_withChan, State.periodClosed]
  simp only [Channel.closed, hp]
  rfl

theorem exec_periodEnd_running (hp : (s.chan c).period = .delivering p)
    (last : (s.chan c).timing.next? p.interval = none) (hs : (s.chan c).state = .running) :
    exec (.periodEnd c) s = done ((s.periodClosed c p).takeRule c (some p.record.governor)) := by
  change done (s.periodEnds c) = _
  have state : ((s.periodClosed c p).chan c).state = .running := by rw [State.periodClosed_chan]; exact hs
  rw [State.periodEnds_eq hp, if_pos last, State.endPeriod, State.updChan_closed hp]
  simp only [state]

theorem exec_periodEnd_draining (hp : (s.chan c).period = .delivering p)
    (last : (s.chan c).timing.next? p.interval = none) {d : Destination} (hs : (s.chan c).state = .draining d) :
    exec (.periodEnd c) s = done ((s.periodClosed c p).stepDrain c d p.record.governor) := by
  change done (s.periodEnds c) = _
  have state : ((s.periodClosed c p).chan c).state = .draining d := by rw [State.periodClosed_chan]; exact hs
  rw [State.periodEnds_eq hp, if_pos last, State.endPeriod, State.updChan_closed hp]
  simp only [state]

end

/-- Settles O17: the three outcomes of the governor rule on the line with the period closed. -/
theorem periodEnds : Obligations.PeriodEnds := by
  unfold Obligations.PeriodEnds
  intro s c p h hs hp last ch note closed aligned
  have chan : (s.periodClosed c p).chan c = closed := State.periodClosed_chan s c p
  have settled : (s.periodClosed c p).settled = true := h
  have ends := exec_periodEnd_running hp last hs
  refine ⟨fun no => ?_, fun g rule other => ?_, fun r rec rule found recipe => ?_⟩
  · have no' : (s.periodClosed c p).governorRule c = none := no
    have ruled : (s.periodClosed c p).ruled c = State.putChannel c Channel.readied (s.periodClosed c p) := by
      simp [State.ruled, no', State.putChannel]
    rw [ends, State.takeRule_other (by simp [no']), done_takeRule_none settled, ruled, putChannel_ended settled, chan]
    simp [State.periodClosed, State.withChan]
  · have rule' : (s.periodClosed c p).governorRule c = some g := rule
    rw [ends, State.takeRule_other (by simp [rule', other]), done_takeRule_none settled,
      Effects.ended_of_noOrders ((LeavesLinks.ruled c).settled settled) (by simp [State.ruled, rule'])]
    simp only [State.ruled, rule', chan, State.sample_monitor]
    simp [State.periodClosed, State.withChan, aligned]
  · rw [ends, State.takeRule_same (by exact rule), done_startPeriod settled c (by exact found) (by exact recipe) ?_]
    · rfl
    · rw [chan]
      change indexAfter .normal (s.chan c).state (s.chan c).index = _
      rw [hs]
      rfl

/-! ### Drains (R74, R115) -/

/-- Entry into DORMANT from a closed contactor, the end of an ARMING an occasion of the arbiter (R98, R109, R112). -/
theorem toDormant_live (e : Effects) (c : Chan) : e.live.toDormant c =
    ((e.andThen (State.putChannel c (Channel.retired e.state.prof.contactorRest))).andThen fun t =>
      if (e.state.chan c).state.isArming then t.arbitratedFor c else t.quiet).live := by
  have retires : (e.live.order c .disarm).updChan c (fun ch =>
      { ch.periodCleared.zeroed with
        state := .dormant, contactorClosed := false, rest := some e.state.prof.contactorRest }) =
      (e.andThen (State.putChannel c (Channel.retired e.state.prof.contactorRest))).live := by
    rw [order_live, State.updChan_live]
    simp [Effects.andThen, State.putChannel, Channel.retired, ordersTo]
    rfl
  unfold State.toDormant
  change (if (e.state.chan c).state.isArming = true then State.arbiterOf _ c else _) = _
  rw [show e.live.prof = e.state.prof from rfl, retires]
  cases (e.state.chan c).state.isArming with
  | false => simp [Effects.andThen]
  | true => exact arbiterOf_live _ c

section
variable {s : State} {c : Chan} {p : InFlight}

theorem done_toDormant (h : s.settled = true) (out : (s.chan c).state.isArming = false) :
    done (s.toDormant c) = .next
      { s with
        channels := s.withChan c ((s.chan c).retired s.prof.contactorRest).1
        moduleLink := s.moduleLink.ordering [⟨c, .disarm⟩] } := by
  have live : s.toDormant c = (s.quiet.andThen (State.putChannel c (Channel.retired s.prof.contactorRest))).live := by
    have := toDormant_live s.quiet c
    simp only [State.quiet_live, State.quiet_state, out, Bool.false_eq_true, if_false, Effects.andThen_quiet_self] at this
    exact this
  rw [(LeavesLinks.putChannel c _).done h live, Effects.ended_of_noNotices ((LeavesLinks.putChannel c _).settled h) rfl]
  exact congrArg _ (State.issued_order (by simp))

/-- A drain with a step remaining, under the same governor (R74). -/
theorem State.stepDrain_steps {d : Destination} {g : Nat} (index : 0 ≤ (s.chan c).index)
    (rule : s.governorRule c = some g) : s.stepDrain c d g = s.startPeriod c g := by
  rw [State.stepDrain, if_neg (by omega), if_pos rule]

theorem State.stepDrain_ends {d : Destination} {g : Nat} (h : (s.chan c).index < 0 ∨ s.governorRule c ≠ some g) :
    s.stepDrain c d g = s.drainEnds c d := by
  unfold State.stepDrain
  split
  · rfl
  · rw [if_neg (h.resolve_left ‹_›)]

/-- The line with a free ramp index taken for a channel (log 7). -/
def State.freeIndexed (s : State) (c : Chan) : State :=
  { s with
    channels := s.withChan c { s.chan c with index := (Config.openRampIndex s.freeCount).val }
    freeCount := s.freeCount + 1 }

theorem State.freeIndexed_chan (s : State) (c : Chan) :
    (s.freeIndexed c).chan c = { s.chan c with index := (Config.openRampIndex s.freeCount).val } :=
  State.chan_set_same s c _

/-- A drain that leaves a number ends in READY with it as the ramp index (R61). -/
theorem State.drainEnds_ready (h : 0 ≤ (s.chan c).index) : s.drainEnds c .ready = s.toReady c :=
  if_neg (by omega)

/-- A drain whose index no ramp index is ends in READY with a free one (log 7). -/
theorem State.drainEnds_free (h : (s.chan c).index < 0) : s.drainEnds c .ready = (s.freeIndexed c).toReady c :=
  if_pos h

end

/-- Settles O18: the next draining period, or the entry into the drain's destination, on the line with the period
closed. -/
theorem drainEnds : Obligations.DrainEnds := by
  unfold Obligations.DrainEnds
  intro s c p d h hs hp last ch note closed ends ready
  have chan : (s.periodClosed c p).chan c = closed := State.periodClosed_chan s c p
  have settled : (s.periodClosed c p).settled = true := h
  have step := exec_periodEnd_draining hp last hs
  have finishes (he : ends) : ((s.periodClosed c p).chan c).index < 0 ∨
      (s.periodClosed c p).governorRule c ≠ some p.record.governor := by rw [chan]; exact he
  refine ⟨fun r rec index rule found recipe => ?_, fun he hd => ?_, fun he hd index => ?_, fun hd index => ?_⟩
  · rw [step, State.stepDrain_steps (by rw [chan]; exact index) (by exact rule),
      done_startPeriod settled c (by exact found) (by exact recipe) ?_]
    · rfl
    · rw [chan]
      change indexAfter .normal (s.chan c).state (s.chan c).index = _
      rw [hs]
      rfl
  · have out : ((s.periodClosed c p).chan c).state.isArming = false := by
      rw [chan]
      change (s.chan c).state.isArming = false
      rw [hs]
      rfl
    rw [step, State.stepDrain_ends (finishes he), hd]
    change done ((s.periodClosed c p).toDormant c) = _
    rw [done_toDormant settled out, chan]
    simp [State.periodClosed, State.withChan, Channel.retired, Channel.blank, closed]
    rfl
  · rw [step, State.stepDrain_ends (finishes he), hd, State.drainEnds_ready (by rw [chan]; exact index),
      done_toReady settled, State.readiedEnd, chan]
    simp [State.periodClosed, State.withChan, ready]
    rfl
  · refine ⟨(Config.openRampIndex s.freeCount).val, by omega, ?_⟩
    rw [step, State.stepDrain_ends (finishes (.inl index)), hd, State.drainEnds_free (by rw [chan]; exact index),
      done_toReady (by exact settled), State.readiedEnd, State.freeIndexed_chan, chan]
    simp [State.periodClosed, State.freeIndexed, State.withChan, ready]

end Sys2Proof.Machine
end

section
/-! PROOFS. The zero timers (R76, R80) and the end of an ARMING in READY (R110); O19 and O22. -/

namespace Sys2Proof.Machine

/-! ### A lone Zero Order (R80, R119) -/

/-- The condition under which a lone Zero Order falls due. -/
theorem Channel.asking_due {ch : Channel} (ready : ch.state = .ready) (due : ch.zero = .due) (retry : ch.retry = none)
    (lone : ch.loneZero = false) : ch.asking =
      ({ ch with tag := (ch.tag + 1) % 256, zero := .attempting, loneZero := true }, [.zero ch.tag]) :=
  if_pos ⟨ready, due, retry, lone⟩

/-- A Zero Order alone: its window opens where the link begins with it (R103; log 9). -/
theorem State.sent_zero (s : State) (c : Chan) (tag : Nat) : s.sent [⟨c, .zero tag⟩] =
    { s with
      channels := s.withChan c
        { s.chan c with
          windows := if s.moduleLink.sending = none then (s.chan c).windows ++ [⟨tag, 20, .zeroOrder⟩]
            else (s.chan c).windows }
      moduleLink := s.moduleLink.ordering [⟨c, .zero tag⟩] } := by
  unfold State.sent State.withChan
  cases s.moduleLink.sending with
  | none => simp
  | some o =>
    simp only [reduceCtorEq, if_false]
    rw [s.set_chan c]

section
variable {s : State} {c : Chan}

theorem done_loneZeroIfDue (h : s.settled = true) (c : Chan) : done (s.loneZeroIfDue c) = .next
    ({ s with channels := s.withChan c (s.chan c).asking.1 }.sent (ordersTo c (s.chan c).asking.2)) := by
  have live : s.loneZeroIfDue c = (s.quiet.andThen (State.putChannel c Channel.asking)).live := by
    rw [← loneZeroIfDue_live, State.quiet_live]
  rw [(LeavesLinks.putChannel c _).done h live, putChannel_ended h]

theorem State.chan_withChan (s : State) (c : Chan) (ch : Channel) :
    ({ s with channels := s.withChan c ch } : State).chan c = ch := State.chan_set_same s c ch

/-- A channel with a new record, on which the lone Zero Order falls due. -/
theorem done_loneZero (h : s.settled = true) (c : Chan) {ch : Channel} (ready : ch.state = .ready)
    (due : ch.zero = .due) (retry : ch.retry = none) (lone : ch.loneZero = false) :
    done (State.loneZeroIfDue { s with channels := s.withChan c ch } c) = .next
      { s with
        channels := s.withChan c
          { ch with
            tag := (ch.tag + 1) % 256
            zero := .attempting
            loneZero := true
            windows := if s.moduleLink.sending = none then ch.windows ++ [⟨ch.tag, 20, .zeroOrder⟩]
              else ch.windows }
        moduleLink := s.moduleLink.ordering [⟨c, .zero ch.tag⟩] } := by
  rw [done_loneZeroIfDue (by exact h), State.chan_withChan, Channel.asking_due ready due retry lone]
  change Host.Outcome.next (State.sent _ [⟨c, .zero ch.tag⟩]) = _
  rw [State.sent_zero]
  simp [State.withChan, State.chan]

theorem State.loneZeroIfDue_not_ready (h : (s.chan c).state ≠ .ready) : s.loneZeroIfDue c = s :=
  if_neg fun k => h k.1

/-- The zero timer's expiry, on the line where it has (R76). -/
theorem State.zeroTimerEnds_eq (h : (s.chan c).zeroTimer.isSome = true) : s.zeroTimerEnds c =
    State.loneZeroIfDue { s with channels := s.withChan c { s.chan c with zeroTimer := none, zero := .due } } c :=
  if_pos h

theorem State.retryEnds_eq (h : (s.chan c).retry.isSome = true) : s.retryEnds c =
    State.loneZeroIfDue { s with channels := s.withChan c { s.chan c with retry := none } } c :=
  if_pos h

end

/-- Settles O19: each timer stopped, or run out with the lone Zero Order that then falls due. -/
theorem zeroTimersExpire : Obligations.ZeroTimersExpire := by
  unfold Obligations.ZeroTimersExpire
  intro s c h ch sent ordered
  refine ⟨fun stopped => ?_, fun stopped => ?_, fun runs out => ?_, fun runs ready retry lone => ?_,
    fun runs ready due lone => ?_⟩
  · have stays : s.zeroTimerEnds c = s := if_neg (by simpa using stopped)
    change done (s.zeroTimerEnds c) = _
    rw [stays]
    exact done_of_links h rfl rfl
  · have stays : s.retryEnds c = s := if_neg (by simpa using stopped)
    change done (s.retryEnds c) = _
    rw [stays]
    exact done_of_links h rfl rfl
  · change done (s.zeroTimerEnds c) = _
    rw [State.zeroTimerEnds_eq runs, State.loneZeroIfDue_not_ready (by rw [State.chan_withChan]; exact out)]
    exact done_of_links h rfl rfl
  · change done (s.zeroTimerEnds c) = _
    rw [State.zeroTimerEnds_eq runs]
    exact done_loneZero h c (ch := { ch with zeroTimer := none, zero := .due }) ready rfl retry lone
  · change done (s.retryEnds c) = _
    rw [State.retryEnds_eq runs]
    exact done_loneZero h c (ch := { ch with retry := none }) ready due rfl lone

/-! ### Arm reports (R110) -/

/-- The channel after an ARMING that ends in READY with its lone Zero Order (R76, R80, R110). -/
def Channel.armedAlone (ch : Channel) : Channel :=
  { ch with
    state := .ready
    forward := 0
    reverse := 0
    period := .idle
    stale := false
    tag := (ch.tag + 1) % 256
    zero := .attempting
    loneZero := true }

section
variable {s : State} {c : Chan}

/-- What an arm report without a fault code makes of an ARMING (R109, R110): READY, its start occasion, the arbiter. -/
def State.armEnds (s : State) (c : Chan) : Effects :=
  let x := Channel.readied { s.chan c with zero := .due, stale := false }
  ((Effects.mk { s with channels := s.withChan c x.1 } (ordersTo c x.2) []).andThen (State.started [c])).andThen
    fun t => t.arbitratedFor c

theorem State.armEnds_settled (h : s.settled = true) (c : Chan) : (s.armEnds c).state.settled = true :=
  ((LeavesLinks.started [c]).andThen (LeavesLinks.arbitratedFor c)).settled
    (s := { s with channels := s.withChan c (Channel.readied { s.chan c with zero := .due, stale := false }).1 }) h

theorem State.takeArmReport_ready (arming : (s.chan c).state.isArming = true) (out : ⟨c, .arm⟩ ∉ s.moduleLink.waiting) :
    s.takeArmReport c 0 = (s.armEnds c).live := by
  have unsent : s.unsent c .arm = false := by rw [← Bool.not_eq_true, State.unsent_iff]; exact out
  let due : State := { s with channels := s.withChan c { s.chan c with state := .ready, zero := .due, stale := false } }
  have chan : due.chan c = { s.chan c with state := .ready, zero := .due, stale := false } := State.chan_set_same s c _
  have readied : due.quiet.andThen (State.putChannel c Channel.readied) =
      ⟨{ s with channels := s.withChan c (Channel.readied { s.chan c with zero := .due, stale := false }).1 },
        ordersTo c (Channel.readied { s.chan c with zero := .due, stale := false }).2, []⟩ := by
    simp only [Effects.andThen, State.putChannel, State.quiet_state, chan]
    simp [due, State.withChan, Channel.readied]
  have taken : s.takeArmReport c 0 = (due.quiet.live.toReady c).arbiterOf c := by
    simp only [State.takeArmReport, arming, unsent, State.quiet_live]
    rfl
  rw [taken, toReady_live, arbiterOf_live, readied]
  rfl

/-- An arm report that no order awaits (R101, R104, R111; log 36). -/
theorem State.takeArmReport_discarded {code : Nat} (h : (s.chan c).state.isArming = false ∨ ⟨c, .arm⟩ ∈ s.moduleLink.waiting)
    (present : (s.chan c).state ≠ .faulted .moduleAbsent) : s.takeArmReport c code = s.heard c := by
  have passed : ((s.chan c).state.isArming && !s.unsent c .arm) = false := by
    rcases h with h | h
    · rw [h, Bool.false_and]
    · rw [(s.unsent_iff c .arm).2 h, Bool.not_true, Bool.and_false]
  rw [State.takeArmReport, if_neg (by simp [passed]), if_neg present]

theorem State.takeArmReport_absent {code : Nat} (h : (s.chan c).state = .faulted .moduleAbsent) :
    s.takeArmReport c code = s := by
  simp [State.takeArmReport, h, ChannelState.isArming]

/-- With none waiting to arm the arbiter finds nobody (R109). -/
theorem State.arbitratedFor_of_none (h : s.allQueued = []) (c : Chan) : s.arbitratedFor c = s.quiet := by
  have queue (g : BusGroup) : (s.group g).queue = [] :=
    List.eq_nil_iff_forall_not_mem.2 fun d hd => by
      have : d ∈ s.allQueued :=
        List.mem_flatMap.2 ⟨s.group g, Vector.mem_toList_iff.2 (Vector.getElem_mem g.isLt), hd⟩
      rw [h] at this
      exact absurd this List.not_mem_nil
  unfold State.arbitratedFor
  split
  · rw [State.arbitrated_eq, State.grantee_none (.inr fun d hd => by simp [queue] at hd)]
  · rfl

/-- A channel with its lone Zero Order outstanding starts no run (R63). -/
theorem State.started_of_lone (h : (s.chan c).loneZero = true) : State.started [c] s = s.quiet := by
  have none : s.runsStarted [c] = s := State.runsStarted_of_none fun d hd => by
    rw [List.mem_singleton.1 hd]
    simp [State.runStarts, h]
  simp [State.started, none, State.quiet]

end

/-- Settles O22: the parts of the end of an ARMING, those of them that are quiet, and the discarded reports. -/
theorem armReportMakesReady : Obligations.ArmReportMakesReady := by
  unfold Obligations.ArmReportMakesReady
  intro s c code n h ch
  have ends (arming : ch.state = .arming n) (out : ⟨c, .arm⟩ ∉ s.moduleLink.waiting) (zero : code = 0) :
      exec (.armReport c code) s = .next (s.armEnds c).ended := by
    have isArming : (s.chan c).state.isArming = true := by rw [show (s.chan c).state = _ from arming]; rfl
    subst zero
    exact done_live (State.armEnds_settled h c) (State.takeArmReport_ready isArming out)
  refine ⟨ends, fun arming out zero retry lone queued => ?_, fun discarded present => ?_, fun absent => ?_⟩
  · rw [ends arming out zero]
    have armEnds : s.armEnds c =
        ⟨{ s with channels := s.withChan c (s.chan c).armedAlone }, [⟨c, .zero ch.tag⟩], []⟩ := by
      have asks : Channel.readied { s.chan c with zero := .due, stale := false } =
          ((s.chan c).armedAlone, [.zero ch.tag]) := Channel.asking_due rfl rfl retry lone
      unfold State.armEnds
      rw [asks]
      dsimp only [Effects.andThen]
      rw [State.started_of_lone (by rw [State.chan_withChan]; rfl), State.quiet_state,
        State.arbitratedFor_of_none (by exact queued)]
      rfl
    rw [armEnds, Effects.ended_of_noNotices (by exact h) rfl, State.issued, sortOrders_single]
    rfl
  · change done (s.takeArmReport c code) = _
    rw [State.takeArmReport_discarded discarded present]
    exact done_of_links h rfl rfl
  · change done (s.takeArmReport c code) = _
    rw [State.takeArmReport_absent absent]
    exact done_of_links h rfl rfl

end Sys2Proof.Machine
end

section
/-! PROOFS. The latching of an interlock input as parts of an event: the DROP, channel by channel, then HOLD and STOP (R160,
R162, R165, R157, R168). -/

namespace Sys2Proof.Machine

/-! ### HOLD -/

/-- A hold cause is added by an event (R154, R157): in RUN the line enters HOLD, with a start occasion of every READY
channel and a LINE_MODE notice. -/
def State.holding (f : HoldCauses → HoldCauses) (s : State) : Effects :=
  match s.mode with
  | .run =>
    let t := State.runsStarted { s with mode := .hold, holdCauses := f s.holdCauses } Chan.all
    ⟨t, [], monitorNotice s.monitor t.monitor ++ [.lineMode]⟩
  | .hold => State.quiet { s with holdCauses := f s.holdCauses }
  | _ => s.quiet

theorem LeavesLinks.holding (f : HoldCauses → HoldCauses) : LeavesLinks (State.holding f) := by
  intro s
  unfold State.holding
  split
  · exact ⟨State.runsStarted_link .., State.runsStarted_moduleLink ..⟩
  · exact ⟨rfl, rfl⟩
  · exact ⟨rfl, rfl⟩

theorem addHoldCause_live (e : Effects) (f : HoldCauses → HoldCauses) :
    e.live.addHoldCause f = (e.andThen (State.holding f)).live := by
  have add (s : State) : s.addHoldCause f = match s.mode with
      | .run => (s.runToHold (f s.holdCauses)).raise .lineMode
      | .hold => { s with holdCauses := f s.holdCauses }
      | _ => s := rfl
  rw [add, show e.live.mode = e.state.mode from rfl, Effects.andThen, State.holding]
  cases e.state.mode with
  | run =>
    let u : Effects := { e with state := { e.state with mode := .hold, holdCauses := f e.state.holdCauses } }
    change State.raise (State.startOccasions u.live) .lineMode = _
    rw [startOccasions_live, raise_live]
    simp [u, Effects.andThen, State.started]
  | hold => simp [Effects.live, State.quiet]
  | boot | offline | standby => simp

/-! ### DROP -/

/-- A latching DROP acts on a channel (R165); a drain to READY takes a free ramp index (log 7). -/
def State.dropping (c : Chan) (s : State) : Effects :=
  let x := (s.chan c).dropped s.prof.contactorRest (Config.openRampIndex s.freeCount).val
  ⟨{ s with
      channels := s.withChan c x.1
      freeCount := s.freeCount + if (s.chan c).state = .draining .ready then 1 else 0 }, ordersTo c x.2, []⟩

theorem LeavesLinks.dropping (c : Chan) : LeavesLinks (State.dropping c) := fun _ => ⟨rfl, rfl⟩

theorem State.inhibited_of_interlocks {s t : State} (h : t.interlocks = s.interlocks) (c : Chan) :
    t.inhibited c = s.inhibited c := by rw [State.inhibited, h, State.inhibited]

theorem State.started_of_inhibited {s : State} {c : Chan} (h : s.inhibited c = true) : State.started [c] s = s.quiet := by
  have none : s.runsStarted [c] = s := State.runsStarted_of_none fun d hd => by
    rw [List.mem_singleton.1 hd]
    simp [State.runStarts, h]
  simp [State.started, none, State.quiet]

/-- An inhibited channel enters READY without a start occasion (R63). -/
theorem toReady_live_of_inhibited {e : Effects} {c : Chan} (h : e.state.inhibited c = true) :
    e.live.toReady c = (e.andThen (State.putChannel c Channel.readied)).live := by
  rw [toReady_live, Effects.andThen_congr (e := e.andThen _) (State.started_of_inhibited (by exact h)),
    Effects.andThen_quiet_self]

theorem Channel.cut_readied (ch : Channel) : ch.cut.1.readied = ch.stopped.1.readied ∧ ch.cut.2 = ch.stopped.2 := by
  unfold Channel.cut Channel.stopped
  cases ch.period <;> exact ⟨rfl, rfl⟩

theorem Channel.cut_retired (rest : Nat) (ch : Channel) : ch.cut.1.retired rest = ch.stopped.1.retired rest := by
  unfold Channel.cut Channel.stopped
  cases ch.period <;> rfl

theorem Channel.readied_index (ch : Channel) (k : Int) :
    Channel.readied { ch with index := k } = ({ ch.readied.1 with index := k }, ch.readied.2) := by
  unfold Channel.readied Channel.asking
  dsimp only
  split <;> rfl

/-- What a latching DROP does to a channel, state by state (R165). -/
theorem Channel.dropped_running {ch : Channel} (h : ch.state = .running) (rest : Nat) (k : Int) : ch.dropped rest k =
    (ch.cut.1.readied.1, ch.cut.2 ++ ch.cut.1.readied.2) := by
  rw [(Channel.cut_readied ch).1, (Channel.cut_readied ch).2]
  simp [Channel.dropped, h]

theorem Channel.dropped_ready {ch : Channel} (h : ch.state = .draining .ready) (rest : Nat) (k : Int) :
    ch.dropped rest k = ((Channel.readied { ch.cut.1 with index := k }).1,
      ch.cut.2 ++ (Channel.readied { ch.cut.1 with index := k }).2) := by
  rw [Channel.readied_index, (Channel.cut_readied ch).1, (Channel.cut_readied ch).2]
  simp [Channel.dropped, h]

theorem Channel.dropped_dormant {ch : Channel} (h : ch.state = .draining .dormant) (rest : Nat) (k : Int) :
    ch.dropped rest k = ((ch.cut.1.retired rest).1, ch.cut.2 ++ (ch.cut.1.retired rest).2) := by
  rw [Channel.cut_retired, (Channel.cut_readied ch).2]
  simp [Channel.dropped, h]

theorem Channel.dropped_other {ch : Channel} (running : ch.state ≠ .running) (draining : ∀ d, ch.state ≠ .draining d)
    (rest : Nat) (k : Int) : ch.dropped rest k = (ch, []) := by
  unfold Channel.dropped
  cases h : ch.state with
  | running => exact absurd h running
  | draining d => exact absurd h (draining d)
  | dormant | arming n | ready | faulted f => rfl

/-- A latching DROP acts on a channel that takes no free ramp index. -/
theorem State.dropping_eq {s : State} {c : Chan} {f : Channel → Channel × List OrderBody}
    (h : (s.chan c).state ≠ .draining .ready)
    (hf : (s.chan c).dropped s.prof.contactorRest (Config.openRampIndex s.freeCount).val = f (s.chan c)) :
    State.dropping c s = State.putChannel c f s := by
  rw [State.dropping, hf, if_neg h]
  rfl

/-- A latching DROP acts on a channel that it inhibits (R165). -/
theorem dropChannel_live {e : Effects} {c : Chan} (h : e.state.inhibited c = true) :
    e.live.dropChannel c = (e.andThen (State.dropping c)).live := by
  let cut := e.andThen (State.putChannel c Channel.cut)
  have chan : cut.state.chan c = (e.state.chan c).cut.1 := State.chan_set_same ..
  unfold State.dropChannel
  rw [show e.live.chan c = e.state.chan c from rfl]
  cases hs : (e.state.chan c).state with
  | running =>
    dsimp only
    rw [truncate_live, toReady_live_of_inhibited (by exact h), Effects.putChannel_putChannel]
    exact congrArg Effects.live (Effects.andThen_congr
      (State.dropping_eq (by simp [hs]) (Channel.dropped_running hs _ _)).symm)
  | draining d =>
    cases d with
    | ready =>
      let k : Int := (Config.openRampIndex e.state.freeCount).val
      let counted : Effects := { cut with state := { cut.state with freeCount := cut.state.freeCount + 1 } }
      dsimp only
      rw [truncate_live]
      change (counted.live.updChan c fun ch => { ch with index := k }).toReady c = _
      rw [State.updChan_live, toReady_live_of_inhibited (by exact h), Effects.putChannel_putChannel]
      refine congrArg Effects.live ?_
      simp only [Effects.andThen, State.dropping, Channel.dropped_ready hs, if_pos hs]
      simp [State.putChannel, State.chan, State.withChan, ordersTo, counted, cut, Effects.andThen, k]
    | dormant =>
      have out : (cut.state.chan c).state.isArming = false := by
        have : (e.state.chan c).cut.1.state = (e.state.chan c).state := by
          unfold Channel.cut Channel.stopped
          cases (e.state.chan c).period <;> rfl
        rw [chan, this, hs]
        rfl
      dsimp only
      rw [truncate_live, toDormant_live]
      simp only [out, cut, Bool.false_eq_true, if_false]
      rw [Effects.andThen_quiet_self, Effects.putChannel_putChannel]
      exact congrArg Effects.live (Effects.andThen_congr
        (State.dropping_eq (by simp [hs]) (Channel.dropped_dormant hs _ _)).symm)
  | dormant | arming n | ready | faulted k =>
    simp [Effects.andThen, State.dropping, Channel.dropped, hs, State.withChan, State.set_chan, ordersTo]

end Sys2Proof.Machine
end

section
/-! PROOFS. The latching of an interlock input as a whole (R162); O26. -/

namespace Sys2Proof.Machine

/-! ### The DROP over its scope -/

/-- What a latching DROP makes of a channel, where `hit` says which it reaches and `index` is the ramp index left after a
drain to READY. -/
def State.dropsOn (s : State) (hit : Chan → Bool) (index : Chan → Fin 17) (c : Chan) : Channel × List OrderBody :=
  if hit c then (s.chan c).dropped s.prof.contactorRest (index c).val else (s.chan c, [])

/-- The channels, those of a list dropped. -/
def State.channelsDropped (s : State) (l : List Chan) (index : Chan → Fin 17) : Vector Channel 40 :=
  Vector.ofFn fun c : Fin 40 => (s.dropsOn (fun d => decide (d ∈ l)) index c).1

/-- The orders to the channels of a list that is dropped. -/
def State.dropOrders (s : State) (l : List Chan) (index : Chan → Fin 17) : List Order :=
  l.flatMap fun c => ordersTo c (s.dropsOn (fun d => decide (d ∈ l)) index c).2

/-- How many of a list are DRAINING to READY. -/
def State.drainCount (s : State) (l : List Chan) : Nat :=
  (l.filter fun c => decide ((s.chan c).state = .draining .ready)).length

/-- The channels of a list, dropped. -/
def Effects.drops (e : Effects) (l : List Chan) (index : Chan → Fin 17) : Effects :=
  ⟨{ e.state with
      channels := e.state.channelsDropped l index
      freeCount := e.state.freeCount + e.state.drainCount l },
    e.orders ++ e.state.dropOrders l index, e.notices⟩

/-- One channel dropped, then a list, is the longer list. -/
theorem Effects.drops_cons {c : Chan} {l : List Chan} (fresh : c ∉ l) (e : Effects) (index : Chan → Fin 17) :
    (e.andThen (State.dropping c)).drops l index =
      e.drops (c :: l) (Function.update index c (Config.openRampIndex e.state.freeCount)) := by
  have ne {d : Chan} (hd : d ∈ l) : d ≠ c := fun k => fresh (k ▸ hd)
  let u := (State.dropping c e.state).state
  let index' : Chan → Fin 17 := Function.update index c (Config.openRampIndex e.state.freeCount)
  have own : u.dropsOn (fun d => decide (d ∈ l)) index c =
      ((e.state.dropsOn (fun d => decide (d ∈ c :: l)) index' c).1, []) := by
    have chan : u.chan c = _ := State.chan_of_set_same rfl
    simp [State.dropsOn, fresh, chan, index']
  have other {d : Chan} (hd : d ≠ c) : u.dropsOn (fun d => decide (d ∈ l)) index d =
      e.state.dropsOn (fun d => decide (d ∈ c :: l)) index' d := by
    have chan : u.chan d = e.state.chan d := State.chan_of_set rfl hd
    have prof : u.prof = e.state.prof := rfl
    simp only [State.dropsOn, chan, prof, index', Function.update_of_ne hd, List.mem_cons, hd, false_or]
  have channels : u.channelsDropped l index = e.state.channelsDropped (c :: l) index' := by
    refine State.channels_ext fun d => ?_
    by_cases hd : d = c
    · subst hd
      simp [State.channelsDropped, own]
    · simp [State.channelsDropped, other hd]
  have orders : (State.dropping c e.state).orders ++ u.dropOrders l index = e.state.dropOrders (c :: l) index' := by
    have head : ordersTo c (e.state.dropsOn (fun d => decide (d ∈ c :: l)) index' c).2 =
        (State.dropping c e.state).orders := by
      simp [State.dropsOn, index', State.dropping]
    rw [State.dropOrders, State.dropOrders, List.flatMap_cons, head]
    exact congrArg _ (List.flatMap_congr fun d hd => by rw [other (ne hd)])
  have count : u.freeCount + u.drainCount l = e.state.freeCount + e.state.drainCount (c :: l) := by
    have tail : u.drainCount l = e.state.drainCount l := congrArg List.length <| List.filter_congr fun d hd => by
      rw [show u.chan d = e.state.chan d from State.chan_of_set rfl (ne hd)]
    have head : u.freeCount = e.state.freeCount + if (e.state.chan c).state = .draining .ready then 1 else 0 := rfl
    rw [tail, head]
    by_cases hs : (e.state.chan c).state = .draining .ready <;> simp [State.drainCount, hs]
    omega
  unfold Effects.drops
  simp only [Effects.andThen_state, Effects.andThen_orders, Effects.andThen_notices]
  rw [channels, count, List.append_assoc, orders]
  simp [State.dropping, index']

/-- The channels of a list, dropped one after another. -/
theorem each_dropping : ∀ {l : List Chan}, l.Nodup → ∀ e : Effects, ∃ index : Chan → Fin 17,
    e.each l State.dropping = e.drops l index
  | [], _, e => by
    have same : (Vector.ofFn fun c : Fin 40 => e.state.chan c) = e.state.channels :=
      State.channels_ext fun c => by simp [State.chan]
    refine ⟨fun _ => 0, ?_⟩
    simp [Effects.drops, State.channelsDropped, State.dropOrders, State.drainCount, State.dropsOn, same]
  | c :: l, nodup, e => by
    obtain ⟨fresh, nodup⟩ := List.nodup_cons.1 nodup
    obtain ⟨index, rest⟩ := each_dropping nodup (e.andThen (State.dropping c))
    exact ⟨_, (Effects.each_cons ..).trans (rest.trans (Effects.drops_cons fresh e index))⟩

end Sys2Proof.Machine
end

section
/-! PROOFS. The latching of an interlock input, its actions one after another (R162, log 16); O26. -/

namespace Sys2Proof.Machine

/-! ### HOLD and STOP of an input -/

/-- The HOLD of an input that latches, where it has one (R157). -/
def State.heldBy (hold : Bool) (s : State) : Effects :=
  if hold then s.holding fun h => { h with interlock := true } else s.quiet

/-- The STOP of an input that latches, where it has one (R168). -/
def State.stoppedBy (stop : Bool) (s : State) : Effects :=
  let causes : LineStopCauses := { s.lineStop with interlock := s.lineStop.interlock || stop }
  ⟨{ s with lineStop := causes }, [], lineStopNotice s.lineStop causes⟩

theorem lineStopNotice_self (l : LineStopCauses) : lineStopNotice l l = [] := by simp [lineStopNotice]

theorem heldBy_live (hold : Bool) (e : Effects) :
    (if hold then e.live.addHoldCause fun h => { h with interlock := true } else e.live) =
      (e.andThen (State.heldBy hold)).live := by
  cases hold with
  | false => simp [State.heldBy, Effects.andThen]
  | true =>
    rw [if_pos rfl, addHoldCause_live]
    exact congrArg Effects.live (Effects.andThen_congr (by rw [State.heldBy, if_pos rfl]))

theorem stoppedBy_live (stop : Bool) (e : Effects) :
    (if stop then e.live.changeLineStop fun l => { l with interlock := true } else e.live) =
      (e.andThen (State.stoppedBy stop)).live := by
  cases stop with
  | false => simp [State.stoppedBy, Effects.andThen, lineStopNotice_self]
  | true =>
    rw [if_pos rfl, changeLineStop_live]
    simp [State.stoppedBy, Effects.andThen]

/-- The line with the causes and the mode that HOLD brings, before the start occasions. -/
def State.heldLine (hold : Bool) (s : State) : State :=
  { s with
    mode := if hold && decide (s.mode = .run) then .hold else s.mode
    holdCauses := { s.holdCauses with
      interlock := s.holdCauses.interlock || (hold && (decide (s.mode = .run) || decide (s.mode = .hold))) } }

theorem State.heldLine_of_not {s : State} {hold : Bool} (run : (hold && decide (s.mode = .run)) = false)
    (held : (hold && decide (s.mode = .hold)) = false) : s.heldLine hold = s := by
  unfold State.heldLine
  rw [run, Bool.and_or_distrib_left, run, held, Bool.or_false, Bool.or_false, if_neg Bool.false_ne_true]

theorem State.heldBy_eq (hold : Bool) (s : State) : s.heldBy hold =
    let v := if hold && decide (s.mode = .run) then (s.heldLine hold).runsStarted Chan.all else s.heldLine hold
    ⟨v, [], monitorNotice s.monitor v.monitor ++ if hold && decide (s.mode = .run) then [.lineMode] else []⟩ := by
  by_cases run : (hold && decide (s.mode = .run)) = true
  · obtain ⟨rfl, mode⟩ : hold = true ∧ s.mode = .run := by simpa using run
    have line : s.heldLine true = { s with mode := .hold, holdCauses := { s.holdCauses with interlock := true } } := by
      simp [State.heldLine, mode]
    rw [if_pos run, if_pos run, line]
    simp only [State.heldBy, State.holding, mode, if_true]
  · rw [if_neg run, if_neg run]
    by_cases held : (hold && decide (s.mode = .hold)) = true
    · obtain ⟨rfl, mode⟩ : hold = true ∧ s.mode = .hold := by simpa using held
      simp [State.heldBy, State.holding, mode, State.heldLine, State.quiet]
    · have quiet : s.heldBy hold = s.quiet := by
        cases hold with
        | false => rfl
        | true => cases mode : s.mode <;> simp_all [State.heldBy, State.holding]
      rw [State.heldLine_of_not (by simpa using run) (by simpa using held), quiet]
      simp [State.quiet]

/-! ### The latch -/

/-- The latch set, with its INTERLOCK notice (R162). -/
def State.latchSet (i : Input) (s : State) : Effects :=
  ⟨{ s with interlocks := s.interlocks.set i { s.interlock i with latched := true } }, [], [.interlock]⟩

/-- The channels that a latching DROP of the input reaches (R164, R165). -/
def State.dropHits (s : State) (i : Input) (c : Chan) : Bool :=
  (s.interlock i).config.drop && (s.interlock i).config.inScope c && !s.inhibited c

/-- The channels that a latching DROP of the input reaches, in increasing number. -/
def State.dropList (s : State) (i : Input) : List Chan := Chan.all.filter (s.dropHits i)

theorem State.dropList_nodup (s : State) (i : Input) : (s.dropList i).Nodup := Chan.all_nodup.filter _

theorem State.mem_dropList {s : State} {i : Input} {c : Chan} : c ∈ s.dropList i ↔ s.dropHits i c = true := by
  simp [State.dropList, Chan.mem_all]

/-- The latch of an input with its actions (R162; log 16). -/
def State.latching (s : State) (i : Input) : Effects :=
  (((s.latchSet i).each (s.dropList i) State.dropping).andThen (State.heldBy (s.interlock i).config.hold)).andThen
    (State.stoppedBy (s.interlock i).config.stop)

/-- The channels that the DROP reaches are inhibited from the latch on. -/
theorem State.latchSet_inhibited {s : State} {i : Input} {c : Chan} (h : s.dropHits i c = true) :
    (s.latchSet i).state.inhibited c = true := by
  obtain ⟨⟨drop, scope⟩, -⟩ : ((s.interlock i).config.drop = true ∧ (s.interlock i).config.inScope c = true) ∧
    s.inhibited c = false := by simpa [State.dropHits] using h
  refine State.inhibited_iff.2 ⟨i, ?_⟩
  simp [State.latchSet, State.interlock] at *
  exact ⟨drop, scope⟩

theorem latch_live (s : State) (i : Input) : s.latch i = (s.latching i).live := by
  have set : (s.updInterlock i fun x => { x with latched := true }).raise .interlock = (s.latchSet i).live := by
    simp [State.updInterlock, State.raise, State.latchSet, Effects.live]
    rfl
  have dropped : (s.dropList i).foldl (fun t c => t.dropChannel c) (s.latchSet i).live =
      ((s.latchSet i).each (s.dropList i) State.dropping).live :=
    Effects.live_each_of (P := fun l t => ∀ c ∈ l, t.inhibited c = true)
      (fun c l e h => ⟨dropChannel_live (h c List.mem_cons_self), fun d hd =>
        (State.inhibited_of_interlocks rfl d).trans (h d (List.mem_cons_of_mem _ hd))⟩) _ _
      fun c hc => State.latchSet_inhibited (State.mem_dropList.1 hc)
  have actions : s.latch i =
      (let t := (s.dropList i).foldl (fun t c => t.dropChannel c)
        ((s.updInterlock i fun x => { x with latched := true }).raise .interlock)
      let t := if (s.interlock i).config.hold then t.addHoldCause fun h => { h with interlock := true } else t
      if (s.interlock i).config.stop then t.changeLineStop fun l => { l with interlock := true } else t) := rfl
  rw [actions, set, dropped]
  dsimp only
  rw [heldBy_live, stoppedBy_live]
  rfl

theorem LeavesLinks.heldBy (hold : Bool) : LeavesLinks (State.heldBy hold) := by
  intro s
  cases hold with
  | false => exact ⟨rfl, rfl⟩
  | true => exact LeavesLinks.holding (fun h => { h with interlock := true }) s

theorem State.runsStarted_lineStop (s : State) (causes : LineStopCauses) (l : List Chan) :
    ({ s with lineStop := causes } : State).runsStarted l = { s.runsStarted l with lineStop := causes } := by
  rw [State.runsStarted_eq, State.runsStarted_eq]
  rfl

/-- HOLD, then STOP, of an input that latches (log 16; the notices in the order of log 14). -/
theorem State.held_stopped {s t : State} (mode : t.mode = s.mode) (monitor : t.monitor = s.monitor)
    (lineStop : t.lineStop = s.lineStop) (hold stop : Bool) : (t.heldBy hold).andThen (State.stoppedBy stop) =
    let u : State :=
      { t.heldLine hold with lineStop := { s.lineStop with interlock := s.lineStop.interlock || stop } }
    let v := if hold && decide (s.mode = .run) then u.runsStarted Chan.all else u
    ⟨v, [], monitorNotice s.monitor v.monitor ++ (if hold && decide (s.mode = .run) then [.lineMode] else []) ++
      lineStopNotice s.lineStop v.lineStop⟩ := by
  rw [State.heldBy_eq, ← mode, ← monitor, ← lineStop]
  cases hold && decide (t.mode = .run) with
  | true =>
    simp only [if_true, State.runsStarted_lineStop, Effects.andThen, State.stoppedBy]
    rw [State.runsStarted_eq]
    rfl
  | false =>
    simp only [Bool.false_eq_true, if_false, Effects.andThen, State.stoppedBy]
    rfl

theorem flatMap_filter (p : α → Bool) (f : α → List β) : ∀ l : List α,
    (l.filter p).flatMap f = l.flatMap fun a => if p a then f a else []
  | [] => rfl
  | a :: l => by
    rw [List.filter_cons, List.flatMap_cons, ← flatMap_filter p f l]
    split <;> simp

/-- The orders to the channels that the DROP of an input reaches. -/
def State.latchOrders (s : State) (i : Input) (index : Chan → Fin 17) : List Order :=
  Chan.all.flatMap fun c => ordersTo c (s.dropsOn (s.dropHits i) index c).2

/-- The line with an input latched and its scope dropped. -/
def State.latchDropped (s : State) (i : Input) (index : Chan → Fin 17) : State :=
  { s with
    interlocks := s.interlocks.set i { s.interlock i with latched := true }
    channels := Vector.ofFn fun c : Fin 40 => (s.dropsOn (s.dropHits i) index c).1
    freeCount := s.freeCount +
      (Chan.all.filter fun c => s.dropHits i c && decide ((s.chan c).state = .draining .ready)).length }

/-- The line with the causes and the mode that an input's HOLD and STOP bring, before the start occasions. -/
def State.latchLine (s : State) (i : Input) (index : Chan → Fin 17) : State :=
  { (s.latchDropped i index).heldLine (s.interlock i).config.hold with
    lineStop := { s.lineStop with interlock := s.lineStop.interlock || (s.interlock i).config.stop } }

/-- In RUN an input's HOLD takes the line into HOLD. -/
def State.latchHolds (s : State) (i : Input) : Bool := (s.interlock i).config.hold && decide (s.mode = .run)

/-- The line after an input has latched, its orders and notices still to come. -/
def State.latchEnd (s : State) (i : Input) (index : Chan → Fin 17) : State :=
  if s.latchHolds i then (s.latchLine i index).runsStarted Chan.all else s.latchLine i index

/-- The notices of an input that latches (log 14). -/
def State.latchNotices (s : State) (i : Input) (v : State) : List NoticeKind :=
  .interlock :: (monitorNotice s.monitor v.monitor ++ (if s.latchHolds i then [.lineMode] else []) ++
    lineStopNotice s.lineStop v.lineStop)

theorem State.latches (s : State) (i : Input) (index : Chan → Fin 17) :
    s.Latches i ((s.latchEnd i index).sent (s.latchOrders i index)) (s.latchNotices i (s.latchEnd i index)) := by
  refine ⟨index, ?_, ?_⟩
  · unfold State.latchEnd State.latchOrders State.latchHolds State.latchLine State.latchDropped State.heldLine State.dropsOn
      State.dropHits
    dsimp only
  · unfold State.latchNotices State.latchEnd State.latchHolds State.latchLine State.latchDropped State.heldLine State.dropsOn
      State.dropHits
    dsimp only

/-- The channels that the DROP reaches, dropped. -/
theorem State.latchSet_drops (s : State) (i : Input) (index : Chan → Fin 17) :
    (s.latchSet i).drops (s.dropList i) index =
      ⟨s.latchDropped i index, s.latchOrders i index, [.interlock]⟩ := by
  have hits : (fun c => decide (c ∈ s.dropList i)) = s.dropHits i := by
    funext c
    rw [Bool.eq_iff_iff, decide_eq_true_eq, State.mem_dropList]
  have dropsOn : (s.latchSet i).state.dropsOn (s.dropHits i) index = s.dropsOn (s.dropHits i) index := rfl
  have channels : (s.latchSet i).state.channelsDropped (s.dropList i) index =
      Vector.ofFn fun c : Fin 40 => (s.dropsOn (s.dropHits i) index c).1 := by
    rw [State.channelsDropped, hits, dropsOn]
  have orders : (s.latchSet i).state.dropOrders (s.dropList i) index = s.latchOrders i index := by
    rw [State.dropOrders, hits, dropsOn, State.latchOrders, State.dropList, flatMap_filter]
    refine List.flatMap_congr fun c _ => ?_
    by_cases hit : s.dropHits i c = true
    · rw [if_pos hit]
    · rw [if_neg hit, State.dropsOn, if_neg hit]
      rfl
  have count : (s.latchSet i).state.drainCount (s.dropList i) =
      (Chan.all.filter fun c => s.dropHits i c && decide ((s.chan c).state = .draining .ready)).length := by
    rw [State.drainCount, State.dropList, List.filter_filter]
    exact congrArg List.length (List.filter_congr fun c _ => Bool.and_comm ..)
  rw [Effects.drops, channels, orders, count]
  rfl

/-- What the latching of an input makes of the line (R162). -/
theorem State.latching_eq (s : State) (i : Input) : ∃ index, s.latching i =
    ⟨s.latchEnd i index, s.latchOrders i index, s.latchNotices i (s.latchEnd i index)⟩ := by
  obtain ⟨index, dropped⟩ := each_dropping (s.dropList_nodup i) (s.latchSet i)
  refine ⟨index, ?_⟩
  have actions := State.held_stopped (s := s) (t := s.latchDropped i index) (by simp only [State.latchDropped])
    (by simp only [State.latchDropped]) (by simp only [State.latchDropped]) (s.interlock i).config.hold
    (s.interlock i).config.stop
  rw [State.latching, dropped, State.latchSet_drops, Effects.andThen_assoc, Effects.andThen]
  dsimp only
  rw [actions, List.append_nil]
  unfold State.latchNotices State.latchEnd State.latchLine State.latchHolds
  dsimp only [List.singleton_append]

end Sys2Proof.Machine
end

section
/-! PROOFS. A change at an interlock input (R160, R162); O26. -/

namespace Sys2Proof.Machine

section
variable {s : State} {i : Input} {l : Level}

/-- The line with a new level at an input. -/
def State.levelPut (s : State) (i : Input) (l : Level) : State :=
  { s with
    pins := { s.pins with interlocks := s.pins.interlocks.set i l }
    interlocks := s.interlocks.set i { s.interlock i with level := l } }

theorem State.levelPut_interlock (s : State) (i : Input) (l : Level) :
    (s.levelPut i l).interlock i = { s.interlock i with level := l } := by
  simp [State.levelPut, State.interlock]

/-- An input latches where it is enabled, its latch clear, and it becomes active (R162); else it follows its level. -/
theorem State.interlockChanges_eq (mode : s.mode ≠ .boot) (i : Input) (l : Level) : s.interlockChanges i l =
    if (s.interlock i).level ≠ l ∧ (s.interlock i).config.enabled = true ∧ l = (s.interlock i).config.activeLevel ∧
      (s.interlock i).latched = false then (s.levelPut i l).latch i else s.levelPut i l := by
  have follow : s.interlockChanges i l =
      if (decide ((s.interlock i).level ≠ l) && ((s.levelPut i l).interlock i).config.enabled &&
        ((s.levelPut i l).interlock i).active && !((s.levelPut i l).interlock i).latched) = true
      then (s.levelPut i l).latch i else s.levelPut i l := by
    rw [State.interlockChanges]
    exact if_neg mode
  rw [follow, State.levelPut_interlock]
  simp only [Interlock.active, Bool.and_eq_true, decide_eq_true_eq, Bool.not_eq_true', and_assoc]

theorem State.latchLine_kept (s : State) (i : Input) (index : Chan → Fin 17) :
    (s.latchLine i index).link = s.link ∧ (s.latchLine i index).moduleLink = s.moduleLink := by
  simp only [State.latchLine, State.heldLine, State.latchDropped, and_self]

theorem State.latchEnd_links (s : State) (i : Input) (index : Chan → Fin 17) :
    (s.latchEnd i index).link = s.link ∧ (s.latchEnd i index).moduleLink = s.moduleLink := by
  unfold State.latchEnd
  split
  · rw [State.runsStarted_link, State.runsStarted_moduleLink]
    exact s.latchLine_kept i index
  · exact s.latchLine_kept i index

theorem done_latch (h : s.settled = true) (i : Input) : ∃ index, done (s.latch i) = .next
    (((s.latchEnd i index).sent (s.latchOrders i index)).raised (s.latchNotices i (s.latchEnd i index))) := by
  obtain ⟨index, parts⟩ := s.latching_eq i
  obtain ⟨link, moduleLink⟩ := s.latchEnd_links i index
  have orders : sortOrders (s.latchOrders i index) = s.latchOrders i index := sortOrders_byChannel _
  refine ⟨index, ?_⟩
  rw [done_live (State.settled_of_links h (by rw [parts]; exact link) (by rw [parts]; exact moduleLink)) (latch_live s i), parts,
    Effects.ended, State.issued, orders]

/-- An input that latches (R162). -/
theorem exec_latches (h : s.settled = true) (mode : s.mode ≠ .boot) (changed : (s.interlock i).level ≠ l)
    (enabled : (s.interlock i).config.enabled = true) (clear : (s.interlock i).latched = false)
    (active : l = (s.interlock i).config.activeLevel) :
    let t := s.levelPut i l
    ∃ index, exec (.interlockInputChange i l) s = .next
      (((t.latchEnd i index).sent (t.latchOrders i index)).raised (t.latchNotices i (t.latchEnd i index))) := by
  obtain ⟨index, latched⟩ := done_latch (s := s.levelPut i l) h i
  refine ⟨index, ?_⟩
  change done (s.interlockChanges i l) = _
  rw [State.interlockChanges_eq mode, if_pos ⟨changed, enabled, active, clear⟩, latched]

/-! ### An input without DROP -/

theorem State.sent_nil (h : s.settled = true) : s.sent [] = s := by
  have := State.issued_nil h
  rwa [State.issued, sortOrders_nil] at this

/-- Without DROP no channel is reached. -/
theorem State.latchDropped_of_no_drop (drop : (s.interlock i).config.drop = false) (index : Chan → Fin 17) :
    s.latchDropped i index =
      { s with interlocks := s.interlocks.set i { s.interlock i with latched := true } } ∧
    s.latchOrders i index = [] := by
  have hits : s.dropHits i = fun _ => false := funext fun c => by simp [State.dropHits, drop]
  have same : (Vector.ofFn fun c : Fin 40 => s.chan c) = s.channels := State.channels_ext fun c => by simp [State.chan]
  refine ⟨?_, ?_⟩
  · simp [State.latchDropped, State.dropsOn, hits, same]
  · simp [State.latchOrders, State.dropsOn, hits, ordersTo]

end

/-- Settles O26: an input that only follows its level, and one that latches and reaches no channel. -/
theorem interlockLatches : Obligations.InterlockLatches := by
  unfold Obligations.InterlockLatches
  intro s i l h mode x pins
  refine ⟨fun follows => ?_, fun changed enabled clear active drop => ?_⟩
  · change done (s.interlockChanges i l) = _
    rw [State.interlockChanges_eq mode, if_neg]
    · exact done_of_links h rfl rfl
    · rintro ⟨changed, enabled, active, clear⟩
      rcases follows with level | disabled | latched | inactive
      · exact changed level
      · exact absurd (enabled.symm.trans disabled) (by simp)
      · exact absurd (clear.symm.trans latched) (by simp)
      · exact inactive active
  · intro holds causes s' t
    obtain ⟨index, ends⟩ := exec_latches h mode changed enabled clear active
    have config : ((s.levelPut i l).interlock i).config = x.config := by rw [State.levelPut_interlock]
    obtain ⟨dropped, orders⟩ := State.latchDropped_of_no_drop (i := i) (s := s.levelPut i l) (by rw [config]; exact drop) index
    have line : (s.levelPut i l).latchLine i index = s' := by
      rw [State.latchLine, dropped, config, State.levelPut_interlock]
      simp only [State.levelPut, Vector.set_set]
      rfl
    have latchHolds : (s.levelPut i l).latchHolds i = holds := by
      rw [State.latchHolds, config]
      rfl
    have latchEnd : (s.levelPut i l).latchEnd i index = t := by
      rw [State.latchEnd, line, latchHolds]
    have settled : t.settled = true := by
      obtain ⟨link, moduleLink⟩ := (s.levelPut i l).latchEnd_links i index
      rw [latchEnd] at link moduleLink
      exact State.settled_of_links h link moduleLink
    have lineStop : t.lineStop = causes := by
      dsimp only [t]
      split
      · rw [State.runsStarted_eq]
      · rfl
    rw [ends, latchEnd, orders, State.sent_nil settled, State.latchNotices, latchHolds, lineStop]
    rfl

end Sys2Proof.Machine
end

section
/-! PROOFS. What a latching DROP makes of one channel, and the orders to it (R165, R116, R112); O27. -/

namespace Sys2Proof.Machine

/-! ### Orders at the module link -/

/-- The orders of an event join those that the module link holds. -/
theorem ModuleLink.ordering_all {m : ModuleLink} (idle : m.sending = none → m.waiting = []) (l : List Order) :
    (m.ordering l).sending.toList ++ (m.ordering l).waiting = m.sending.toList ++ m.waiting ++ l := by
  unfold ModuleLink.ordering
  cases hs : m.sending with
  | some o => simp
  | none =>
    rw [idle hs, List.nil_append]
    cases l with
    | nil => simp
    | cons o rest => simp

theorem State.sent_moduleLink (s : State) (l : List Order) : (s.sent l).moduleLink = s.moduleLink.ordering l := by
  unfold State.sent
  dsimp only
  split <;> rfl

theorem State.sent_interlocks (s : State) (l : List Order) : (s.sent l).interlocks = s.interlocks := by
  unfold State.sent
  dsimp only
  split <;> rfl

/-- The orders of an event may open a report window of a channel, and touch nothing else of it (R103). -/
theorem State.sent_chan (s : State) (l : List Order) (c : Chan) :
    ∃ more, (s.sent l).chan c = { s.chan c with windows := (s.chan c).windows ++ more } := by
  unfold State.sent
  dsimp only
  split
  · rename_i d tag rest _
    by_cases h : c = d
    · subst h
      exact ⟨_, State.chan_of_set_same rfl⟩
    · exact ⟨[], by rw [State.chan_of_set (s := s) rfl h, List.append_nil]⟩
  · exact ⟨[], by rw [List.append_nil]; rfl⟩

/-- A channel to which no Zero Order goes is untouched. -/
theorem State.sent_chan_same {s : State} {l : List Order} {c : Chan} (h : ∀ tag, ⟨c, .zero tag⟩ ∉ l) :
    (s.sent l).chan c = s.chan c := by
  unfold State.sent
  dsimp only
  split
  · rename_i d tag rest _
    have : c ≠ d := fun e => h tag (e ▸ List.mem_cons_self)
    exact State.chan_of_set rfl this
  · rfl

/-! ### What a channel's record becomes -/

theorem Channel.asking_kept (ch : Channel) : ∃ tag zero lone, ch.asking.1 = { ch with tag, zero, loneZero := lone } := by
  unfold Channel.asking
  split
  · exact ⟨_, _, _, rfl⟩
  · exact ⟨ch.tag, ch.zero, ch.loneZero, rfl⟩

/-- Entry into READY leaves what is not the period's, the setpoints' or the zero status's. -/
theorem Channel.readied_kept (ch : Channel) : ∃ tag zero lone, ch.readied.1 =
    { ch with state := .ready, period := .idle, forward := 0, reverse := 0, tag, zero, loneZero := lone } :=
  Channel.asking_kept _

theorem Channel.stopped_kept (ch : Channel) : ch.stopped.1.index = ch.index ∧
    ch.stopped.1.contactorClosed = ch.contactorClosed := by
  unfold Channel.stopped
  cases ch.period <;> exact ⟨rfl, rfl⟩

theorem Channel.stopped_delivering {ch : Channel} {p : InFlight} (h : ch.period = .delivering p) : ch.stopped =
    ({ ch with
      period := .idle
      windows := ch.windows ++ [⟨p.tag, 20, .period p.record (closeNote p true ch.stale) p.zeroRequest⟩] },
     [.stop p.tag]) := by
  simp [Channel.stopped, h]

/-- A RUNNING channel, or one DRAINING to READY, after a DROP (R165, R73). -/
theorem Channel.dropped_isReady {ch : Channel} (h : ch.state = .running ∨ ch.state = .draining .ready) (rest : Nat)
    (k : Int) : let x := ch.dropped rest k
    x.1.state = .ready ∧ x.1.period = .idle ∧ x.1.forward = 0 ∧ x.1.reverse = 0 ∧
      x.1.contactorClosed = ch.contactorClosed ∧ (ch.state = .running → x.1.index = ch.index) ∧
      (ch.state = .draining .ready → x.1.index = k) := by
  obtain ⟨tag, zero, lone, readied⟩ := ch.stopped.1.readied_kept
  obtain ⟨index, contactor⟩ := ch.stopped_kept
  rcases h with h | h <;> simp [Channel.dropped, h, readied, index, contactor]

/-- A period in flight is truncated by a DROP, with its Stop Order first (R116). -/
theorem Channel.dropped_truncates {ch : Channel} {p : InFlight} (h : ch.state = .running ∨ ∃ d, ch.state = .draining d)
    (flight : ch.period = .delivering p) (rest : Nat) (k : Int) : let x := ch.dropped rest k
    x.1.windows = ch.windows ++ [⟨p.tag, 20, .period p.record (closeNote p true ch.stale) p.zeroRequest⟩] ∧
      OrderBody.stop p.tag ∈ x.2 := by
  obtain ⟨tag, zero, lone, readied⟩ := ch.stopped.1.readied_kept
  have stopped := Channel.stopped_delivering flight
  have windows : ch.stopped.1.readied.1.windows =
      ch.windows ++ [⟨p.tag, 20, .period p.record (closeNote p true ch.stale) p.zeroRequest⟩] := by
    rw [readied, stopped]
  have stop : OrderBody.stop p.tag ∈ ch.stopped.2 := by
    rw [stopped]
    exact List.mem_singleton_self _
  rcases h with h | ⟨_ | _, h⟩
  · simp [Channel.dropped, h, windows, stop]
  · simp [Channel.dropped, h, windows, stop]
  · simp [Channel.dropped, h, Channel.retired, Channel.blank, stopped]

/-- A channel DRAINING to DORMANT after a DROP (R165, R112). -/
theorem Channel.dropped_retires {ch : Channel} {p : InFlight} (h : ch.state = .draining .dormant)
    (flight : ch.period = .delivering p) (rest : Nat) (k : Int) : ch.dropped rest k =
    ({ ch with
        state := .dormant
        contactorClosed := false
        rest := some rest
        forward := 0
        reverse := 0
        windows := ch.windows ++ [⟨p.tag, 20, .period p.record (closeNote p true ch.stale) p.zeroRequest⟩]
        period := .idle
        index := 0
        zero := .none
        stale := false
        zeroTimer := none
        retry := none }, [.stop p.tag, .disarm]) := by
  simp [Channel.dropped, h, Channel.retired, Channel.blank, Channel.stopped_delivering flight]

/-! ### What the latching of an input makes of a channel -/

/-- A start occasion reads the mode, the interlocks and coverage alone (R62, R63). -/
theorem State.looked_congr {s t : State} (mode : t.mode = s.mode) (interlocks : t.interlocks = s.interlocks)
    (track : t.track = s.track) (segments : t.segments = s.segments) (profile : t.profile = s.profile) (c : Chan)
    (ch : Channel) : t.looked c ch = s.looked c ch := by
  cases s
  cases t
  dsimp only at mode interlocks track segments profile
  subst mode interlocks track segments profile
  rfl

section
variable {s : State} {i : Input} {index : Chan → Fin 17} {c : Chan}

theorem State.latchLine_chan (s : State) (i : Input) (index : Chan → Fin 17) (c : Chan) :
    (s.latchLine i index).chan c = (s.dropsOn (s.dropHits i) index c).1 := by
  simp only [State.latchLine, State.heldLine, State.latchDropped, State.chan]
  exact Vector.getElem_ofFn ..

theorem State.latchLine_interlocks (s : State) (i : Input) (index : Chan → Fin 17) :
    (s.latchLine i index).interlocks = (s.latchSet i).state.interlocks := by
  simp only [State.latchLine, State.heldLine, State.latchDropped, State.latchSet]

theorem State.latchEnd_interlocks (s : State) (i : Input) (index : Chan → Fin 17) :
    (s.latchEnd i index).interlocks = (s.latchLine i index).interlocks := by
  unfold State.latchEnd
  split
  · rw [State.runsStarted_eq]
  · rfl

theorem State.latchEnd_chan (s : State) (i : Input) (index : Chan → Fin 17) (c : Chan) : (s.latchEnd i index).chan c =
    if s.latchHolds i then (s.latchLine i index).looked c (s.dropsOn (s.dropHits i) index c).1
    else (s.dropsOn (s.dropHits i) index c).1 := by
  unfold State.latchEnd
  split
  · rw [State.runsStarted_chan, if_pos (Chan.mem_all c), State.latchLine_chan]
  · exact s.latchLine_chan i index c

theorem State.dropsOn_hit (hit : s.dropHits i c = true) : s.dropsOn (s.dropHits i) index c =
    (s.chan c).dropped s.prof.contactorRest (index c).val := if_pos hit

/-- A channel that the DROP reaches is inhibited, and starts no run. -/
theorem State.latchEnd_chan_hit (hit : s.dropHits i c = true) : (s.latchEnd i index).chan c =
    ((s.chan c).dropped s.prof.contactorRest (index c).val).1 := by
  have inhibited : (s.latchLine i index).inhibited c = true := by
    rw [State.inhibited_of_interlocks (s.latchLine_interlocks i index)]
    exact State.latchSet_inhibited hit
  have none : (s.latchLine i index).runStarts c ((s.chan c).dropped s.prof.contactorRest (index c).val).1 = none := by
    simp [State.runStarts, inhibited]
  rw [State.latchEnd_chan, State.dropsOn_hit hit, State.looked_of_none none, ite_self]

/-- The orders that the latching gives to a channel. -/
theorem State.mem_latchOrders {b : OrderBody} :
    (⟨c, b⟩ : Order) ∈ s.latchOrders i index ↔ b ∈ (s.dropsOn (s.dropHits i) index c).2 := by
  unfold State.latchOrders ordersTo
  simp only [List.mem_flatMap, List.mem_map, Order.mk.injEq]
  constructor
  · rintro ⟨d, -, e, mem, rfl, rfl⟩
    exact mem
  · exact fun mem => ⟨c, Chan.mem_all c, b, mem, rfl, rfl⟩

/-- A channel that the DROP does not reach, or that does not run or drain, has a start occasion where the line enters
HOLD, and no orders. -/
theorem State.dropsOn_missed
    (missed : s.dropHits i c = false ∨ (s.chan c).state ≠ .running ∧ ∀ d, (s.chan c).state ≠ .draining d) :
    s.dropsOn (s.dropHits i) index c = (s.chan c, []) := by
  rcases missed with miss | ⟨running, draining⟩
  · simp [State.dropsOn, miss]
  · rw [State.dropsOn, Channel.dropped_other running draining, ite_self]

/-- The orders to a channel that the DROP reaches stand in their order among those at the module link. -/
theorem State.latchOrders_sublist (hit : s.dropHits i c = true) :
    (ordersTo c ((s.chan c).dropped s.prof.contactorRest (index c).val).2).Sublist (s.latchOrders i index) := by
  rw [← State.dropsOn_hit hit]
  unfold State.latchOrders
  rw [List.flatMap_def]
  exact List.sublist_flatten_of_mem (List.mem_map_of_mem (Chan.mem_all c))

end

end Sys2Proof.Machine
end

section
/-! PROOFS. A change at an interlock input that latches, as its channels meet it; O27. -/

namespace Sys2Proof.Machine

section
variable {s : State} {i : Input} {l : Level}

/-- The scope of a DROP in channel numbers (R164). -/
theorem InterlockConfig.inScope_iff {k : InterlockConfig} {c : Chan} : k.inScope c = true ↔
    c.val < 20 ∧ k.sideA = true ∧ k.first ≤ c.val ∧ c.val ≤ k.last ∨
    20 ≤ c.val ∧ k.sideB = true ∧ k.first ≤ c.val - 20 ∧ c.val - 20 ≤ k.last := by
  unfold InterlockConfig.inScope sideOf
  by_cases h : c.val < 20
  · have : ¬ 20 ≤ c.val := by omega
    simp [h, this, within]
  · have : 20 ≤ c.val := by omega
    simp [h, this, within]

/-- Whether a channel is inhibited reads no level (R164). -/
theorem State.levelPut_inhibited (s : State) (i : Input) (l : Level) (c : Chan) :
    (s.levelPut i l).inhibited c = s.inhibited c := by
  have same (j : Input) : ((s.levelPut i l).interlock j).latched = (s.interlock j).latched ∧
      ((s.levelPut i l).interlock j).config = (s.interlock j).config := by
    by_cases h : j = i
    · subst h
      rw [State.levelPut_interlock]
      exact ⟨rfl, rfl⟩
    · have : (i : Nat) ≠ j := fun e => h (Fin.ext e.symm)
      simp [State.levelPut, State.interlock, this]
  rw [Bool.eq_iff_iff, State.inhibited_iff, State.inhibited_iff]
  simp only [same]

theorem State.levelPut_dropHits (s : State) (i : Input) (l : Level) (c : Chan) :
    (s.levelPut i l).dropHits i c = true ↔ (s.interlock i).config.drop = true ∧
      (s.interlock i).config.inScope c = true ∧ s.inhibited c = false := by
  rw [State.dropHits, State.levelPut_inhibited, State.levelPut_interlock]
  simp [and_assoc]

theorem State.latchLine_mode (s : State) (i : Input) (index : Chan → Fin 17) :
    (s.latchLine i index).mode = if s.latchHolds i then .hold else s.mode := by
  have held (t : State) (hold : Bool) :
      (t.heldLine hold).mode = if hold && decide (t.mode = .run) then .hold else t.mode := rfl
  have line : (s.latchLine i index).mode = ((s.latchDropped i index).heldLine (s.interlock i).config.hold).mode := by
    simp only [State.latchLine]
  have mode : (s.latchDropped i index).mode = s.mode := by simp only [State.latchDropped]
  rw [line, held, mode, State.latchHolds]

/-- The line with an input latched differs from the line before in what a start occasion reads only in the mode and the
interlocks. -/
theorem State.latchLine_looked {t : State} {index : Chan → Fin 17} (holds : s.latchHolds i = true)
    (interlocks : t.interlocks = (s.latchLine i index).interlocks) (c : Chan) (ch : Channel) :
    (s.latchLine i index).looked c ch = ({ s with mode := .hold, interlocks := t.interlocks } : State).looked c ch := by
  refine State.looked_congr (s := { s with mode := .hold, interlocks := t.interlocks }) ?_ interlocks.symm ?_ ?_ ?_ c ch
  · rw [State.latchLine_mode, if_pos holds]
  all_goals simp only [State.latchLine, State.heldLine, State.latchDropped]

end

/-- Settles O27: the input latches, and each channel's record and orders are read off the DROP, the start occasion and the
orders at the module link. -/
theorem dropReachesScope : Obligations.DropReachesScope := by
  unfold Obligations.DropReachesScope
  intro s i l h mode x changed enabled clear active s'
  have put : s' = s.levelPut i l := rfl
  clear_value s'
  subst put
  obtain ⟨index, ends⟩ := exec_latches h mode changed enabled clear active
  let e := (s.levelPut i l).latchEnd i index
  let t := e.sent ((s.levelPut i l).latchOrders i index)
  obtain ⟨-, moduleLink⟩ := (s.levelPut i l).latchEnd_links i index
  have interlocks : t.interlocks = ((s.levelPut i l).latchLine i index).interlocks :=
    (State.sent_interlocks ..).trans ((s.levelPut i l).latchEnd_interlocks i index)
  have all : t.moduleLink.sending.toList ++ t.moduleLink.waiting =
      s.moduleLink.sending.toList ++ s.moduleLink.waiting ++ (s.levelPut i l).latchOrders i index := by
    rw [State.sent_moduleLink, moduleLink]
    exact ModuleLink.ordering_all (State.settled_iff.1 h).2.1 _
  refine ⟨t, (s.levelPut i l).latchNotices i e, (s.levelPut i l).latches i index, ends, fun c => ?_⟩
  intro ch hit orders
  let y := ch.dropped s.prof.contactorRest (index c).val
  obtain ⟨more, sent⟩ := State.sent_chan e ((s.levelPut i l).latchOrders i index) c
  have reached (hh : hit) : e.chan c = y.1 := State.latchEnd_chan_hit ((State.levelPut_dropHits s i l c).2 hh)
  have given (hh : hit) {b : OrderBody} (hb : ⟨c, b⟩ ∈ (s.levelPut i l).latchOrders i index) : b ∈ y.2 := by
    rw [State.mem_latchOrders, State.dropsOn_hit ((State.levelPut_dropHits s i l c).2 hh)] at hb
    exact hb
  have placed (hh : hit) : (ordersTo c y.2).Sublist orders := by
    change List.Sublist _ (t.moduleLink.sending.toList ++ t.moduleLink.waiting)
    rw [all]
    exact (State.latchOrders_sublist ((State.levelPut_dropHits s i l c).2 hh)).trans (List.sublist_append_right _ _)
  refine ⟨InterlockConfig.inScope_iff, State.inhibited_iff, fun hh runs => ?_, fun p hh runs flight => ?_,
    fun p hh drains flight => ?_, fun missed => ?_⟩
  · obtain ⟨state, period, forward, reverse, contactor, running, draining⟩ :=
      Channel.dropped_isReady runs s.prof.contactorRest (index c).val
    rw [show t.chan c = _ from sent, reached hh]
    refine ⟨state, period, forward, reverse, contactor, running, fun drains => ?_⟩
    dsimp only [y]
    rw [draining drains]
    omega
  · obtain ⟨windows, stop⟩ := Channel.dropped_truncates runs flight s.prof.contactorRest (index c).val
    refine ⟨⟨more, ?_⟩, ?_⟩
    · rw [show t.chan c = _ from sent, reached hh]
      dsimp only [y]
      rw [windows, List.append_assoc]
      rfl
    · exact (placed hh).subset (List.mem_map_of_mem stop)
  · have retires := Channel.dropped_retires drains flight s.prof.contactorRest (index c).val
    have noZero (tag : Nat) : ⟨c, .zero tag⟩ ∉ (s.levelPut i l).latchOrders i index := fun mem => by
      have := given hh mem
      simp [y, retires] at this
    refine ⟨?_, ?_⟩
    · rw [show t.chan c = e.chan c from State.sent_chan_same noZero, reached hh]
      exact congrArg Prod.fst retires
    · have := placed hh
      dsimp only [y] at this
      rw [retires] at this
      exact this
  · have miss : (s.levelPut i l).dropsOn ((s.levelPut i l).dropHits i) index c = (ch, []) := by
      refine State.dropsOn_missed (missed.imp (fun no => ?_) id)
      rw [← Bool.not_eq_true, State.levelPut_dropHits]
      exact no
    have noZero (tag : Nat) : ⟨c, .zero tag⟩ ∉ (s.levelPut i l).latchOrders i index := fun mem => by
      rw [State.mem_latchOrders, miss] at mem
      exact absurd mem List.not_mem_nil
    have holds : (s.levelPut i l).latchHolds i = true ↔ x.config.hold = true ∧ s.mode = .run := by
      have config : ((s.levelPut i l).interlock i).config = x.config := by rw [State.levelPut_interlock]
      rw [State.latchHolds, config, Bool.and_eq_true, decide_eq_true_eq]
      rfl
    rw [show t.chan c = e.chan c from State.sent_chan_same noZero]
    change ((s.levelPut i l).latchEnd i index).chan c = _
    rw [State.latchEnd_chan, miss]
    by_cases enters : x.config.hold = true ∧ s.mode = .run
    · rw [if_pos (holds.2 enters), if_pos enters, State.latchLine_looked (holds.2 enters) interlocks]
      rfl
    · rw [if_neg fun k => enters (holds.1 k), if_neg enters]

end Sys2Proof.Machine
end

section
/-! PROOFS. Loops over the channels, and requests with effects and a payload; SetMode (R149 to R153); O38 and O39. -/

namespace Sys2Proof.Machine

/-! ### Loops that give each channel a new record -/

/-- The channels, those of a list with the records that `f` makes of theirs. -/
def State.channelsGiven (s : State) (l : List Chan) (f : Channel → Channel × List OrderBody) : Vector Channel 40 :=
  Vector.ofFn fun c : Fin 40 => if c ∈ l then (f (s.chan c)).1 else s.chan c

theorem Effects.each_putChannel (f : Channel → Channel × List OrderBody) : ∀ {l : List Chan}, l.Nodup → ∀ e : Effects,
    e.each l (fun c => State.putChannel c f) =
      ⟨{ e.state with channels := e.state.channelsGiven l f },
        e.orders ++ l.flatMap fun c => ordersTo c (f (e.state.chan c)).2, e.notices⟩
  | [], _, e => by
    have same : e.state.channelsGiven [] f = e.state.channels :=
      State.channels_ext fun c => by simp [State.channelsGiven, State.chan]
    simp [same]
  | c :: l, nodup, e => by
    obtain ⟨fresh, nodup⟩ := List.nodup_cons.1 nodup
    have ne {d : Chan} (hd : d ∈ l) : d ≠ c := fun k => fresh (k ▸ hd)
    let u := (State.putChannel c f e.state).state
    have own : u.chan c = (f (e.state.chan c)).1 := State.chan_of_set_same rfl
    have other {d : Chan} (hd : d ≠ c) : u.chan d = e.state.chan d := State.chan_of_set rfl hd
    have channels : u.channelsGiven l f = e.state.channelsGiven (c :: l) f := by
      refine State.channels_ext fun d => ?_
      by_cases hd : d = c
      · subst hd
        simp [State.channelsGiven, fresh, own]
      · simp [State.channelsGiven, hd, other hd]
    have later : (l.flatMap fun d => ordersTo d (f (u.chan d)).2) =
        l.flatMap fun d => ordersTo d (f (e.state.chan d)).2 :=
      List.flatMap_congr fun d hd => by rw [other (ne hd)]
    rw [Effects.each_cons, each_putChannel f nodup]
    simp only [Effects.andThen_state, Effects.andThen_orders, Effects.andThen_notices, List.flatMap_cons]
    rw [channels, later]
    simp [State.putChannel]

theorem State.channelsGiven_all (s : State) (f : Channel → Channel × List OrderBody) :
    s.channelsGiven Chan.all f = Vector.ofFn fun c : Fin 40 => (f (s.chan c)).1 := by
  simp [State.channelsGiven, Chan.mem_all]

theorem State.channels_map (s : State) (f : Channel → Channel) :
    s.channels.map f = Vector.ofFn fun c : Fin 40 => f (s.chan c) :=
  State.channels_ext fun c => by simp [State.chan]

/-- A loop over all channels that changes each one's record is one change of the channels. -/
theorem State.forChans_map (s : State) {step : Chan → State → State} (f : Channel → Channel)
    (h : ∀ c t, step c t = t.updChan c f) : s.forChans step = { s with channels := s.channels.map f } := by
  have turn (c : Chan) (e : Effects) : step c e.live = (e.andThen (State.putChannel c fun ch => (f ch, []))).live := by
    rw [h, State.updChan_live]
  have loop := Effects.live_each (step := fun t c => step c t) turn Chan.all s.quiet
  rw [State.quiet_live, Effects.each_putChannel _ Chan.all_nodup, State.channelsGiven_all] at loop
  have none : (Chan.all.flatMap fun _ => ([] : List Order)) = [] := List.flatMap_eq_nil_iff.2 fun _ _ => rfl
  rw [State.forChans, loop, State.channels_map]
  simp [Effects.live, ordersTo, none]

/-! ### A taken request with effects and a payload -/

theorem State.issued_withLink (s : State) (l : LineLink) (o : List Order) :
    ({ s with link := l } : State).issued o = { s.issued o with link := l } := by
  unfold State.issued State.sent
  cases s.moduleLink.sending with
  | some x => rfl
  | none =>
    match sortOrders o with
    | [] => rfl
    | ⟨c, b⟩ :: rest => cases b <;> rfl

/-- A request whose owner's effects are those of a part of an event is answered with these effects and its payload. -/
theorem done_effects_payload {s : State} (h : s.receptive = true) {r : Request} (hr : r ≠ .restart)
    {f : State → Effects} (leaves : LeavesLinks f) (blind : ∀ k, Overlooks k id f) {payload : ReplyPayload}
    (hs : serve r s.hunting = ⟨.ok, payload, (f s.hunting).live⟩) :
    done (s.arriveRequest r) = .next (((f s).state.issued (f s).orders).replied r payload (f s).notices) := by
  have hunting : f s.hunting = { f s with state := { (f s).state with link := s.hunting.link } } :=
    blind (fun _ => s.hunting.link) s
  have link : ((f s).state.issued (f s).orders).link = s.link := (State.issued_link ..).trans (leaves s).1
  rw [State.arriveRequest_receptive h, hs]
  simp only [hr, false_and, decide_false]
  rw [done_live_answer h (leaves _).1 (leaves _).2, hunting, State.issued_withLink, State.replied, State.answer, link]

theorem Overlooks.started (k : LineLink → LineLink) (l : List Chan) : Overlooks k id (State.started l) := by
  intro s
  unfold State.started
  rw [State.runsStarted_eq, State.runsStarted_eq]
  rfl

/-! ### What SetMode asks (R149) -/

theorem State.holdLatched_iff {s : State} : s.holdLatched = true ↔
    ∃ j, (s.interlock j).latched = true ∧ (s.interlock j).config.hold = true := by
  simp only [State.holdLatched, List.any_eq_true, Bool.and_eq_true, State.interlock]
  constructor
  · rintro ⟨x, hx, holds⟩
    obtain ⟨i, hi, rfl⟩ := List.getElem_of_mem hx
    exact ⟨⟨i, by simpa using hi⟩, holds⟩
  · rintro ⟨j, holds⟩
    exact ⟨s.interlocks[j], by simp, holds⟩

theorem State.anySegment_iff {s : State} : s.anySegment = true ↔ ∃ c, (s.segment c).isSome = true := by
  simp only [State.anySegment, List.any_eq_true, State.segment]
  constructor
  · rintro ⟨x, hx, some⟩
    obtain ⟨i, hi, rfl⟩ := List.getElem_of_mem hx
    exact ⟨⟨i, by simpa using hi⟩, some⟩
  · rintro ⟨j, some⟩
    exact ⟨s.segments[j], by simp, some⟩

/-! ### SetMode RUN (R150) -/

section
variable {s : State}

/-- SetMode that its owner refuses (R149). -/
theorem done_modeRefused (h : s.receptive = true) {m : RequestedMode} {code : ResultCode} (hc : code ≠ .ok)
    (hs : serve (.setMode (some m)) s.hunting = modeServed (code, s.hunting)) :
    done (s.arriveRequest (.setMode (some m))) =
      .next { s with link := s.answer (.setMode (some m)) code .nothing } := by
  refine done_refused h (hs.trans ?_) (.inr hc)
  cases code with
  | ok => exact absurd rfl hc
  | _ => rfl

/-- SetMode that its owner takes, with neither orders nor notices (R149): its reply carries the mode and the hold-cause
set. -/
theorem done_modeTaken (h : s.receptive = true) {m : RequestedMode} {t : State}
    (hs : serve (.setMode (some m)) s.hunting = modeServed (.ok, t)) (hl : t.link = s.hunting.link)
    (hm : t.moduleLink = s.moduleLink) :
    done (s.arriveRequest (.setMode (some m))) =
      .next { t with link := s.answer (.setMode (some m)) .ok (.mode t.mode t.holdCauses) } :=
  done_taken h hs (by simp) hl hm

/-- SetMode that its owner takes, with the effects of a part of an event. -/
theorem done_modeEffects (h : s.receptive = true) {m : RequestedMode} {f : State → Effects} (leaves : LeavesLinks f)
    (blind : ∀ k, Overlooks k id f)
    (hs : serve (.setMode (some m)) s.hunting = modeServed (.ok, (f s.hunting).live)) :
    done (s.arriveRequest (.setMode (some m))) = .next (((f s).state.issued (f s).orders).replied (.setMode (some m))
      (.mode (f s).state.mode (f s).state.holdCauses) (f s).notices) := by
  have same : (f s.hunting).state.mode = (f s).state.mode ∧ (f s.hunting).state.holdCauses = (f s).state.holdCauses := by
    have hunting : (f s.hunting).state = { (f s).state with link := s.hunting.link } :=
      congrArg Effects.state (blind (fun _ => s.hunting.link) s)
    rw [hunting]
    exact ⟨rfl, rfl⟩
  rw [← same.1, ← same.2]
  exact done_effects_payload h (by simp) leaves blind hs

/-- Entry into RUN from HOLD (R150, R71). -/
theorem State.holdToRun_eq (s : State) : s.holdToRun =
    { s with
      mode := .run
      conveyor := { s.conveyor with stall := .running s.prof.stallTime }
      channels := s.channels.map fun ch => if ch.state = .running then { ch with index := 0 } else ch } := by
  unfold State.holdToRun
  dsimp only
  rw [mapVec_eq_map]
  rfl

/-- The line in RUN out of STANDBY, before the start occasions (R75, R150). -/
def State.drainsCancelled (s : State) : State :=
  { s with
    mode := .run
    conveyor := { s.conveyor with stall := .running s.prof.stallTime }
    channels := s.channels.map fun ch =>
      if ch.state = .draining .ready then { ch with state := .running, index := ch.index + 2 } else ch }

theorem standbyToRun_live (s : State) : s.standbyToRun = (s.drainsCancelled.quiet.andThen (State.started Chan.all)).live := by
  let back (ch : Channel) : Channel :=
    if ch.state = .draining .ready then { ch with state := .running, index := ch.index + 2 } else ch
  have turn (c : Chan) (t : State) :
      (if (t.chan c).state = .draining .ready then t.cancelDrain c else t) = t.updChan c back := by
    by_cases h : (t.chan c).state = .draining .ready
    · have h' : t.channels[c].state = .draining .ready := h
      rw [if_pos h, State.cancelDrain, State.updChan, State.updChan]
      simp only [back, if_pos h']
    · have h' : ¬ t.channels[c].state = .draining .ready := h
      rw [if_neg h, State.updChan]
      simp only [back, if_neg h']
      simp
  rw [← startOccasions_live, State.quiet_live]
  unfold State.standbyToRun
  dsimp only
  rw [State.forChans_map _ back turn]
  rfl

end

/-- Settles O38: SetMode RUN from each mode, with its refusals. -/
theorem setModeRunResult : Obligations.SetModeRunResult := by
  unfold Obligations.SetModeRunResult
  intro s h r refused restarted holding
  have exec_eq : exec .setModeRun s = done (s.arriveRequest r) := rfl
  have latched : s.holdLatched = true ↔ holding := State.holdLatched_iff
  have served {x : ResultCode × State} (hx : s.hunting.setModeRun = x) : serve r s.hunting = modeServed x :=
    congrArg modeServed hx
  refine ⟨fun mode => ?_, fun mode => ⟨fun lacks => ?_, fun profile segment => ⟨fun held => ?_, fun free => ?_⟩⟩,
    fun mode => ⟨fun held => ?_, fun free stall => ?_, fun free stall => ?_⟩, fun mode => ⟨fun held => ?_, fun free => ?_⟩⟩
  · have taken : s.hunting.setModeRun = (.ok, s.hunting) := by simp [State.setModeRun, mode]
    rw [exec_eq, done_modeTaken h (served taken) rfl rfl, ← mode]
    rfl
  · have none : s.hunting.setModeRun = (.notConfigured, s.hunting) := by
      have : (s.profile.isNone || !s.anySegment) = true := by
        rcases lacks with profile | segments
        · simp [profile]
        · simp [← Bool.not_eq_true, State.anySegment_iff, segments]
      simp [State.setModeRun, mode, this]
    exact done_modeRefused h (by simp) (served none)
  · have still : s.hunting.setModeRun = (.stillActive, s.hunting) := by
      simp [State.setModeRun, mode, Option.isSome_iff_ne_none.1 profile, State.anySegment_iff.2 segment, latched.2 held]
    exact done_modeRefused h (by simp) (served still)
  · have unlatched : s.holdLatched = false := by rw [← Bool.not_eq_true, latched]; exact free
    have taken : s.hunting.setModeRun = (.ok, s.hunting.offlineToRun) := by
      simp [State.setModeRun, mode, Option.isSome_iff_ne_none.1 profile, State.anySegment_iff.2 segment, unlatched]
    rw [exec_eq, done_modeTaken h (served taken) rfl rfl]
    rfl
  · have still : s.hunting.setModeRun = (.stillActive, s.hunting) := by simp [State.setModeRun, mode, held]
    exact done_modeRefused h (by simp) (served still)
  · have taken : s.hunting.setModeRun =
        (.ok, { s.hunting with holdCauses := { s.holdCauses with command := false } }) := by
      simp [State.setModeRun, mode, free, stall, HoldCauses.isEmpty]
    rw [exec_eq, done_modeTaken h (served taken) rfl rfl, ← mode]
    rfl
  · have taken : s.hunting.setModeRun =
        (.ok, State.holdToRun { s.hunting with holdCauses := { s.holdCauses with command := false } }) := by
      simp [State.setModeRun, mode, free, stall, HoldCauses.isEmpty]
    rw [State.holdToRun_eq] at taken
    rw [exec_eq, done_modeTaken h (served taken) rfl rfl]
    rfl
  · have still : s.hunting.setModeRun = (.stillActive, s.hunting) := by
      simp [State.setModeRun, mode, latched.2 held]
    exact done_modeRefused h (by simp) (served still)
  · have unlatched : s.holdLatched = false := by rw [← Bool.not_eq_true, latched]; exact free
    let f (t : State) : Effects := State.started Chan.all t.drainsCancelled
    have taken : s.hunting.setModeRun = (.ok, (f s.hunting).live) := by
      have entered : s.hunting.setModeRun = (.ok, s.hunting.standbyToRun) := by simp [State.setModeRun, mode, unlatched]
      rw [entered, standbyToRun_live]
      rfl
    have leaves : LeavesLinks f := fun t => LeavesLinks.started Chan.all t.drainsCancelled
    have blind (k : LineLink → LineLink) : Overlooks k id f := fun t => Overlooks.started k Chan.all t.drainsCancelled
    have settled : (f s).state.settled = true := leaves.settled (State.receptive_iff.1 h).1
    have entered : (f s).state.mode = .run ∧ (f s).state.holdCauses = s.holdCauses := by
      rw [show (f s).state = s.drainsCancelled.runsStarted Chan.all from rfl, State.runsStarted_eq]
      exact ⟨rfl, rfl⟩
    refine ⟨?_, fun c draining ready => ?_⟩
    · rw [exec_eq, done_modeEffects h leaves blind (served taken), entered.1, entered.2,
        show (f s).orders = [] from rfl, State.issued_nil settled]
      rfl
    · have chan : s.drainsCancelled.chan c = s.chan c := by
        simp only [State.drainsCancelled, State.chan, Fin.getElem_fin, Vector.getElem_map]
        exact if_neg draining
      have still : (s.drainsCancelled.chan c).state ≠ .ready := by rw [chan]; exact ready
      exact (State.runsStarted_chan_of_not_ready still).trans chan

end Sys2Proof.Machine
end

section
/-! PROOFS. SetMode HOLD, STANDBY and OFFLINE (R151 to R153); O39. -/

namespace Sys2Proof.Machine

/-! ### Entry into STANDBY (R152, R72) -/

/-- What the entry into STANDBY makes of a channel's record, `ramp` being the ramp tables by governor (R72, R80). -/
def Channel.leavesRun (ramp : Nat → List Nat) (ch : Channel) : Channel × List OrderBody :=
  match ch.state, ch.period with
  | .running, .delivering p =>
    ({ ch with state := .draining .ready, index := min ch.index (ramp p.record.governor).length - 2 }, [])
  | .running, _ => ch.readied
  | _, _ => (ch, [])

/-- The entry into STANDBY as a part of an event. -/
def State.standing (s : State) : Effects :=
  ⟨{ s with
      mode := .standby
      holdCauses := ⟨false, false, false⟩
      channels := Vector.ofFn fun c : Fin 40 => ((s.chan c).leavesRun s.rampOf).1 },
    Chan.all.flatMap fun c => ordersTo c ((s.chan c).leavesRun s.rampOf).2, []⟩

theorem Channel.leavesRun_not_running {ch : Channel} (h : ch.state ≠ .running) (ramp : Nat → List Nat) :
    ch.leavesRun ramp = (ch, []) := by
  unfold Channel.leavesRun
  cases hs : ch.state with
  | running => exact absurd hs h
  | _ => rfl

/-- Outside RUN and HOLD no start occasion starts a run (R63). -/
theorem State.started_of_mode {s : State} (run : s.mode ≠ .run) (hold : s.mode ≠ .hold) (c : Chan) :
    State.started [c] s = s.quiet := by
  have none : s.runsStarted [c] = s := State.runsStarted_of_none fun d _ => by simp [State.runStarts, run, hold]
  simp [State.started, none, State.quiet]

theorem Effects.andThen_putChannel_congr {e : Effects} {c : Chan} {f g : Channel → Channel × List OrderBody}
    (h : f (e.state.chan c) = g (e.state.chan c)) :
    e.andThen (State.putChannel c f) = e.andThen (State.putChannel c g) :=
  Effects.andThen_congr (by rw [State.putChannel, State.putChannel, h])

/-- A RUNNING channel begins its drain to READY, in STANDBY (R72). -/
theorem beginDrain_live {e : Effects} {c : Chan} {ramp : Nat → List Nat} (mode : e.state.mode = .standby)
    (hr : e.state.rampOf = ramp) : (if (e.live.chan c).state = .running then e.live.beginDrain c .ready else e.live) =
      (e.andThen (State.putChannel c (Channel.leavesRun ramp))).live := by
  have chan : e.live.chan c = e.state.chan c := rfl
  rw [chan]
  by_cases running : (e.state.chan c).state = .running
  · rw [if_pos running]
    have toReady : e.live.toReady c = (e.andThen (State.putChannel c Channel.readied)).live := by
      rw [toReady_live, Effects.andThen_congr (e := e.andThen _)
        (State.started_of_mode (by simp [State.putChannel, mode]) (by simp [State.putChannel, mode]) c),
        Effects.andThen_quiet_self]
    unfold State.beginDrain State.drainSteps
    rw [chan]
    cases period : (e.state.chan c).period with
    | delivering p =>
      dsimp only
      rw [State.updChan_live]
      refine congrArg Effects.live (Effects.andThen_putChannel_congr ?_)
      rw [Channel.leavesRun, running, period, ← hr]
      rfl
    | idle | align g =>
      dsimp only
      rw [toReady]
      refine congrArg Effects.live (Effects.andThen_putChannel_congr ?_)
      rw [Channel.leavesRun, running, period]
  · rw [if_neg running]
    simp [Effects.andThen, State.putChannel, Channel.leavesRun_not_running running, State.set_chan, ordersTo]

theorem toStandby_live (s : State) : s.toStandby = s.standing.live := by
  let u : State := { s with mode := .standby, holdCauses := ⟨false, false, false⟩ }
  have loop : Chan.all.foldl (fun t c => if (t.chan c).state = .running then t.beginDrain c .ready else t) u.quiet.live =
      (u.quiet.each Chan.all fun c => State.putChannel c (Channel.leavesRun s.rampOf)).live :=
    Effects.live_each_of (P := fun _ t => t.mode = .standby ∧ t.rampOf = s.rampOf)
      (fun c l e h => ⟨beginDrain_live h.1 h.2, h⟩) _ _ ⟨rfl, rfl⟩
  rw [State.quiet_live, Effects.each_putChannel _ Chan.all_nodup, State.channelsGiven_all] at loop
  exact loop

theorem LeavesLinks.standing : LeavesLinks State.standing := fun _ => ⟨rfl, rfl⟩

theorem Overlooks.standing (k : LineLink → LineLink) : Overlooks k id State.standing := fun _ => rfl

/-- Settles O39: the three modes, each from the four. -/
theorem setModeOtherResults : Obligations.SetModeOtherResults := by
  unfold Obligations.SetModeOtherResults
  intro s h
  have settled := (State.receptive_iff.1 h).1
  refine ⟨?_, ?_, ?_⟩
  · intro r causes
    have served {x : ResultCode × State} (hx : s.hunting.setModeHold = x) : serve r s.hunting = modeServed x :=
      congrArg modeServed hx
    refine ⟨fun mode => ?_, fun mode => ?_, fun mode => ⟨?_, fun c ready => ?_⟩⟩
    · have wrong : s.hunting.setModeHold = (.wrongMode, s.hunting) := by
        rcases mode with mode | mode <;> simp [State.setModeHold, mode]
      exact done_modeRefused h (by simp) (served wrong)
    · have taken : s.hunting.setModeHold = (.ok, { s.hunting with holdCauses := causes }) := by
        simp [State.setModeHold, mode, causes]
      change done (s.arriveRequest r) = _
      rw [done_modeTaken h (served taken) rfl rfl, ← mode]
      rfl
    · let f (t : State) : Effects := State.started Chan.all
        { t with mode := .hold, holdCauses := { t.holdCauses with command := true } }
      have leaves : LeavesLinks f := fun t => LeavesLinks.started Chan.all _
      have blind (k : LineLink → LineLink) : Overlooks k id f := fun t => Overlooks.started k Chan.all
        { t with mode := .hold, holdCauses := { t.holdCauses with command := true } }
      have taken : s.hunting.setModeHold = (.ok, (f s.hunting).live) := by
        have entered : s.hunting.setModeHold = (.ok, s.hunting.runToHold causes) := by
          simp [State.setModeHold, mode, causes]
        rw [entered, State.runToHold, ← State.quiet_live { s.hunting with mode := .hold, holdCauses := causes },
          startOccasions_live]
        rfl
      have entered : (f s).state.mode = .hold ∧ (f s).state.holdCauses = causes := by
        dsimp only [f, State.started]
        rw [State.runsStarted_eq]
        exact ⟨rfl, rfl⟩
      change done (s.arriveRequest r) = _
      rw [done_modeEffects h leaves blind (served taken), entered.1, entered.2, show (f s).orders = [] from rfl,
        State.issued_nil (leaves.settled settled)]
      rfl
    · exact State.runsStarted_chan_of_not_ready (s := { s with mode := .hold, holdCauses := causes }) ready
  · intro r
    have served {x : ResultCode × State} (hx : s.hunting.setModeStandby = x) : serve r s.hunting = modeServed x :=
      congrArg modeServed hx
    refine ⟨fun mode => ?_, fun mode => ?_, fun mode => ?_⟩
    · have wrong : s.hunting.setModeStandby = (.wrongMode, s.hunting) := by simp [State.setModeStandby, mode]
      exact done_modeRefused h (by simp) (served wrong)
    · have taken : s.hunting.setModeStandby = (.ok, s.hunting) := by simp [State.setModeStandby, mode]
      change done (s.arriveRequest r) = _
      rw [done_modeTaken h (served taken) rfl rfl, ← mode]
      rfl
    · have taken : s.hunting.setModeStandby = (.ok, (State.standing s.hunting).live) := by
        rw [← toStandby_live]
        rcases mode with mode | mode <;> simp [State.setModeStandby, mode]
      change done (s.arriveRequest r) = _
      rw [done_modeEffects h LeavesLinks.standing Overlooks.standing (served taken), State.issued]
      dsimp only [State.standing]
      rw [sortOrders_byChannel]
      rfl
  · intro r refused
    have served {x : ResultCode × State} (hx : s.hunting.setModeOffline = x) : serve r s.hunting = modeServed x :=
      congrArg modeServed hx
    have active (other : s.mode ≠ .offline) : s.hunting.setModeOffline =
        if !s.track.isEmpty then (.trackNotEmpty, s.hunting) else if s.anyArmed then (.channelsArmed, s.hunting)
        else (.ok, s.hunting.toOffline) := by
      have boot := (State.receptive_iff.1 h).2.2.2
      cases mode : s.mode with
      | boot => exact absurd mode boot
      | offline => exact absurd mode other
      | run | hold | standby =>
        simp only [State.setModeOffline, State.hunting_mode, mode]
        rfl
    refine ⟨fun mode => ?_, fun other track => ?_, fun other track armed => ?_, fun other track out => ?_⟩
    · have taken : s.hunting.setModeOffline = (.ok, s.hunting) := by simp [State.setModeOffline, mode]
      change done (s.arriveRequest r) = _
      rw [done_modeTaken h (served taken) rfl rfl, ← mode]
      rfl
    · have full : s.hunting.setModeOffline = (.trackNotEmpty, s.hunting) := by
        rw [active other, if_pos (by simpa using track)]
      exact done_modeRefused h (by simp) (served full)
    · have held : s.hunting.setModeOffline = (.channelsArmed, s.hunting) := by
        rw [active other, if_neg (by simp [track]), if_pos (State.anyArmed_iff.2 armed)]
      exact done_modeRefused h (by simp) (served held)
    · have unarmed : s.anyArmed = false := by
        rw [← Bool.not_eq_true, State.anyArmed_iff]
        simp [out]
      have taken : s.hunting.setModeOffline = (.ok, s.hunting.toOffline) := by
        rw [active other, if_neg (by simp [track]), if_neg (by simp [unarmed])]
      change done (s.arriveRequest r) = _
      rw [done_modeTaken h (served taken) rfl rfl]
      have groups : mapVec (fun _ => (⟨[], none⟩ : Group)) s.groups = .replicate 4 ⟨[], none⟩ := by
        rw [mapVec_eq_map]
        ext i hi
        all_goals simp
      unfold State.toOffline
      rw [State.hunting_groups, groups]
      rfl

end Sys2Proof.Machine
end

section
/-! PROOFS. Channel lists (R106, R113, R114), and ArmChannels as parts of an event; O41. -/

namespace Sys2Proof.Machine

/-! ### The checks of a list -/

theorem firstFailing_of_length (bad : Nat → Bool) {l : List Nat} (h : l = [] ∨ 40 < l.length) :
    firstFailing bad l = some none := if_pos (h.imp_left fun e => e ▸ rfl)

theorem firstFailing_first {bad : Nat → Bool} {l before after : List Nat} {n : Nat} (short : l.length ≤ 40)
    (hl : l = before ++ n :: after) (before_ok : ∀ m ∈ before, bad m = false) (hn : bad n = true) :
    firstFailing bad l = some (some n) := by
  have : ¬ (l.length = 0 ∨ 40 < l.length) := by simp [hl] at short ⊢; omega
  rw [firstFailing, if_neg this, hl, find?_first before_ok hn]
  rfl

theorem chanOf?_val (c : Chan) : chanOf? c.val = some c := by simp [chanOf?]

theorem chanOf?_some {n : Nat} {c : Chan} (h : chanOf? n = some c) : c.val = n := by
  unfold chanOf? at h
  split at h
  · exact congrArg Fin.val (Option.some.inj h).symm
  · simp at h

/-- What the number of a channel says. -/
theorem chanOf?_any {n : Nat} {p : Chan → Bool} : (chanOf? n).any p = true ↔ ∃ c : Chan, c.val = n ∧ p c = true := by
  rw [Option.any_eq_true]
  exact ⟨fun ⟨c, hc, hp⟩ => ⟨c, chanOf?_some hc, hp⟩, fun ⟨c, hc, hp⟩ => ⟨c, hc ▸ chanOf?_val c, hp⟩⟩

/-! ### The channels that a list names, each at its first place -/

/-- The items of a list behind those seen, each at its first place. -/
def firstPlaces [DecidableEq α] (seen l : List α) : List α :=
  l.foldl (fun seen a => if a ∈ seen then seen else seen ++ [a]) seen

theorem firstPlaces_eq [DecidableEq α] : ∀ (l seen : List α),
    firstPlaces seen l = seen ++ (l.filter fun a => decide (a ∉ seen)).eraseDups
  | [], seen => by simp [firstPlaces]
  | a :: l, seen => by
    have step : firstPlaces seen (a :: l) = firstPlaces (if a ∈ seen then seen else seen ++ [a]) l := rfl
    rw [step, firstPlaces_eq l]
    by_cases h : a ∈ seen
    · simp [h]
    · have rest : (l.filter fun b => decide (b ∉ seen ++ [a])) =
          (l.filter fun b => decide (b ∉ seen)).filter fun b => !(b == a) := by
        rw [List.filter_filter]
        refine List.filter_congr fun b _ => ?_
        by_cases hb : b = a <;> simp [hb]
      rw [if_neg h, List.filter_cons_of_pos (by simpa using h), List.eraseDups_cons, rest]
      simp

theorem firstPlaces_nodup [DecidableEq α] : ∀ (l : List α) {seen : List α}, seen.Nodup → (firstPlaces seen l).Nodup
  | [], _, nodup => nodup
  | a :: l, seen, nodup => by
    have step : firstPlaces seen (a :: l) = firstPlaces (if a ∈ seen then seen else seen ++ [a]) l := rfl
    rw [step]
    refine firstPlaces_nodup l ?_
    split
    · exact nodup
    · exact List.nodup_append.2 ⟨nodup, List.nodup_singleton a, fun b hb c hc => by
        rw [List.mem_singleton.1 hc]
        exact fun e => ‹a ∉ seen› (e ▸ hb)⟩

theorem firstPlaces_map [DecidableEq α] [DecidableEq β] {f : α → β} (hf : Function.Injective f) :
    ∀ (l seen : List α), (firstPlaces seen l).map f = firstPlaces (seen.map f) (l.map f)
  | [], _ => rfl
  | a :: l, seen => by
    have step : firstPlaces seen (a :: l) = firstPlaces (if a ∈ seen then seen else seen ++ [a]) l := rfl
    have step' : firstPlaces (seen.map f) ((a :: l).map f) =
        firstPlaces (if f a ∈ seen.map f then seen.map f else seen.map f ++ [f a]) (l.map f) := rfl
    rw [step, step', firstPlaces_map hf l]
    by_cases h : a ∈ seen
    · rw [if_pos h, if_pos (List.mem_map_of_mem h)]
    · rw [if_neg h, if_neg (by simpa [hf.eq_iff] using h), List.map_append]
      rfl

/-- The numbers of the channels that a list names are the list's, each at its first place. -/
theorem listChans_map {l : List Nat} (h : ∀ n ∈ l, n < 40) : (listChans l).map (·.val) = l.eraseDups := by
  have names : ((l.filterMap chanOf?).map fun c : Chan => c.val) = l := by
    rw [List.map_filterMap]
    refine (List.filterMap_congr fun n hn => ?_).trans List.filterMap_some
    simp [chanOf?, h n hn]
  have places : (listChans l).map (·.val) = firstPlaces [] ((l.filterMap chanOf?).map fun c : Chan => c.val) :=
    firstPlaces_map Fin.val_injective (l.filterMap chanOf?) []
  rw [places, names, firstPlaces_eq]
  simp

/-- The numbers of channels are in range. -/
theorem lt_of_names {l : List Nat} {cs : List Chan} (h : cs.map (·.val) = l.eraseDups) {n : Nat} (hn : n ∈ l) : n < 40 := by
  have : n ∈ cs.map (·.val) := by rw [h]; exact List.mem_eraseDups.2 hn
  obtain ⟨c, -, rfl⟩ := List.mem_map.1 this
  exact c.isLt

theorem listChans_eq {l : List Nat} {cs : List Chan} (h : cs.map (·.val) = l.eraseDups) : listChans l = cs :=
  List.map_injective_iff.2 Fin.val_injective ((listChans_map fun _ => lt_of_names h).trans h.symm)

theorem listChans_single (c : Chan) : listChans [c.val] = [c] := listChans_eq rfl

end Sys2Proof.Machine
end

section
/-! PROOFS. ArmChannels on the channels of a list, as parts of an event (R107, R109, R75); O41. -/

namespace Sys2Proof.Machine

/-! ### The parts -/

theorem LeavesLinks.armed (c : Chan) : LeavesLinks (State.armed c) := by
  intro s
  unfold State.armed
  dsimp only
  split
  · split
    · exact ⟨rfl, rfl⟩
    · exact LeavesLinks.arbitrated _ _
  · exact ⟨rfl, rfl⟩
  · exact ⟨rfl, rfl⟩

theorem Overlooks.arbitrated (k : LineLink → LineLink) (g : BusGroup) : Overlooks k id fun s => s.arbitrated g := by
  intro s
  dsimp only
  rw [State.arbitrated_eq, State.arbitrated_eq, show (s.retouch k id).grantee g = s.grantee g from rfl]
  cases s.grantee g <;> rfl

theorem Overlooks.arbitratedFor (k : LineLink → LineLink) (c : Chan) : Overlooks k id fun s => s.arbitratedFor c := by
  intro s
  dsimp only
  unfold State.arbitratedFor
  rw [show (s.retouch k id).busGroup c = s.busGroup c from rfl]
  cases s.busGroup c with
  | none => rfl
  | some g => exact Overlooks.arbitrated k g s

/-- A channel joins its group's arming queue (R108). -/
def State.joined (s : State) (c : Chan) (g : BusGroup) : State :=
  { s with groups := s.groups.set g { s.group g with queue := (s.group g).queue ++ [c] } }

/-- ArmChannels on a channel, state by state (R107, R75). -/
theorem State.armed_dormant {s : State} {c : Chan} {g : BusGroup} (h : (s.chan c).state = .dormant)
    (hg : s.busGroup c = some g) : s.armed c = if c ∈ s.allQueued then s.quiet else (s.joined c g).arbitrated g := by
  simp only [State.armed, h, hg]
  rfl

theorem State.armed_dormant_none {s : State} {c : Chan} (h : (s.chan c).state = .dormant) (hg : s.busGroup c = none) :
    s.armed c = s.quiet := by
  simp only [State.armed, h, hg]

theorem State.armed_draining {s : State} {c : Chan} (h : (s.chan c).state = .draining .dormant) : s.armed c =
    State.quiet { s with
      channels := s.channels.set c { s.chan c with state := .running, index := (s.chan c).index + 2 } } := by
  simp only [State.armed, h]

theorem State.armed_other {s : State} {c : Chan} (dormant : (s.chan c).state ≠ .dormant)
    (draining : (s.chan c).state ≠ .draining .dormant) : s.armed c = s.quiet := by
  unfold State.armed
  dsimp only
  split
  · exact absurd ‹_› dormant
  · exact absurd ‹_› draining
  · rfl

theorem Overlooks.armed (k : LineLink → LineLink) (c : Chan) : Overlooks k id (State.armed c) := by
  intro s
  have chan : (s.retouch k id).chan c = s.chan c := rfl
  cases hs : (s.chan c).state with
  | dormant =>
    cases hg : s.busGroup c with
    | none => rw [State.armed_dormant_none (by rw [chan]; exact hs) (by exact hg), State.armed_dormant_none hs hg]; rfl
    | some g =>
      rw [State.armed_dormant (by rw [chan]; exact hs) (by exact hg), State.armed_dormant hs hg,
        show (s.retouch k id).allQueued = s.allQueued from rfl]
      split
      · rfl
      · exact Overlooks.arbitrated k g (s.joined c g)
  | draining d =>
    cases d with
    | dormant => rw [State.armed_draining (by rw [chan]; exact hs), State.armed_draining hs]; rfl
    | ready => rw [State.armed_other (by simp [chan, hs]) (by simp [chan, hs]), State.armed_other (by simp [hs]) (by simp [hs])]; rfl
  | arming n | ready | running | faulted f =>
    rw [State.armed_other (by simp [chan, hs]) (by simp [chan, hs]), State.armed_other (by simp [hs]) (by simp [hs])]
    rfl

theorem armChannel_live (e : Effects) (c : Chan) : e.live.armChannel c = (e.andThen (State.armed c)).live := by
  have still (h : State.armed c e.state = e.state.quiet) : e.live = (e.andThen (State.armed c)).live := by
    rw [Effects.andThen_congr (g := State.quiet) h, Effects.andThen_quiet_self]
  unfold State.armChannel
  rw [show e.live.chan c = e.state.chan c from rfl]
  cases hs : (e.state.chan c).state with
  | dormant =>
    dsimp only
    by_cases queued : c ∈ e.state.allQueued
    · have armed : State.armed c e.state = e.state.quiet := by
        cases hg : e.state.busGroup c with
        | none => exact State.armed_dormant_none hs hg
        | some g => rw [State.armed_dormant hs hg, if_pos queued]
      rw [if_pos ((State.queued_iff (s := e.live)).2 queued)]
      exact still armed
    · rw [if_neg fun k => queued ((State.queued_iff (s := e.live)).1 k), show e.live.busGroup c = e.state.busGroup c from rfl]
      cases hg : e.state.busGroup c with
      | none => exact still (State.armed_dormant_none hs hg)
      | some g =>
        let u : Effects := { e with state := e.state.joined c g }
        change State.arbiter u.live g = _
        rw [arbiter_live, Effects.andThen, Effects.andThen, State.armed_dormant hs hg, if_neg queued]
  | draining d =>
    cases d with
    | dormant =>
      dsimp only
      rw [State.cancelDrain, State.updChan_live]
      refine congrArg Effects.live (Effects.andThen_congr ?_)
      rw [State.armed_draining hs]
      rfl
    | ready => exact still (State.armed_other (by simp [hs]) (by simp [hs]))
  | arming n | ready | running | faulted f => exact still (State.armed_other (by simp [hs]) (by simp [hs]))

/-! ### The request -/

section
variable {s : State}

theorem State.unarmable_iff {n : Nat} :
    s.unarmable n = true ↔ ¬ ∃ c : Chan, c.val = n ∧ (s.segment c).isSome = true := by
  rw [State.unarmable, Bool.not_eq_true', ← Bool.not_eq_true, chanOf?_any]

theorem State.namesFaulted_iff {n : Nat} :
    s.namesFaulted n = true ↔ ∃ c : Chan, c.val = n ∧ (s.chan c).state.isFaulted = true := chanOf?_any

/-- A list each of whose members `bad` does not fail. -/
theorem firstFailing_ok {bad : Nat → Bool} {l : List Nat} (some : l ≠ []) (short : l.length ≤ 40)
    (h : ∀ n ∈ l, bad n ≠ true) : firstFailing bad l = none :=
  firstFailing_eq_none.2 ⟨some, short, fun n hn => Bool.not_eq_true _ ▸ h n hn⟩

theorem serveArmChannels_unarmable {l : List Nat} (mode : s.mode ≠ .offline) {f : Option Nat}
    (h : firstFailing s.unarmable l = some f) : serveArmChannels l s = ⟨.badValue, .failing f, s⟩ := by
  rw [serveArmChannels, if_neg mode, h]
  rfl

theorem serveArmChannels_faulted {l : List Nat} (mode : s.mode ≠ .offline) {f : Option Nat}
    (armable : firstFailing s.unarmable l = none) (h : firstFailing s.namesFaulted l = some f) :
    serveArmChannels l s = ⟨.channelState, .failing f, s⟩ := by
  rw [serveArmChannels, if_neg mode, armable, h]
  rfl

theorem serveArmChannels_taken {l : List Nat} (mode : s.mode ≠ .offline) (armable : firstFailing s.unarmable l = none)
    (sound : firstFailing s.namesFaulted l = none) :
    serveArmChannels l s = taken (s.quiet.each (listChans l) State.armed).live := by
  rw [serveArmChannels, if_neg mode, armable, sound, ← Effects.live_each (fun c e => armChannel_live e c),
    State.quiet_live]
  rfl

/-- A list of channels that the request names, each taken in turn (R107). -/
theorem done_armChannels (h : s.receptive = true) {l : List Nat} (mode : s.mode ≠ .offline)
    (armable : firstFailing s.unarmable l = none) (sound : firstFailing s.namesFaulted l = none) :
    done (s.arriveRequest (.armChannels l)) =
      .next ((s.quiet.each (listChans l) State.armed).answered (.armChannels l)) :=
  done_effects (f := fun t => t.quiet.each (listChans l) State.armed) h (by simp)
    (fun t => LeavesLinks.each LeavesLinks.armed _ t.quiet)
    (fun k => Overlooks.each (fun c => Overlooks.armed k c) _ (f := State.quiet) fun _ => rfl)
    (serveArmChannels_taken (s := s.hunting) mode armable sound)

/-- A request without effects on the line but a change of it that leaves the links. -/
theorem State.quiet_answered {t : State} (h : t.settled = true) (r : Request) :
    t.quiet.answered r = { t with link := t.answer r .ok .nothing } := by
  rw [Effects.answered_of_noOrders (by exact h) rfl, State.replied]
  rfl

end

/-- Settles O41: the checks, the channels of a list in turn, and one channel state by state. -/
theorem armChannelsResult : Obligations.ArmChannelsResult := by
  unfold Obligations.ArmChannelsResult
  intro s h
  have settled := (State.receptive_iff.1 h).1
  refine ⟨fun l mode => ?_, fun l mode length => ?_, fun l mode some short => ?_, fun n mode => ?_⟩
  · have wrong : serve (.armChannels l) s.hunting = ⟨.wrongMode, .nothing, s.hunting⟩ := if_pos mode
    exact done_refused (r := .armChannels l) h wrong (.inl (by simp))
  · exact done_refused (r := .armChannels l) h
      (serveArmChannels_unarmable (s := s.hunting) mode (firstFailing_of_length _ length)) (.inl (by simp))
  · intro r known out
    have armable (all : ∀ m ∈ l, known m) : firstFailing s.unarmable l = none :=
      firstFailing_ok some short fun m hm bad => State.unarmable_iff.1 bad (all m hm)
    refine ⟨fun before n after split ok bad => ?_, fun before n after split all ok bad => ?_, fun cs names all => ?_⟩
    · have first : firstFailing s.unarmable l = _ := firstFailing_first short split
        (fun m hm => by rw [← Bool.not_eq_true, State.unarmable_iff, not_not]; exact ok m hm) (State.unarmable_iff.2 bad)
      exact done_refused (r := r) h (serveArmChannels_unarmable (s := s.hunting) mode first) (.inl (by simp [r]))
    · have first : firstFailing s.namesFaulted l = _ := firstFailing_first short split
        (fun m hm => by rw [← Bool.not_eq_true, State.namesFaulted_iff]; exact ok m hm) (State.namesFaulted_iff.2 bad)
      exact done_refused (r := r) h (serveArmChannels_faulted (s := s.hunting) mode (armable all) first) (.inl (by simp [r]))
    · have sound : firstFailing s.namesFaulted l = none :=
        firstFailing_ok some short fun m hm bad => (all m hm).2 (State.namesFaulted_iff.1 bad)
      have done_eq := done_armChannels h mode (armable fun m hm => (all m hm).1) sound
      rw [listChans_eq names] at done_eq
      exact done_eq
  · intro r
    refine ⟨fun none => ?_, fun c g hn hg => ?_⟩
    · have bad : s.unarmable n = true := State.unarmable_iff.2 fun ⟨c, hc, segment⟩ => by simp [none c hc] at segment
      have first : firstFailing s.unarmable [n] = _ :=
        firstFailing_first (before := []) (after := []) (by simp) rfl (by simp) bad
      exact done_refused (r := r) h (serveArmChannels_unarmable (s := s.hunting) mode first) (.inl (by simp [r]))
    · intro ch queue armingHere
      subst hn
      have armable : firstFailing s.unarmable [c.val] = none :=
        firstFailing_ok (by simp) (by simp) fun m hm bad => by
          rw [List.mem_singleton.1 hm, State.unarmable_iff] at bad
          refine bad ⟨c, rfl, ?_⟩
          rw [State.busGroup] at hg
          cases segment : s.segment c with
          | none => simp [segment] at hg
          | some seg => rfl
      have one (sound : ch.state.isFaulted = false) :
          exec (.armChannels [c.val]) s = .next ((State.armed c s).answered r) := by
        have sound' : firstFailing s.namesFaulted [c.val] = none :=
          firstFailing_ok (by simp) (by simp) fun m hm bad => by
            obtain ⟨d, hd, faulted⟩ := State.namesFaulted_iff.1 (List.mem_singleton.1 hm ▸ bad)
            rw [Fin.ext hd, show (s.chan c).state.isFaulted = false from sound] at faulted
            exact Bool.false_ne_true faulted
        have done_eq := done_armChannels h mode armable sound'
        rw [listChans_single] at done_eq
        exact done_eq
      refine ⟨fun faulted => ?_, fun still => ?_, fun drains => ?_, fun dormant free arming => ?_,
        fun dormant free none empty rest spaced => ?_⟩
      · have bad : s.namesFaulted c.val = true := State.namesFaulted_iff.2 ⟨c, rfl, faulted⟩
        have first : firstFailing s.namesFaulted [c.val] = _ :=
          firstFailing_first (before := []) (after := []) (by simp) rfl (by simp) bad
        exact done_refused (r := r) h (serveArmChannels_faulted (s := s.hunting) mode armable first) (.inl (by simp [r]))
      · have quiet : State.armed c s = s.quiet := by
          rcases still with arming | ready | running | drains | ⟨dormant, queued⟩
          · exact State.armed_other (fun k => by simp [ch, k, ChannelState.isArming] at arming)
              (fun k => by simp [ch, k, ChannelState.isArming] at arming)
          · exact State.armed_other (by simp [show (s.chan c).state = _ from ready]) (by simp [show (s.chan c).state = _ from ready])
          · exact State.armed_other (by simp [show (s.chan c).state = _ from running]) (by simp [show (s.chan c).state = _ from running])
          · exact State.armed_other (by simp [show (s.chan c).state = _ from drains]) (by simp [show (s.chan c).state = _ from drains])
          · rw [State.armed_dormant dormant hg, if_pos queued]
        have sound : ch.state.isFaulted = false := by
          rcases still with arming | ready | running | drains | ⟨dormant, -⟩
          · cases hs : ch.state <;> simp_all [ChannelState.isArming, ChannelState.isFaulted]
          · rw [ready]; rfl
          · rw [running]; rfl
          · rw [drains]; rfl
          · rw [dormant]; rfl
        rw [one sound, quiet, State.quiet_answered settled]
      · rw [one (by rw [drains]; rfl), State.armed_draining drains, State.quiet_answered (by exact settled)]
        rfl
      · have none : (s.joined c g).grantee g = none := State.grantee_none (.inl (by
          rw [← Bool.not_eq_true, State.mayGrant_iff]
          exact fun may => may.2.1 arming))
        rw [one (by rw [dormant]; rfl), State.armed_dormant dormant hg, if_neg free, State.arbitrated_eq, none]
        exact congrArg _ (State.quiet_answered (t := s.joined c g) settled r)
      · have active : s.mode.active = true := by
          have boot := (State.receptive_iff.1 h).2.2.2
          cases hm : s.mode <;> simp_all [LineMode.active]
        have group : (s.joined c g).group g = { s.group g with queue := [c] } := by
          have : queue ++ [c] = [c] := by rw [empty, List.nil_append]
          rw [← this]
          simp [State.joined, State.group, queue]
        have may : (s.joined c g).mayGrant g = true := by
          refine State.mayGrant_iff.2 ⟨active, none, fun t ht => ?_⟩
          rw [group] at ht
          rw [show (s.group g).sinceGrant = some t from ht] at spaced
          exact of_decide_eq_true spaced
        have grantee : (s.joined c g).grantee g = some c :=
          State.grantee_of_queue (before := []) (rest := []) may (by rw [group]; rfl) (by simp) rest
        rw [one (by rw [dormant]; rfl), State.armed_dormant dormant hg, if_neg free, State.arbitrated_eq, grantee]
        dsimp only [Effects.answered]
        rw [State.issued_order (by simp), State.granted, group]
        have alone : [c].filter (fun d => decide (d ≠ c)) = [] := by simp
        simp only [State.joined, Vector.set_set, alone]
        rfl

end Sys2Proof.Machine
end

section
/-! PROOFS. DisarmChannels on the channels of a list, as parts of an event (R111, R112, R113); O42. -/

namespace Sys2Proof.Machine

/-! ### The parts -/

/-- DORMANT from a closed contactor as a part of an event (R98, R112). -/
def State.retiring (c : Chan) (s : State) : Effects := State.putChannel c (Channel.retired s.prof.contactorRest) s

/-- A channel leaves its arming queue (R108). -/
def State.dequeuing (c : Chan) (s : State) : Effects :=
  State.quiet { s with groups := s.groups.map fun q => { q with queue := q.queue.filter (· ≠ c) } }

section
variable {s : State} {c : Chan}

/-- DisarmChannels on a channel, state by state (R113). -/
theorem State.disarmed_dormant (h : (s.chan c).state = .dormant) : s.disarmed c = s.dequeuing c := by
  simp only [State.disarmed, h]
  rfl

theorem State.disarmed_arming (h : (s.chan c).state.isArming = true) :
    s.disarmed c = (s.retiring c).andThen fun t => t.arbitratedFor c := by
  cases hs : (s.chan c).state with
  | arming n =>
    simp only [State.disarmed, hs]
    rfl
  | _ => simp [hs, ChannelState.isArming] at h

theorem State.disarmed_retires (h : (s.chan c).state = .ready ∨
    (s.chan c).state = .running ∧ ∀ p, (s.chan c).period ≠ .delivering p) : s.disarmed c = s.retiring c := by
  rcases h with h | ⟨h, idle⟩
  · simp only [State.disarmed, h]
    rfl
  · cases hp : (s.chan c).period with
    | delivering p => exact absurd hp (idle p)
    | idle | align g =>
      simp only [State.disarmed, h, hp]
      rfl

theorem State.disarmed_delivering {p : InFlight} (h : (s.chan c).state = .running) (hp : (s.chan c).period = .delivering p) :
    s.disarmed c = State.quiet { s with
      channels := s.channels.set c { s.chan c with
        state := .draining .dormant
        index := min (s.chan c).index (s.rampOf p.record.governor).length - 2 } } := by
  simp only [State.disarmed, h, hp]

theorem State.disarmed_draining {d : Destination} (h : (s.chan c).state = .draining d) : s.disarmed c =
    State.quiet { s with channels := s.channels.set c { s.chan c with state := .draining .dormant } } := by
  simp only [State.disarmed, h]

theorem State.disarmed_faulted {cause : FaultCause} (h : (s.chan c).state = .faulted cause) : s.disarmed c = s.quiet := by
  simp only [State.disarmed, h]

end

theorem LeavesLinks.disarmed (c : Chan) : LeavesLinks (State.disarmed c) := by
  intro s
  have retiring : LeavesLinks (State.retiring c) := fun _ => ⟨rfl, rfl⟩
  unfold State.disarmed
  dsimp only
  split
  case h_2 => exact (retiring.andThen (LeavesLinks.arbitratedFor c)) s
  all_goals exact ⟨rfl, rfl⟩

theorem Overlooks.disarmed (k : LineLink → LineLink) (c : Chan) : Overlooks k id (State.disarmed c) := by
  intro s
  have retiring : Overlooks k id (State.retiring c) := fun _ => rfl
  have chan : (s.retouch k id).chan c = s.chan c := rfl
  cases hs : (s.chan c).state with
  | dormant => rw [State.disarmed_dormant (by rw [chan]; exact hs), State.disarmed_dormant hs]; rfl
  | arming n =>
    have h : (s.chan c).state.isArming = true := by rw [hs]; rfl
    rw [State.disarmed_arming (by rw [chan]; exact h), State.disarmed_arming h]
    exact (retiring.andThen (Overlooks.arbitratedFor k c)) s
  | ready => rw [State.disarmed_retires (by rw [chan]; exact .inl hs), State.disarmed_retires (.inl hs)]; rfl
  | running =>
    cases hp : (s.chan c).period with
    | delivering p =>
      rw [State.disarmed_delivering (by rw [chan]; exact hs) (by rw [chan]; exact hp), State.disarmed_delivering hs hp]
      rfl
    | idle | align g =>
      have h : (s.chan c).state = .ready ∨ (s.chan c).state = .running ∧ ∀ p, (s.chan c).period ≠ .delivering p :=
        .inr ⟨hs, by simp [hp]⟩
      rw [State.disarmed_retires (by rw [chan]; exact h), State.disarmed_retires h]
      rfl
  | draining d => rw [State.disarmed_draining (by rw [chan]; exact hs), State.disarmed_draining hs]; rfl
  | faulted cause => rw [State.disarmed_faulted (by rw [chan]; exact hs), State.disarmed_faulted hs]; rfl

/-- Entry into DORMANT from a state that is not ARMING. -/
theorem toDormant_live_of_not_arming {e : Effects} {c : Chan} (h : (e.state.chan c).state.isArming = false) :
    e.live.toDormant c = (e.andThen (State.retiring c)).live := by
  rw [toDormant_live]
  simp only [h, Bool.false_eq_true, if_false]
  rw [Effects.andThen_quiet_self]
  rfl

theorem disarmChannel_live (e : Effects) (c : Chan) : e.live.disarmChannel c = (e.andThen (State.disarmed c)).live := by
  unfold State.disarmChannel
  have chan : e.live.chan c = e.state.chan c := rfl
  rw [chan]
  cases hs : (e.state.chan c).state with
  | dormant =>
    dsimp only
    rw [dequeue_live, Effects.andThen_congr (g := State.dequeuing c) (State.disarmed_dormant hs)]
    simp [Effects.dequeued, Effects.andThen, State.dequeuing, State.quiet]
  | arming n =>
    have h : (e.state.chan c).state.isArming = true := by rw [hs]; rfl
    dsimp only
    rw [toDormant_live]
    simp only [h, if_true]
    exact congrArg Effects.live ((Effects.andThen_assoc ..).trans (Effects.andThen_congr (State.disarmed_arming h).symm))
  | ready =>
    dsimp only
    rw [toDormant_live_of_not_arming (by rw [hs]; rfl)]
    exact congrArg Effects.live (Effects.andThen_congr (State.disarmed_retires (.inl hs)).symm)
  | running =>
    dsimp only
    unfold State.beginDrain State.drainSteps
    rw [chan]
    cases hp : (e.state.chan c).period with
    | delivering p =>
      dsimp only
      rw [State.updChan_live]
      refine congrArg Effects.live (Effects.andThen_congr ?_)
      rw [State.disarmed_delivering hs hp]
      rfl
    | idle | align g =>
      dsimp only
      rw [toDormant_live_of_not_arming (by rw [hs]; rfl)]
      exact congrArg Effects.live
        (Effects.andThen_congr (State.disarmed_retires (.inr ⟨hs, by simp [hp]⟩)).symm)
  | draining d =>
    dsimp only
    rw [State.updChan_live]
    refine congrArg Effects.live (Effects.andThen_congr ?_)
    rw [State.disarmed_draining hs]
    rfl
  | faulted cause =>
    dsimp only
    rw [Effects.andThen_congr (g := State.quiet) (State.disarmed_faulted hs), Effects.andThen_quiet_self]

end Sys2Proof.Machine
end

section
/-! PROOFS. DisarmChannels and ClearFault (R113, R114); O42. -/

namespace Sys2Proof.Machine

/-! ### ClearFault (R114) -/

/-- A channel out of FAULTED, its contactor rest running (R112, R114). -/
def Channel.cleared (rest : Option Nat) (ch : Channel) : Channel := { ch with state := .dormant, rest := rest }

/-- The line with the faults of a list of channels cleared. -/
def State.faultsCleared (s : State) (l : List Chan) (rest : Chan → Option Nat) (free : Nat) : State :=
  { s with
    channels := Vector.ofFn fun c : Fin 40 => if c ∈ l then (s.chan c).cleared (rest c) else s.chan c
    freeCount := free }

section
variable {s : State}

theorem State.clearFaultOf_profile {p : Profile} (h : s.profile = some p) (c : Chan) :
    s.clearFaultOf c = s.updChan c (Channel.cleared (some p.contactorRest)) := by
  simp only [State.clearFaultOf, State.clearedRest, h]
  rfl

/-- Without a profile each channel takes a free contactor rest (log 8). -/
theorem State.clearFaultOf_none (h : s.profile = none) (c : Chan) : s.clearFaultOf c =
    { s with
      channels := s.channels.set c ((s.chan c).cleared ((Config.openContactorRest s.freeCount).map (·.val)))
      freeCount := s.freeCount + 1 } := by
  have rest : s.clearedRest =
      ((Config.openContactorRest s.freeCount).map (·.val), { s with freeCount := s.freeCount + 1 }) := by
    unfold State.clearedRest
    split
    · rename_i p hp
      exact absurd (h.symm.trans hp) (by simp)
    · rfl
  rw [State.clearFaultOf, rest]
  rfl

theorem State.faultsCleared_cons {c : Chan} {l : List Chan} (fresh : c ∉ l) {t : State} {rest : Option Nat} {n : Nat}
    (ht : t = { s with channels := s.channels.set c ((s.chan c).cleared rest), freeCount := n })
    (rests : Chan → Option Nat) (free : Nat) :
    t.faultsCleared l rests free = s.faultsCleared (c :: l) (Function.update rests c rest) free := by
  have own : t.chan c = (s.chan c).cleared rest := State.chan_of_set_same (s := s) (by rw [ht])
  have other {d : Chan} (hd : d ≠ c) : t.chan d = s.chan d := State.chan_of_set (s := s) (by rw [ht]) hd
  have channels : (Vector.ofFn fun d : Fin 40 => if d ∈ l then (t.chan d).cleared (rests d) else t.chan d) =
      Vector.ofFn fun d : Fin 40 =>
        if d ∈ c :: l then (s.chan d).cleared (Function.update rests c rest d) else s.chan d := by
    refine congrArg _ (funext fun d => ?_)
    by_cases hd : d = c
    · subst hd
      simp [fresh, own]
    · simp [hd, other hd]
  rw [State.faultsCleared, State.faultsCleared, channels, ht]

theorem forList_clearFault_profile {p : Profile} : ∀ {l : List Chan} {s : State}, l.Nodup → s.profile = some p →
    s.forList l (fun c t => t.clearFaultOf c) = s.faultsCleared l (fun _ => some p.contactorRest) s.freeCount
  | [], s, _, _ => by
    have same : (Vector.ofFn fun c : Fin 40 => s.chan c) = s.channels := State.channels_ext fun c => by simp [State.chan]
    simp [State.forList, State.faultsCleared, same]
  | c :: l, s, nodup, h => by
    obtain ⟨fresh, nodup⟩ := List.nodup_cons.1 nodup
    have turn : s.clearFaultOf c =
        { s with channels := s.channels.set c ((s.chan c).cleared (some p.contactorRest)), freeCount := s.freeCount } :=
      State.clearFaultOf_profile h c
    have rest := forList_clearFault_profile (s := s.clearFaultOf c) nodup (by rw [turn]; exact h)
    have all : Function.update (fun _ => some p.contactorRest) c (some p.contactorRest) = fun _ : Chan => some p.contactorRest :=
      Function.update_eq_self c _
    change (s.clearFaultOf c).forList l _ = _
    rw [rest, State.faultsCleared_cons fresh turn, all, turn]

theorem forList_clearFault_none : ∀ {l : List Chan} {s : State}, l.Nodup → s.profile = none →
    ∃ rest : Chan → Option (Fin 10001), s.forList l (fun c t => t.clearFaultOf c) =
      s.faultsCleared l (fun c => (rest c).map (·.val)) (s.freeCount + l.length)
  | [], s, _, _ => by
    have same : (Vector.ofFn fun c : Fin 40 => s.chan c) = s.channels := State.channels_ext fun c => by simp [State.chan]
    exact ⟨fun _ => none, by simp [State.forList, State.faultsCleared, same]⟩
  | c :: l, s, nodup, h => by
    obtain ⟨fresh, nodup⟩ := List.nodup_cons.1 nodup
    have turn := State.clearFaultOf_none h c
    obtain ⟨rest, hr⟩ := forList_clearFault_none (s := s.clearFaultOf c) nodup (by rw [turn]; exact h)
    refine ⟨Function.update rest c (Config.openContactorRest s.freeCount), ?_⟩
    have count : (s.clearFaultOf c).freeCount + l.length = s.freeCount + (c :: l).length := by
      rw [turn, List.length_cons]
      dsimp only
      omega
    have rests : Function.update (fun d => (rest d).map (·.val)) c ((Config.openContactorRest s.freeCount).map (·.val)) =
        fun d => (Function.update rest c (Config.openContactorRest s.freeCount) d).map (·.val) := by
      funext d
      by_cases hd : d = c <;> simp [Function.update, hd]
    change (s.clearFaultOf c).forList l _ = _
    rw [hr, State.faultsCleared_cons fresh turn, rests, count]

theorem State.namesSound_iff {n : Nat} :
    s.namesSound n = true ↔ ∃ c : Chan, c.val = n ∧ (s.chan c).state.isFaulted = false := by
  rw [State.namesSound, chanOf?_any]
  simp

theorem notChannel_iff {n : Nat} : notChannel n = true ↔ 40 ≤ n := by
  unfold notChannel chanOf?
  by_cases h : n < 40
  · simp [h]
  · simp [h]
    omega

/-! ### The requests -/

theorem serveDisarmChannels_taken {l : List Nat} (ok : firstFailing notChannel l = none) :
    serveDisarmChannels l s = taken (s.quiet.each (listChans l) State.disarmed).live := by
  rw [serveDisarmChannels, ok, ← Effects.live_each (fun c e => disarmChannel_live e c), State.quiet_live]
  rfl

/-- A list of channels that DisarmChannels names, each taken in turn (R113). -/
theorem done_disarmChannels (h : s.receptive = true) {l : List Nat} (ok : firstFailing notChannel l = none) :
    done (s.arriveRequest (.disarmChannels l)) =
      .next ((s.quiet.each (listChans l) State.disarmed).answered (.disarmChannels l)) :=
  done_effects (f := fun t => t.quiet.each (listChans l) State.disarmed) h (by simp)
    (fun t => LeavesLinks.each LeavesLinks.disarmed _ t.quiet)
    (fun k => Overlooks.each (fun c => Overlooks.disarmed k c) _ (f := State.quiet) fun _ => rfl)
    (serveDisarmChannels_taken (s := s.hunting) ok)

theorem serveDisarmChannels_refused {l : List Nat} {f : Option Nat} (bad : firstFailing notChannel l = some f) :
    serveDisarmChannels l s = ⟨.badValue, .nothing, s⟩ := by
  rw [serveDisarmChannels, bad]
  rfl

theorem serveClearFault_badValue {l : List Nat} {f : Option Nat} (bad : firstFailing notChannel l = some f) :
    serveClearFault l s = ⟨.badValue, .failing f, s⟩ := by
  rw [serveClearFault, bad]
  rfl

theorem serveClearFault_sound {l : List Nat} {f : Option Nat} (ok : firstFailing notChannel l = none)
    (bad : firstFailing s.namesSound l = some f) : serveClearFault l s = ⟨.channelState, .failing f, s⟩ := by
  rw [serveClearFault, ok, bad]
  rfl

theorem serveClearFault_taken {l : List Nat} (ok : firstFailing notChannel l = none)
    (faulted : firstFailing s.namesSound l = none) :
    serveClearFault l s = taken (s.forList (listChans l) fun c t => t.clearFaultOf c) := by
  rw [serveClearFault, ok, faulted]

theorem listChans_nodup (l : List Nat) : (listChans l).Nodup :=
  firstPlaces_nodup (l.filterMap chanOf?) List.nodup_nil

theorem mem_listChans_iff {l : List Nat} (h : ∀ n ∈ l, n < 40) {c : Chan} : c ∈ listChans l ↔ c.val ∈ l := by
  refine ⟨mem_listChans, fun hc => ?_⟩
  have : c.val ∈ (listChans l).map (·.val) := by rw [listChans_map h]; exact List.mem_eraseDups.2 hc
  obtain ⟨d, hd, e⟩ := List.mem_map.1 this
  exact Fin.ext e ▸ hd

/-- The line with the faults of a list's channels cleared, by their numbers. -/
theorem State.faultsCleared_listChans {l : List Nat} (h : ∀ n ∈ l, n < 40) (rest : Chan → Option Nat) (free : Nat) :
    s.faultsCleared (listChans l) rest free =
      { s with
        channels := Vector.ofFn fun c : Fin 40 =>
          if c.val ∈ l then { s.chan c with state := .dormant, rest := rest c } else s.chan c
        freeCount := free } := by
  simp only [State.faultsCleared, mem_listChans_iff h]
  rfl

end

section
variable {s : State}

/-- ClearFault that its owner takes, what it makes of the channels being `t` (R114). -/
theorem done_clearFault (h : s.receptive = true) {l : List Nat} (ok : firstFailing notChannel l = none)
    (faulted : firstFailing s.namesSound l = none) {t : State}
    (ht : s.hunting.forList (listChans l) (fun c t => t.clearFaultOf c) = t) (hl : t.link = s.hunting.link)
    (hm : t.moduleLink = s.moduleLink) :
    done (s.arriveRequest (.clearFault l)) = .next { t with link := s.answer (.clearFault l) .ok .nothing } :=
  done_taken h ((serveClearFault_taken (s := s.hunting) ok faulted).trans (ht ▸ rfl)) (by simp) hl hm

/-- ClearFault that its owner takes, the contactor rests being `rest` (R112, R114). -/
theorem done_clearFault_rests (h : s.receptive = true) {l : List Nat} (ok : firstFailing notChannel l = none)
    (faulted : firstFailing s.namesSound l = none) {rest : Chan → Option Nat} {free : Nat}
    (hf : s.hunting.forList (listChans l) (fun c t => t.clearFaultOf c) =
      s.hunting.faultsCleared (listChans l) rest free) :
    done (s.arriveRequest (.clearFault l)) = .next
      { s with
        channels := Vector.ofFn fun c : Fin 40 =>
          if c.val ∈ l then { s.chan c with state := .dormant, rest := rest c } else s.chan c
        freeCount := free
        link := s.answer (.clearFault l) .ok .nothing } := by
  have small : ∀ n ∈ l, n < 40 := fun n hn => by
    have good := (firstFailing_eq_none.1 ok).2.2 n hn
    rw [← Bool.not_eq_true, notChannel_iff] at good
    omega
  rw [done_clearFault h ok faulted (hf.trans (State.faultsCleared_listChans small rest free)) rfl rfl]
  rfl

/-- The numbers of FAULTED channels name no sound one. -/
theorem State.not_namesSound {m : Nat} (h : ∃ c : Chan, c.val = m ∧ (s.chan c).state.isFaulted = true) :
    s.namesSound m = false := by
  obtain ⟨c, hc, faulted⟩ := h
  rw [← Bool.not_eq_true, State.namesSound_iff]
  rintro ⟨d, hd, sound⟩
  rw [Fin.ext (hd.trans hc.symm)] at sound
  exact absurd (sound.symm.trans faulted) (by simp)

theorem State.prof_of_profile {p : Profile} (h : s.profile = some p) : s.prof = p := by simp [State.prof, h]

/-- A request that changes one channel, without orders. -/
theorem State.quiet_channel_answered (h : s.settled = true) (c : Chan) (ch : Channel) (r : Request) :
    (State.quiet { s with channels := s.channels.set c ch }).answered r =
      { s with
        channels := s.withChan c ch
        moduleLink := s.moduleLink.ordering []
        link := s.answer r .ok .nothing } := by
  rw [State.quiet_answered (by exact h), ModuleLink.ordering_nil (State.settled_iff.1 h).2.1]
  rfl

/-- A request that takes one channel into DORMANT (R98, R112). -/
theorem State.retiring_answered (c : Chan) (r : Request) : (s.retiring c).answered r =
      { s with
        channels := s.withChan c ((s.chan c).retired s.prof.contactorRest).1
        moduleLink := s.moduleLink.ordering [⟨c, .disarm⟩]
        link := s.answer r .ok .nothing } := by
  have issued : ((s.retiring c).state.issued (s.retiring c).orders) = _ := State.issued_order (by simp)
  rw [Effects.answered, issued]
  rfl

end

/-- The single list of a channel's number passes the check of the numbers. -/
theorem notChannel_single (c : Chan) : firstFailing notChannel [c.val] = none :=
  firstFailing_ok (by simp) (by simp) fun m hm bad => by
    rw [List.mem_singleton.1 hm, notChannel_iff] at bad
    omega

section
variable {s : State}

/-- DisarmChannels refused for its list (R113). -/
theorem done_disarmChannels_refused (h : s.receptive = true) {l : List Nat}
    (bad : l = [] ∨ 40 < l.length ∨ ∃ n ∈ l, 40 ≤ n) :
    done (s.arriveRequest (.disarmChannels l)) =
      .next { s with link := s.answer (.disarmChannels l) .badValue .nothing } := by
  cases failing : firstFailing notChannel l with
  | some f => exact done_refused h (serveDisarmChannels_refused failing) (.inl (by simp))
  | none =>
    obtain ⟨some, short, ok⟩ := firstFailing_eq_none.1 failing
    rcases bad with empty | long | ⟨n, hn, big⟩
    · exact absurd empty some
    · omega
    · exact absurd (notChannel_iff.2 big) (by simp [ok n hn])

theorem done_disarmChannels_single (h : s.receptive = true) (c : Chan) :
    done (s.arriveRequest (.disarmChannels [c.val])) = .next ((State.disarmed c s).answered (.disarmChannels [c.val])) := by
  have done_eq := done_disarmChannels h (notChannel_single c)
  rw [listChans_single] at done_eq
  exact done_eq

/-- ClearFault of one FAULTED channel with a profile defined (R112, R114). -/
theorem done_clearFault_single (h : s.receptive = true) {c : Chan} (faulted : (s.chan c).state.isFaulted = true)
    {p : Profile} (hp : s.profile = some p) :
    done (s.arriveRequest (.clearFault [c.val])) = .next
      { s with
        channels := s.withChan c { s.chan c with state := .dormant, rest := some p.contactorRest }
        link := s.answer (.clearFault [c.val]) .ok .nothing } := by
  have named : firstFailing s.namesSound [c.val] = none := firstFailing_ok (by simp) (by simp) fun m hm => by
    rw [State.not_namesSound ⟨c, (List.mem_singleton.1 hm).symm, faulted⟩]
    simp
  exact done_clearFault (t := s.hunting.updChan c (Channel.cleared (some p.contactorRest))) h
    (notChannel_single c) named
    (by rw [listChans_single]; exact State.clearFaultOf_profile (s := s.hunting) hp c) rfl rfl

theorem done_clearFault_single_refused (h : s.receptive = true) {c : Chan} (sound : (s.chan c).state.isFaulted = false) :
    done (s.arriveRequest (.clearFault [c.val])) = .next
      { s with link := s.answer (.clearFault [c.val]) .channelState (.failing (some c.val)) } :=
  have first : firstFailing s.namesSound [c.val] = some (some c.val) :=
    firstFailing_first (before := []) (after := []) (by simp) rfl (by simp) (State.namesSound_iff.2 ⟨c, rfl, sound⟩)
  done_refused h (serveClearFault_sound (s := s.hunting) (notChannel_single c) first) (.inl (by simp))

/-- An ARMING channel with no channel waiting behind it goes to DORMANT with no grant (R109, R113). -/
theorem State.disarmed_arming_alone {c : Chan} (arming : (s.chan c).state.isArming = true) (queued : s.allQueued = []) :
    State.disarmed c s = s.retiring c := by
  rw [State.disarmed_arming arming, Effects.andThen_congr (e := s.retiring c) (g := State.quiet)
    (State.arbitratedFor_of_none (by exact queued) c), Effects.andThen_quiet_self]

end

/-- Settles O42: the checks, the channels of a list in turn, and one channel in each of the six states. -/
theorem disarmAndClearResults : Obligations.DisarmAndClearResults := by
  unfold Obligations.DisarmAndClearResults
  refine ⟨fun s l h => ⟨done_disarmChannels_refused h, fun length => ?_, fun some short => ?_⟩, fun s n c p h hn hp => ?_⟩
  · exact done_refused (r := .clearFault l) h
      (serveClearFault_badValue (s := s.hunting) (firstFailing_of_length _ length)) (.inl (by simp))
  · intro r out cleared
    have inRange (all : ∀ m ∈ l, m < 40) : firstFailing notChannel l = none :=
      firstFailing_ok some short fun m hm bad => by have := all m hm; have := notChannel_iff.1 bad; omega
    have out_lt {m : Nat} (hm : out m) : m < 40 := by
      obtain ⟨c, rfl, -⟩ := hm
      exact c.isLt
    refine ⟨fun cs names => ?_, fun before n after split ok bad => ?_, fun before n after split all ok bad => ?_,
      fun all => ⟨fun p profile => ?_, fun profile => ?_⟩⟩
    · have done_eq := done_disarmChannels h (inRange fun m => lt_of_names names)
      rw [listChans_eq names] at done_eq
      exact done_eq
    · have first : firstFailing notChannel l = _ := firstFailing_first short split
        (fun m hm => by
          have := ok m hm
          rw [← Bool.not_eq_true, notChannel_iff]
          omega) (notChannel_iff.2 bad)
      exact done_refused (r := r) h (serveClearFault_badValue (s := s.hunting) first) (.inl (by simp [r]))
    · have small : n < 40 := all n (split ▸ by simp)
      have first : firstFailing s.namesSound l = _ := firstFailing_first short split
        (fun m hm => State.not_namesSound (ok m hm))
        (State.namesSound_iff.2 ⟨⟨n, small⟩, rfl, by
          rw [← Bool.not_eq_true]
          exact fun faulted => bad ⟨⟨n, small⟩, rfl, faulted⟩⟩)
      exact done_refused (r := r) h (serveClearFault_sound (s := s.hunting) (inRange all) first) (.inl (by simp [r]))
    · have small : ∀ m ∈ l, m < 40 := fun m hm => out_lt (all m hm)
      have faulted : firstFailing s.namesSound l = none :=
        firstFailing_eq_none.2 ⟨some, short, fun m hm => State.not_namesSound (all m hm)⟩
      exact done_clearFault_rests h (inRange small) faulted
        (forList_clearFault_profile (s := s.hunting) (listChans_nodup l) profile)
    · have small : ∀ m ∈ l, m < 40 := fun m hm => out_lt (all m hm)
      have faulted : firstFailing s.namesSound l = none :=
        firstFailing_eq_none.2 ⟨some, short, fun m hm => State.not_namesSound (all m hm)⟩
      obtain ⟨rest, cleared_rest⟩ := forList_clearFault_none (s := s.hunting) (listChans_nodup l) profile
      have count : (listChans l).length = l.eraseDups.length := by rw [← listChans_map small, List.length_map]
      rw [count] at cleared_rest
      exact ⟨rest, done_clearFault_rests h (inRange small) faulted cleared_rest⟩
  · intro ch r changed out
    subst hn
    have settled := (State.receptive_iff.1 h).1
    have prof := State.prof_of_profile hp
    have one : exec (.disarmChannels [c.val]) s = .next ((State.disarmed c s).answered r) := done_disarmChannels_single h c
    have retired : ((s.chan c).retired s.prof.contactorRest).1 = out := by rw [prof]; rfl
    refine ⟨fun dormant => ?_, fun leaves => ?_, fun g running align => ?_, fun q running flight => ?_, fun d drains => ?_,
      fun cause faulted => ⟨?_, ?_⟩, fun sound => ?_⟩
    · rw [one, State.disarmed_dormant dormant, State.dequeuing, State.quiet_answered (by exact settled)]
      rfl
    · have parts : State.disarmed c s = s.retiring c := by
        rcases leaves with ready | ⟨arming, queued⟩
        · exact State.disarmed_retires (.inl ready)
        · exact State.disarmed_arming_alone arming queued
      rw [one, parts, State.retiring_answered, retired]
    · rw [one, State.disarmed_retires (.inr ⟨running, by simp [show (s.chan c).period = _ from align]⟩),
        State.retiring_answered, retired]
    · rw [one, State.disarmed_delivering running flight, State.quiet_channel_answered settled]
    · rw [one, State.disarmed_draining drains, State.quiet_channel_answered settled]
    · rw [one, State.disarmed_faulted faulted, State.quiet_answered settled]
      simp only [changed, ch, State.withChan, State.set_chan,
        ModuleLink.ordering_nil (State.settled_iff.1 settled).2.1]
    · exact done_clearFault_single h (by rw [show (s.chan c).state = _ from faulted]; rfl) hp
    · exact done_clearFault_single_refused h sound

end Sys2Proof.Machine
end

section
/-! PROOFS. The Allocation Engine: stage, percentage, contributors and setpoints (R51, R55, R84 to R94); O52. -/

namespace Sys2Proof.Machine

/-! ### The stage at a midpoint -/

/-- A stage at the end of the list is taken where it starts in time and beyond the one found before it (R51). -/
theorem stageAt_concat (m : Nat) (l : List Stage) (x : Stage) : stageAt m (l ++ [x]) =
    if x.start ≤ m ∧ (stageAt m l).all (fun b => decide (b.start < x.start)) then some x else stageAt m l := by
  rw [stageAt, List.foldl_append]
  rfl

theorem stageAt_eq_none {m : Nat} {l : List Stage} : stageAt m l = none ↔ ∀ x ∈ l, m < x.start := by
  induction l using List.reverseRecOn with
  | nil => simp [stageAt]
  | append_singleton l x ih =>
    rw [List.forall_mem_append, List.forall_mem_singleton, ← ih, stageAt_concat]
    cases found : stageAt m l with
    | none => simp
    | some b => by_cases taken : x.start ≤ m ∧ b.start < x.start <;> simp [taken]

/-- The stage found is one of the list, starts not above the midpoint, and none such starts later (R51). -/
theorem stageAt_greatest {m : Nat} {l : List Stage} {st : Stage} (h : stageAt m l = some st) :
    st ∈ l ∧ st.start ≤ m ∧ ∀ x ∈ l, x.start ≤ m → x.start ≤ st.start := by
  induction l using List.reverseRecOn generalizing st with
  | nil => simp [stageAt] at h
  | append_singleton l x ih =>
    rw [stageAt_concat] at h
    simp only [List.forall_mem_append, List.forall_mem_singleton]
    split at h
    case isTrue taken =>
      obtain ⟨below, later⟩ := taken
      obtain rfl := Option.some.inj h
      refine ⟨by simp, below, fun y hy hm => ?_, fun _ => le_rfl⟩
      cases found : stageAt m l with
      | none => exact absurd hm (Nat.not_le.2 (stageAt_eq_none.1 found y hy))
      | some b =>
        have before : b.start < x.start := by simpa [found] using later
        exact ((ih found).2.2 y hy hm).trans before.le
    case isFalse passed =>
      obtain ⟨mem, below, greatest⟩ := ih h
      refine ⟨List.mem_append_left _ mem, below, greatest, fun hx => ?_⟩
      simpa [h, hx] using passed

/-- No two stages of a recipe share their start (R46), so the stage with the greatest start is one. -/
theorem stageAt_eq_some {m : Nat} {l : List Stage} (sorted : (l.map (·.start)).Pairwise (· < ·)) {st : Stage} :
    stageAt m l = some st ↔ st ∈ l ∧ st.start ≤ m ∧ ∀ x ∈ l, x.start ≤ m → x.start ≤ st.start := by
  refine ⟨stageAt_greatest, fun ⟨mem, below, greatest⟩ => ?_⟩
  cases found : stageAt m l with
  | none => exact absurd below (Nat.not_le.2 (stageAt_eq_none.1 found st mem))
  | some t =>
    obtain ⟨tmem, tbelow, tgreatest⟩ := stageAt_greatest found
    have same : t.start = st.start := le_antisymm (greatest t tmem tbelow) (tgreatest st mem below)
    exact congrArg some (List.inj_on_of_nodup_map sorted.nodup tmem mem same)

/-! ### The percentage in force -/

theorem State.rampOf_eq {s : State} {g : Nat} {r : TrackRecord} {rec : Recipe} {table : Fin 4}
    (found : s.find g = some r) (recipe : s.recipeOf r = some rec) (names : rec.rampTable = table.val) :
    s.rampOf g = s.ramps[table] := by
  rw [State.rampOf, found, Option.bind_some, recipe]
  simp [State.ramp, names]

/-- The step that an index counts, where the table has it (R55). -/
theorem percentageAt_step (before : List Nat) (x : Nat) (after : List Nat) :
    percentageAt (before ++ x :: after) before.length = x := by
  simp [percentageAt]

theorem percentageAt_beyond {steps : List Nat} {k : Nat} (h : steps.length ≤ k) : percentageAt steps k = 100 := by
  simp [percentageAt, List.getElem?_eq_none h]

/-! ### The contributors -/

@[simp] theorem State.contributor_entry (s : State) (c : Chan) (r : TrackRecord) :
    (s.contributor c r).entry = r.entry := by
  unfold State.contributor
  split
  · dsimp only; split <;> rfl
  · rfl

@[simp] theorem State.contributor_area (s : State) (c : Chan) (r : TrackRecord) :
    (s.contributor c r).area = s.coveredArea c r := by
  unfold State.contributor
  split
  · dsimp only; split <;> rfl
  · rfl

/-- The entry of a record whose recipe has a stage for the channel: its densities times its covered area, scaled in
HOLD (R86, R87, R88). -/
theorem State.contributor_of_stage {s : State} {c : Chan} {r : TrackRecord} {rec : Recipe} {seg : Segment} {st : Stage}
    (recipe : s.recipeOf r = some rec) (segment : s.segment c = some seg)
    (stage : stageAt seg.midpoint rec.stages = some st) :
    s.contributor c r = ⟨r.entry, s.coveredArea c r,
      scaleHold (decide (s.mode = .hold)) rec.holdFraction (st.forwardDensity * s.coveredArea c r),
      scaleHold (decide (s.mode = .hold)) rec.holdFraction (st.reverseDensity * s.coveredArea c r)⟩ := by
  simp only [State.contributor, recipe, segment, stage]

theorem State.candidates_eq (s : State) (c : Chan) : s.candidates c =
    s.track.filter fun r => decide (0 < s.covered c r) && decide (r.recipe ≠ none) := by
  have named (r : TrackRecord) : r.recipe.isSome = decide (r.recipe ≠ none) := by cases r.recipe <;> simp
  simp only [State.candidates, named]

/-! ### The setpoints -/

section
variable {s : State} {c : Chan} {seg : Segment} (segment : s.segment c = some seg) (g : Nat) (t : Timing)
include segment

theorem State.allocate_forward : (s.allocate c g t .normal).forward =
    min seg.forwardLimit
      (roundedSum (s.allocate c g t .normal).forwardSum (percentageAt (s.rampOf g) (s.chan c).index)) := by
  simp [State.allocate, segment, min_comm]

theorem State.allocate_reverse : (s.allocate c g t .normal).reverse =
    min seg.reverseLimit (if t.rev = 0 then 0
      else roundedSum (s.allocate c g t .normal).reverseSum (percentageAt (s.rampOf g) (s.chan c).index)) := by
  simp [State.allocate, segment, min_comm]

theorem State.allocate_clamped : (s.allocate c g t .normal).clamped = true ↔
    seg.forwardLimit <
      roundedSum (s.allocate c g t .normal).forwardSum (percentageAt (s.rampOf g) (s.chan c).index) ∨
    seg.reverseLimit < if t.rev = 0 then 0
      else roundedSum (s.allocate c g t .normal).reverseSum (percentageAt (s.rampOf g) (s.chan c).index) := by
  simp [State.allocate, segment]

end

/-- A ZERO period's record is the NORMAL one without percentage and setpoints (R93). -/
theorem State.allocate_zero (s : State) (c : Chan) (g : Nat) (t : Timing) : s.allocate c g t .zero =
    { s.allocate c g t .normal with kind := .zero, percentage := none, forward := 0, reverse := 0, clamped := false } :=
  rfl

/-- Settles O52: the stage by induction on the list from its end, the setpoints field by field of the record. -/
theorem setpointRules : Obligations.SetpointRules := by
  unfold Obligations.SetpointRules
  refine ⟨fun s g r rec table => State.rampOf_eq,
    fun steps k => ⟨?_, percentageAt_beyond⟩,
    fun m stages sorted => ⟨fun st => stageAt_eq_some sorted, stageAt_eq_none⟩,
    fun s c g t seg segment => ?_⟩
  · rintro before x after rfl rfl
    exact percentageAt_step before x after
  · intro n z pct forward reverse midpoint held
    refine ⟨⟨s.contributor c, congrArg (List.map (s.contributor c)) (s.candidates_eq c), fun r _ =>
        ⟨s.contributor_entry c r, s.contributor_area c r, fun k rec st names defined stage => ?_⟩⟩,
      rfl, rfl, rfl, rfl, rfl, rfl, rfl, rfl, rfl,
      (State.allocate_forward segment g t).trans (min_def_lt ..),
      (State.allocate_reverse segment g t).trans (min_def_lt ..),
      State.allocate_clamped segment g t, s.allocate_zero c g t⟩
    have recipe : s.recipeOf r = some rec := by rw [State.recipeOf, names, Option.bind_some, defined]
    rw [State.contributor_of_stage recipe segment stage]
    exact ⟨rfl, rfl⟩

end Sys2Proof.Machine
end

section
/-! PROOFS. What most events do to the line link: they raise notices, and leave it otherwise as it is; O56. -/

namespace Sys2Proof.Machine

/-- The line link after notices have been raised, each kind joining where it is not pending (R192). -/
def LineLink.joining (l : LineLink) (ks : List NoticeKind) : LineLink :=
  { l with notices := ks.foldl (fun p k => joinNotices k p) l.notices }

/-- From `s` to `t` nothing has happened at the line link but that notices were raised. -/
def Raises (s t : State) : Prop := ∃ ks, t.link = s.link.joining ks

namespace Raises

theorem of_link {s t : State} (h : t.link = s.link) : Raises s t := ⟨[], h⟩

theorem refl (s : State) : Raises s s := of_link rfl

theorem trans {s t u : State} : Raises s t → Raises t u → Raises s u := by
  rintro ⟨ks, h⟩ ⟨js, k⟩
  exact ⟨ks ++ js, by rw [k, h]; simp [LineLink.joining]⟩

/-- What does as a part of an event says raises the part's notices. -/
theorem of_part {f : State → Effects} (leaves : LeavesLinks f) {s t : State} (h : t = (f s).live) : Raises s t := by
  refine ⟨(f s).notices, ?_⟩
  rw [h, ← (leaves s).1]
  rfl

/-- The same of a part that is said to come after what an event has done already, here nothing. -/
theorem after_quiet {f : State → Effects} (leaves : LeavesLinks f) {s t : State} (h : t = (s.quiet.andThen f).live) :
    Raises s t := of_part leaves h

theorem before {s u t : State} (h : Raises u t) (link : u.link = s.link) : Raises s t := (of_link link).trans h

theorem foldl {f : State → α → State} (h : ∀ s a, Raises s (f s a)) : ∀ (l : List α) (s : State),
    Raises s (l.foldl f s)
  | [], s => refl s
  | a :: l, s => (h s a).trans (foldl h l (f s a))

theorem forList {f : Chan → State → State} (h : ∀ c s, Raises s (f c s)) (l : List Chan) (s : State) :
    Raises s (s.forList l f) := foldl (fun t c => h c t) l s

theorem forChans {f : Chan → State → State} (h : ∀ c s, Raises s (f c s)) (s : State) : Raises s (s.forChans f) :=
  forList h Chan.all s

/-! ### The shared operations -/

theorem updChan (s : State) (c : Chan) (f : Channel → Channel) : Raises s (s.updChan c f) := of_link rfl

theorem raise (s : State) (k : NoticeKind) : Raises s (s.raise k) := ⟨[k], rfl⟩

theorem changeLineStop (s : State) (f : LineStopCauses → LineStopCauses) : Raises s (s.changeLineStop f) :=
  after_quiet (f := fun s => ⟨{ s with lineStop := f s.lineStop }, [], lineStopNotice s.lineStop (f s.lineStop)⟩)
    (fun _ => ⟨rfl, rfl⟩) (by rw [← changeLineStop_live, State.quiet_live])

theorem arbiter (s : State) (g : BusGroup) : Raises s (s.arbiter g) :=
  after_quiet (.arbitrated g) (by rw [← arbiter_live, State.quiet_live])

theorem arbiterOf (s : State) (c : Chan) : Raises s (s.arbiterOf c) :=
  after_quiet (.arbitratedFor c) (by rw [← arbiterOf_live, State.quiet_live])

theorem toFaulted (s : State) (c : Chan) (cause : FaultCause) : Raises s (s.toFaulted c cause) :=
  after_quiet (.faulting c cause) (by rw [← toFaulted_live, State.quiet_live])

theorem toDormant (s : State) (c : Chan) : Raises s (s.toDormant c) := by
  unfold State.toDormant
  dsimp only
  split
  · exact (arbiterOf ..).before rfl
  · exact of_link rfl

theorem startOccasion (s : State) (c : Chan) : Raises s (s.startOccasion c) :=
  after_quiet (.started [c]) (by rw [← startOccasion_live, State.quiet_live])

theorem startOccasions (s : State) : Raises s s.startOccasions :=
  after_quiet (.started Chan.all) (by rw [← startOccasions_live, State.quiet_live])

theorem loneZeroIfDue (s : State) (c : Chan) : Raises s (s.loneZeroIfDue c) :=
  after_quiet (.putChannel c Channel.asking) (by rw [← loneZeroIfDue_live, State.quiet_live])

theorem toReady (s : State) (c : Chan) : Raises s (s.toReady c) :=
  ((updChan ..).trans (loneZeroIfDue ..)).trans (startOccasion ..)

theorem sample (s : State) (c : Chan) (x : Sample) : Raises s (s.sample c x) :=
  after_quiet (f := State.sampling c x) (fun _ => ⟨rfl, rfl⟩) (by rw [← sample_live, State.quiet_live])

theorem toAlign (s : State) (c : Chan) (g : Nat) : Raises s (s.toAlign c g) :=
  (updChan ..).trans (sample ..)

theorem startPeriod (s : State) (c : Chan) (g : Nat) : Raises s (s.startPeriod c g) := by
  unfold State.startPeriod
  split
  · exact toReady ..
  · exact of_link rfl

theorem takeRule (s : State) (c : Chan) (ended : Option Nat) : Raises s (s.takeRule c ended) := by
  unfold State.takeRule
  split
  · exact toReady ..
  · split
    · exact startPeriod ..
    · exact toAlign ..

theorem drainEnds (s : State) (c : Chan) (d : Destination) : Raises s (s.drainEnds c d) := by
  unfold State.drainEnds
  split
  · split
    · exact (toReady _ c).before rfl
    · exact toReady ..
  · exact toDormant ..

theorem beginDrain (s : State) (c : Chan) (d : Destination) : Raises s (s.beginDrain c d) := by
  unfold State.beginDrain
  split
  · exact updChan ..
  · split
    · exact toReady ..
    · exact toDormant ..

theorem zeroOutcome (s : State) (c : Chan) (lone valid : Bool) : Raises s (s.zeroOutcome c lone valid) :=
  after_quiet (.outcomeTaken c _ lone valid) (by rw [← zeroOutcome_live, State.quiet_live])

theorem leaveIfDone (s : State) (entry : Nat) : Raises s (s.leaveIfDone entry) :=
  after_quiet (.left entry) (by rw [← leaveIfDone_live, State.quiet_live])

/-! ### Reports -/

theorem account (s : State) (p : PeriodRecord) (note : CloseNote) (report : Option PeriodReport) :
    Raises s (s.account p note report) :=
  after_quiet (.accounted p note report) (by rw [← account_live, State.quiet_live])

theorem settleWindow (s : State) (c : Chan) (w : Window) (report : Option PeriodReport) :
    Raises s (s.settleWindow c w report) :=
  after_quiet (.windowSettled c _ w.kind report) (by rw [← settleWindow_live, State.quiet_live])

theorem heard_keepZero (s : State) (c : Chan) (r : PeriodReport) : Raises s ((s.heard c).keepZero c r) := by
  unfold State.keepZero
  split <;> exact of_link rfl

theorem reportFault (s : State) (c : Chan) (r : PeriodReport) : Raises s (s.reportFault c r) :=
  after_quiet (.reportEnds c r) (by rw [← reportFault_live, State.quiet_live])

theorem earlyStop (s : State) (c : Chan) (p : InFlight) (r : PeriodReport) : Raises s (s.earlyStop c p r) := by
  unfold State.earlyStop
  dsimp only
  have accounted := ((updChan s c fun ch => { ch.zeroed with period := .idle }).trans (heard_keepZero _ c r)).trans
    (account _ p.record (closeNote p true (s.chan c).stale) (some r))
  split
  · exact (accounted.trans (zeroOutcome ..)).trans (reportFault ..)
  · exact accounted.trans (reportFault ..)

theorem takeReport (s : State) (c : Chan) (r : PeriodReport) : Raises s (s.takeReport c r) := by
  unfold State.takeReport
  split
  · exact refl s
  · split
    · exact (((updChan ..).trans (heard_keepZero ..)).trans (settleWindow ..)).trans (reportFault ..)
    · split
      · split
        · exact earlyStop ..
        · exact updChan ..
      · exact updChan ..

theorem missed (s : State) (c : Chan) : Raises s (s.missed c) :=
  after_quiet (.missing c) (by rw [← missed_live, State.quiet_live])

theorem windowCloses (s : State) (c : Chan) : Raises s (s.windowCloses c) := by
  unfold State.windowCloses
  split
  · exact refl s
  · exact ((updChan ..).trans (settleWindow ..)).trans (missed ..)

theorem takeArmReport (s : State) (c : Chan) (code : Nat) : Raises s (s.takeArmReport c code) := by
  unfold State.takeArmReport
  split
  · split
    · exact ((updChan ..).trans (toReady ..)).trans (arbiterOf ..)
    · exact toFaulted ..
  · split
    · exact refl s
    · exact updChan ..

/-! ### Clocks and timers -/

theorem passBoundary (s : State) (entry : Nat) (k : PhaseClock) (t : Timing) : Raises s (s.passBoundary entry k t) := by
  have turn (c : Chan) (u : State) :
      Raises u (if (u.chan c).period = .align entry then u.alignEnds c entry else u) := by
    unfold State.alignEnds
    split
    · split
      · exact startPeriod ..
      · exact takeRule ..
    · exact refl u
  exact (forChans turn _).before rfl

theorem phaseIntervalEnds (s : State) (entry : Nat) : Raises s (s.phaseIntervalEnds entry) := by
  unfold State.phaseIntervalEnds
  split
  · exact refl s
  · split
    · exact of_link rfl
    · exact passBoundary ..

theorem phaseBoundaryComes (s : State) (entry : Nat) : Raises s (s.phaseBoundaryComes entry) := by
  unfold State.phaseBoundaryComes
  split
  · exact refl s
  · split
    · exact passBoundary ..
    · exact refl s

theorem endPeriod (s : State) (c : Chan) (p : InFlight) : Raises s (s.endPeriod c p) := by
  unfold State.endPeriod State.stepDrain
  refine (updChan s c (Channel.closed false)).trans ?_
  dsimp only
  split
  · split
    · exact drainEnds ..
    · split
      · exact startPeriod ..
      · exact drainEnds ..
  · exact takeRule ..

theorem channelIntervalEnds (s : State) (c : Chan) : Raises s (s.channelIntervalEnds c) := by
  unfold State.channelIntervalEnds
  split
  · split
    · exact updChan ..
    · exact endPeriod ..
  · exact refl s

theorem periodEnds (s : State) (c : Chan) : Raises s (s.periodEnds c) := by
  unfold State.periodEnds
  split
  · split
    · exact endPeriod ..
    · exact refl s
  · exact refl s

theorem zeroTimerEnds (s : State) (c : Chan) : Raises s (s.zeroTimerEnds c) := by
  unfold State.zeroTimerEnds
  split
  · exact (updChan ..).trans (loneZeroIfDue ..)
  · exact refl s

theorem retryEnds (s : State) (c : Chan) : Raises s (s.retryEnds c) := by
  unfold State.retryEnds
  split
  · exact (updChan ..).trans (loneZeroIfDue ..)
  · exact refl s

theorem armingExpires (s : State) (c : Chan) : Raises s (s.armingExpires c) := by
  unfold State.armingExpires
  split
  · exact toFaulted ..
  · exact refl s

theorem restEnds (s : State) (c : Chan) : Raises s (s.restEnds c) := by
  unfold State.restEnds
  dsimp only
  split
  · split
    · exact (updChan ..).trans (arbiterOf ..)
    · exact updChan ..
  · exact refl s

theorem spacingReached (s : State) (g : BusGroup) : Raises s (s.spacingReached g) := by
  unfold State.spacingReached
  dsimp only
  split
  · exact (arbiter _ g).before rfl
  · exact refl s

theorem holdMillisecond (s : State) : Raises s s.holdMillisecond := by
  unfold State.holdMillisecond
  split <;> exact of_link rfl

/-! ### Interlocks and BOOT -/

theorem addHoldCause (s : State) (f : HoldCauses → HoldCauses) : Raises s (s.addHoldCause f) :=
  after_quiet (.holding f) (by rw [← addHoldCause_live, State.quiet_live])

theorem latch (s : State) (i : Input) : Raises s (s.latch i) := by
  have latches : LeavesLinks fun t => t.latching i := fun t => by
    obtain ⟨index, e⟩ := t.latching_eq i
    change (t.latching i).state.link = _ ∧ (t.latching i).state.moduleLink = _
    rw [e]
    exact t.latchEnd_links i index
  exact of_part latches (latch_live s i)

theorem latchIfLevel (s : State) (i : Input) : Raises s (s.latchIfLevel i) := by
  unfold State.latchIfLevel
  dsimp only
  split
  · exact latch ..
  · exact refl s

theorem unlatch (s : State) (i : Input) : Raises s (s.unlatch i) := by
  have ended (c : Chan) (t : State) : Raises t (t.inhibitionEnds c) := by
    unfold State.inhibitionEnds
    split
    · exact (updChan ..).trans (startOccasion ..)
    · exact refl t
  have turned (t : State) : Raises t t.interlockToCommand := by
    unfold State.interlockToCommand
    split <;> exact of_link rfl
  have freed (l : List Chan) : Raises s
      ((s.updInterlock i fun x => { x with latched := false }).forList l fun c s => s.inhibitionEnds c) :=
    (forList ended l _).before rfl
  unfold State.unlatch
  dsimp only
  split <;> split
  · exact ((freed _).trans (turned _)).trans (changeLineStop ..)
  · exact (freed _).trans (turned _)
  · exact (freed _).trans (changeLineStop ..)
  · exact freed _

theorem interlockChanges (s : State) (i : Input) (l : Level) : Raises s (s.interlockChanges i l) := by
  unfold State.interlockChanges State.followLevel
  dsimp only
  split
  · exact of_link rfl
  · split
    · exact (latch _ i).before rfl
    · exact of_link rfl

theorem bootEnds (s : State) : Raises s s.bootEnds := by
  unfold State.bootEnds
  split
  · let u : State := { s with bootTimer := none, channels := mapVec Channel.settled s.channels, mode := .offline }
    have levels (t : State) : Raises t t.takeLevels :=
      foldl (fun t i => (of_link rfl : Raises t (t.updInterlock i _))) _ t
    have latched (t : State) : Raises t (Input.all.foldl (fun t i => t.latchIfLevel i) t) := foldl latchIfLevel _ t
    have raised : Raises s (u.raise .lineMode) := (raise u .lineMode).before rfl
    exact (raised.trans (levels _)).trans (latched _)
  · exact refl s

/-! ### The eye and the millimetre -/

theorem trackingCause (s : State) (f : LineStopCauses → LineStopCauses) : Raises s (s.trackingCause f) :=
  (raise ..).trans (changeLineStop ..)

theorem examineEye (s : State) : Raises s s.examineEye :=
  after_quiet .eyeSeen (by rw [← examineEye_live, State.quiet_live])

theorem eyeChanges (s : State) (l : Level) : Raises s (s.eyeChanges l) := by
  unfold State.eyeChanges
  split
  · exact refl s
  · exact (examineEye _).before rfl

theorem takeForwardPulse (s : State) : Raises s s.takeForwardPulse := by
  unfold State.takeForwardPulse
  split
  · exact refl s
  · dsimp only
    split
    · split
      · exact (examineEye _).before rfl
      · exact of_link rfl
    · split
      · exact of_part .advanced (advance_live s)
      · exact of_link rfl

theorem takeReversePulse (s : State) : Raises s s.takeReversePulse := by
  unfold State.takeReversePulse
  split
  · exact refl s
  · dsimp only
    split
    · exact (trackingCause _ _).before rfl
    · exact of_link rfl

theorem stallExpires (s : State) : Raises s s.stallExpires := by
  unfold State.stallExpires
  split
  · dsimp only
    split
    · exact (addHoldCause _ _).before rfl
    · exact of_link rfl
  · exact refl s

/-! ### Requests -/

theorem serveConfiguration (s : State) :
    (∀ p, Raises s (serveSetProfile p s).state) ∧ (∀ x, Raises s (serveSetSegment x s).state) ∧
    (∀ c f r, Raises s (serveSetLimits c f r s).state) ∧ (∀ n r, Raises s (serveSetRecipe n r s).state) ∧
    (∀ n, Raises s (serveClearRecipe n s).state) ∧ ∀ n l, Raises s (serveSetRamp n l s).state := by
  have put (n : Nat) (r : Option Recipe) : Raises s (s.putRecipe n r) := by
    unfold State.putRecipe
    split <;> exact of_link rfl
  refine ⟨fun p => ?_, fun x => ?_, fun c f r => ?_, fun n r => ?_, fun n => ?_, fun n l => ?_⟩
  · unfold serveSetProfile
    (repeat' split) <;> exact of_link rfl
  · unfold serveSetSegment
    (repeat' split) <;> exact of_link rfl
  · unfold serveSetLimits
    (repeat' split) <;> exact of_link rfl
  · unfold serveSetRecipe
    split
    · exact refl s
    · split
      · exact refl s
      · exact put ..
  · unfold serveClearRecipe
    split
    · exact refl s
    · split
      · exact refl s
      · split
        · exact refl s
        · exact put ..
  · unfold serveSetRamp
    (repeat' split) <;> exact of_link rfl

theorem setModes (s : State) : Raises s s.setModeRun.2 ∧ Raises s s.setModeHold.2 ∧ Raises s s.setModeStandby.2 ∧
    Raises s s.setModeOffline.2 := by
  have standby : Raises s s.toStandby := of_part .standing (toStandby_live s)
  have run : Raises s s.standbyToRun := by
    have back : LeavesLinks fun t => t.drainsCancelled.quiet.andThen (State.started Chan.all) :=
      fun t => LeavesLinks.started Chan.all t.drainsCancelled
    exact of_part back (standbyToRun_live s)
  refine ⟨?_, ?_, ?_, ?_⟩
  · unfold State.setModeRun
    split
    · (repeat' split) <;> exact of_link rfl
    · exact refl s
    · split
      · exact refl s
      · dsimp only
        split <;> exact of_link rfl
    · split
      · exact refl s
      · dsimp only
        exact run
    · exact refl s
  · unfold State.setModeHold
    split
    · dsimp only
      exact (startOccasions _).before rfl
    all_goals exact of_link rfl
  · unfold State.setModeStandby
    split
    · dsimp only
      exact standby
    · dsimp only
      exact standby
    all_goals exact refl s
  · unfold State.setModeOffline
    (repeat' split) <;> exact of_link rfl

theorem serveSetMode (m : Option RequestedMode) (s : State) : Raises s (serveSetMode m s).state := by
  obtain ⟨run, hold, standby, offline⟩ := setModes s
  unfold Machine.serveSetMode
  split
  · exact refl s
  all_goals rw [modeServed_state]; assumption

theorem serveChannels (l : List Nat) (s : State) :
    Raises s (serveArmChannels l s).state ∧ Raises s (serveDisarmChannels l s).state ∧
    Raises s (serveClearFault l s).state := by
  have rested (t : State) : Raises t t.clearedRest.2 := by
    unfold State.clearedRest
    split <;> exact of_link rfl
  have cleared (t : State) (c : Chan) : Raises t (t.clearFaultOf c) :=
    (rested t).trans (updChan t.clearedRest.2 c fun ch => { ch with state := .dormant, rest := t.clearedRest.1 })
  refine ⟨?_, ?_, ?_⟩
  · unfold serveArmChannels
    split
    · exact refl s
    · split
      · exact refl s
      · exact refl s
      · exact forList (fun c t => after_quiet (.armed c) (by rw [← armChannel_live, State.quiet_live])) _ s
  · unfold serveDisarmChannels
    split
    · exact refl s
    · exact forList (fun c t => after_quiet (.disarmed c) (by rw [← disarmChannel_live, State.quiet_live])) _ s
  · unfold serveClearFault
    split
    · exact refl s
    · exact refl s
    · exact forList (fun c t => cleared t c) _ s

theorem servePanels (s : State) :
    (∀ e, Raises s (serveAnnouncePanel e s).state) ∧ (∀ n, Raises s (serveWithdrawPanel n s).state) ∧
    (∀ n, Raises s (serveRemovePanel n s).state) ∧ (∀ n, Raises s (serveQueryPanel n s).state) ∧
    Raises s (serveCollectExit s).state := by
  have removed (r : TrackRecord) : Raises s (s.removeRecord r) := by
    cases h : r.departing with
    | true => exact of_link (by rw [State.removeRecord, if_pos h])
    | false => exact of_part (.removed r.entry) (s.removeRecord_live h)
  refine ⟨fun e => ?_, fun n => ?_, fun n => ?_, fun n => ?_, ?_⟩
  · unfold serveAnnouncePanel
    (repeat' split) <;> exact of_link rfl
  · unfold serveWithdrawPanel
    (repeat' split) <;> exact of_link rfl
  · unfold serveRemovePanel
    split
    · exact refl s
    · split
      · exact refl s
      · split
        · exact refl s
        · exact removed _
  · unfold serveQueryPanel
    (repeat' split) <;> exact refl s
  · unfold serveCollectExit
    split
    · exact refl s
    · dsimp only
      split
      · exact (changeLineStop _ _).before rfl
      · exact of_link rfl

theorem serveInterlocks (s : State) (n : Nat) :
    (∀ k, Raises s (s.setInterlock n k).2) ∧ Raises s (s.ackInterlock n).2 := by
  refine ⟨fun k => ?_, ?_⟩
  · unfold State.setInterlock
    split
    · split
      · exact refl s
      · split
        · exact refl s
        · dsimp only
          split
          · exact (unlatch ..).trans ((latchIfLevel ..).before rfl)
          · exact (latchIfLevel ..).before rfl
    · exact refl s
  · unfold State.ackInterlock
    split
    · exact refl s
    · dsimp only
      split
      · exact refl s
      · split
        · exact refl s
        · exact unlatch ..

theorem serveMonitors (s : State) :
    (∀ n p, Raises s (serveSetMonitor n p s).state) ∧ (∀ o, Raises s (serveControlMonitor o s).state) ∧
    (∀ n, Raises s (serveReadAnode n s).state) ∧ (∀ n f r, Raises s (serveSetAnode n f r s).state) ∧
    (∀ n k, Raises s (serveQueryChannel n k s).state) ∧ Raises s (serveRestart s).state := by
  refine ⟨fun n p => ?_, fun o => ?_, fun n => ?_, fun n f r => ?_, fun n k => ?_, ?_⟩
  · unfold serveSetMonitor
    (repeat' split) <;> exact of_link rfl
  · unfold serveControlMonitor
    (repeat' split) <;> exact of_link rfl
  · unfold serveReadAnode
    split <;> exact refl s
  · unfold serveSetAnode
    split <;> exact of_link rfl
  · unfold serveQueryChannel
    (repeat' split) <;> exact refl s
  · unfold serveRestart
    split <;> exact refl s

/-- An owner that serves a request touches the line link by its notices alone. -/
theorem serve (r : Request) (s : State) : Raises s (serve r s).state := by
  obtain ⟨setProfile, setSegment, setLimits, setRecipe, clearRecipe, setRamp⟩ := serveConfiguration s
  obtain ⟨announce, withdraw, remove, queryPanel, collect⟩ := servePanels s
  obtain ⟨setMonitor, control, readAnode, setAnode, queryChannel, restart⟩ := serveMonitors s
  cases r with
  | setProfile p => exact setProfile p
  | setSegment x => exact setSegment x
  | setLimits c f r => exact setLimits c f r
  | setRecipe n r => exact setRecipe n r
  | clearRecipe n => exact clearRecipe n
  | setRamp n l => exact setRamp n l
  | setMode m => exact serveSetMode m s
  | restart => exact restart
  | armChannels l => exact (serveChannels l s).1
  | disarmChannels l => exact (serveChannels l s).2.1
  | clearFault l => exact (serveChannels l s).2.2
  | announcePanel e => exact announce e
  | withdrawPanel id => exact withdraw id
  | removePanel n => exact remove n
  | queryPanel n => exact queryPanel n
  | collectExit => exact collect
  | setInterlock n k => exact (serveInterlocks s n).1 k
  | ackInterlock n => exact (serveInterlocks s n).2
  | clearLineStop => exact changeLineStop ..
  | setMonitor n p => exact setMonitor n p
  | controlMonitor o => exact control o
  | readMonitor => exact refl s
  | readAnode n => exact readAnode n
  | setAnode n f r => exact setAnode n f r
  | queryChannel n k => exact queryChannel n k
  | queryLine => exact refl s

end Raises

end Sys2Proof.Machine
end

section
/-! PROOFS. The line link's own work: the receiver, the taking of requests, the transmitter, resets and time; and what
every step keeps of both links; O56. -/

namespace Sys2Proof.Machine

/-! ### What the invariant asks beyond a settled state -/

/-- A frame is held only behind a request in hand (R189), no notice kind is pending twice (R192), the receiver's store
fits its state, and HUNT measures no gap (R188). -/
structure LineLink.Sound (l : LineLink) : Prop where
  held : l.held = none ∨ l.inHand.isSome = true
  notices : l.notices.Nodup
  receiver : l.receiver.fits = true
  gap : l.receiver ≠ .hunt ∨ l.gap = 0

theorem State.linkInv_iff {s : State} : s.linkInv = true ↔ s.settled = true ∧ s.link.Sound := by
  simp only [State.linkInv, Bool.and_eq_true, Bool.or_eq_true, decide_eq_true_eq, Option.isNone_iff_eq_none]
  exact ⟨fun ⟨⟨⟨⟨settled, held⟩, notices⟩, receiver⟩, gap⟩ => ⟨settled, held, notices, receiver, gap⟩,
    fun ⟨settled, held, notices, receiver, gap⟩ => ⟨⟨⟨⟨settled, held⟩, notices⟩, receiver⟩, gap⟩⟩

namespace LineLink.Sound

theorem joining {l : LineLink} (h : l.Sound) (ks : List NoticeKind) : (l.joining ks).Sound := by
  have nodup : ∀ (ks : List NoticeKind) {p : List NoticeKind}, p.Nodup →
      (ks.foldl (fun p k => joinNotices k p) p).Nodup := by
    intro ks
    induction ks with
    | nil => exact fun hp => hp
    | cons k ks ih => exact fun hp => ih (joinNotices_nodup k hp)
  exact { h with notices := nodup ks h.notices }

/-- The receiver in a state that its store fits, the gap measured anew (R188). -/
theorem receive {l : LineLink} (h : l.Sound) {r : Receiver} (fits : r.fits = true) :
    LineLink.Sound { l with receiver := r, gap := 0 } := { h with receiver := fits, gap := .inr rfl }

theorem afterReset (rate : BitRate) : (LineLink.afterReset rate).Sound where
  held := .inl rfl
  notices := .nil
  receiver := rfl
  gap := .inr rfl

/-- A millisecond of the gap counts outside HUNT alone (R188). -/
theorem tick {l : LineLink} (h : l.Sound) : l.tick.Sound := by
  unfold LineLink.tick
  split
  · exact h
  · rename_i listening
    exact { h with gap := .inl listening }

end LineLink.Sound

theorem Raises.sound {s t : State} (h : Raises s t) (hs : s.link.Sound) : t.link.Sound := by
  obtain ⟨ks, e⟩ := h
  exact e ▸ hs.joining ks

theorem startOrder_link (o : Order) (s : State) : (startOrder o s).link = s.link := by
  unfold startOrder
  dsimp only
  split <;> rfl

/-- What ends a command starts a reply, or a notice that leaves the pending set (R193, R194). -/
theorem settle_sound {s : State} (h : s.link.Sound) : (settle s).link.Sound := by
  have pumped (t : State) : (pumpOrders t).link = t.link := by
    unfold pumpOrders
    split
    · exact startOrder_link ..
    · rfl
  have waits : (pumpOrders (flushOrders s)).link.Sound := by rw [pumped]; exact h
  unfold settle pumpTransmitter
  split
  · split
    · exact { waits with }
    · split
      · exact waits
      · rename_i pending
        have nodup := waits.notices
        rw [pending] at nodup
        exact { waits with notices := nodup.of_cons }
  · exact waits

theorem linkInv_done {s t : State} (h : s.link.Sound) (e : done s = .next t) : t.linkInv = true :=
  done_eq_next.1 e ▸ State.linkInv_iff.2 ⟨settle_settled s, settle_sound h⟩

/-! ### The taking of requests (R189, R190) -/

section
variable {s : State}

theorem sound_putInHand (h : s.link.Sound) (f : Frame) (code : ResultCode) (payload : ReplyPayload) (restarts : Bool) :
    (s.putInHand f code payload restarts).link.Sound := { h with held := .inr rfl }

theorem sound_takeRequest (h : s.link.Sound) (f : Frame) (r : Request) : (s.takeRequest f r).link.Sound := by
  unfold State.takeRequest
  split
  · exact sound_putInHand h ..
  · exact sound_putInHand ((Raises.serve r s).sound h) ..

theorem sound_takeFrame (h : s.link.Sound) (f : Frame) : (s.takeFrame f).link.Sound := by
  unfold State.takeFrame
  split
  · exact sound_putInHand h ..
  · exact sound_takeRequest h ..

theorem sound_meet (h : s.link.Sound) (f : Frame) {take : State → State}
    (ht : ∀ t : State, t.link.Sound → (take t).link.Sound) : (s.meet f take).link.Sound := by
  have hunting : (s.updLink fun l => { l with receiver := .hunt, gap := 0 }).link.Sound := h.receive rfl
  unfold State.meet
  split
  · exact h
  · dsimp only
    split
    · exact ht _ hunting
    · rename_i inHand _
      exact { hunting with held := .inr (by rw [State.updLink_link, inHand]; rfl) }
    · exact hunting

theorem sound_arrive (h : s.link.Sound) (f : Frame) : (s.arrive f).link.Sound :=
  sound_meet h f fun _ ht => sound_takeFrame ht f

/-! ### The receiver (R188) -/

theorem sound_receive (h : s.link.Sound) {r : Receiver} (fits : r.fits = true) : (s.receive r).link.Sound :=
  h.receive fits

theorem LineLink.Sound.listening {l : LineLink} (h : l.Sound) : l.listening.fits = true := by
  unfold LineLink.listening
  split
  · rfl
  · exact h.receiver

/-- A body byte leaves a body that is still short of its length, or one of exactly its length. -/
theorem Receiver.fits_store {n : Nat} {stored : List Byte} (fits : (Receiver.body n stored).fits = true) (b : Byte) :
    (if (stored ++ [b]).length = n then Receiver.check (stored ++ [b]) none
      else .body n (stored ++ [b])).fits = true := by
  obtain ⟨bounds, short⟩ : within 1 240 n = true ∧ stored.length < n := by simpa [Receiver.fits] using fits
  split
  · rename_i whole
    simpa only [Receiver.fits, whole] using bounds
  · rename_i more
    rw [List.length_append, List.length_singleton] at more
    simp only [Receiver.fits, bounds, Bool.true_and, decide_eq_true_eq, List.length_append, List.length_singleton]
    omega

theorem sound_takeByte (h : s.link.Sound) (b : Byte) : (s.takeByte b).link.Sound := by
  have stored := h.listening
  unfold State.takeByte
  split
  · exact h
  · split
    case h_1 => exact sound_receive h (by split <;> rfl)
    case h_2 =>
      refine sound_receive h ?_
      split
      · rename_i bounds
        obtain ⟨positive, -⟩ := within_iff.1 bounds
        simp only [Receiver.fits, bounds, Bool.true_and, List.length_nil, decide_eq_true_eq]
        omega
      · rfl
    case h_3 e => exact sound_receive h (Receiver.fits_store (e ▸ stored) b)
    case h_4 e =>
      rw [e] at stored
      exact sound_receive h stored
    case h_5 =>
      unfold State.checkEnds
      split
      · split
        · exact sound_arrive h _
        · exact sound_receive h rfl
      · exact sound_receive h rfl

/-! ### The transmitter, resets, time -/

theorem sound_restarts (s : State) : s.restarts.link.Sound := { LineLink.Sound.afterReset s.link.rate with }

theorem sound_powersOn (s : State) : s.powersOn.link.Sound := by
  unfold State.powersOn
  dsimp only
  split <;> exact { LineLink.Sound.afterReset s.link.rate with }

theorem sound_transmitted (h : s.link.Sound) : s.transmitted.link.Sound := by
  unfold State.transmitted
  split
  · exact h
  · exact { h with }
  · split
    · exact sound_restarts s
    · have sent : (s.updLink fun l => { l with tx := .idle, inHand := none, held := none }).link.Sound :=
        { h with held := .inl rfl }
      unfold State.replySent
      dsimp only
      split
      · exact sound_takeFrame sent _
      · exact sent

/-- A millisecond leaves the transmitter, the requests and the module link as they are. -/
theorem linkInv_millisecond (h : s.linkInv = true) : s.millisecond.linkInv = true := by
  obtain ⟨settled, sound⟩ := State.linkInv_iff.1 h
  have dwelt (t : State) : t.holdMillisecond.link = t.link ∧ t.holdMillisecond.moduleLink = t.moduleLink := by
    unfold State.holdMillisecond
    split <;> exact ⟨rfl, rfl⟩
  have ticked : s.timersTick.settled = true := by
    have link : s.timersTick.link = s.link.tick := rfl
    simpa [State.settled, link, LineLink.tick_eq, State.timersTick] using settled
  obtain ⟨link, moduleLink⟩ := dwelt s.timersTick
  refine State.linkInv_iff.2 ⟨State.settled_of_links ticked link moduleLink, ?_⟩
  rw [State.millisecond, link]
  exact sound.tick

/-! ### Every command, every step -/

theorem linkInv_exec (i : Instr) (s t : State) (hs : s.linkInv = true) (h : exec i s = .next t) : t.linkInv = true := by
  obtain ⟨-, sound⟩ := State.linkInv_iff.1 hs
  have raises {u : State} (hu : Raises s u) (h : done u = .next t) := linkInv_done (hu.sound sound) h
  cases hr : requestOf i with
  | some r =>
    rw [exec_of_request hr] at h
    exact linkInv_done (sound_meet sound _ fun _ ht => sound_takeRequest ht ..) h
  | none =>
    cases i with
    | powerOn b => exact linkInv_done (sound_powersOn _) h
    | resetLineActive =>
      have held : s.resetHolds.link.Sound := { LineLink.Sound.afterReset s.link.rate with }
      exact linkInv_done held h
    | resetLineRelease b =>
      refine linkInv_done ?_ h
      split
      · exact { LineLink.Sound.afterReset s.link.rate with }
      · exact sound
    | restartTakesEffect b =>
      refine linkInv_done ?_ h
      split
      · exact sound_restarts _
      · exact sound
    | bootEnd => exact raises (.bootEnds s) h
    | presenceReply c =>
      refine raises ?_ h
      unfold State.takePresence
      split
      · exact .updChan ..
      · exact .refl s
    | forwardPulse => exact raises (.takeForwardPulse s) h
    | reversePulse => exact raises (.takeReversePulse s) h
    | eyeChange l => exact raises (.eyeChanges s l) h
    | stallTimerExpiry => exact raises (.stallExpires s) h
    | phaseIntervalEnd n => exact raises (.phaseIntervalEnds s n) h
    | phaseBoundary n => exact raises (.phaseBoundaryComes s n) h
    | channelIntervalEnd c => exact raises (.channelIntervalEnds s c) h
    | periodEnd c => exact raises (.periodEnds s c) h
    | zeroTimerExpiry c => exact raises (.zeroTimerEnds s c) h
    | loneZeroRetryExpiry c => exact raises (.retryEnds s c) h
    | periodReport c r => exact raises (.takeReport s c r) h
    | reportWindowClose c => exact raises (.windowCloses s c) h
    | armReport c n => exact raises (.takeArmReport s c n) h
    | armingTimeout c => exact raises (.armingExpires s c) h
    | contactorRestEnd c => exact raises (.restEnds s c) h
    | armingSpacingReached g => exact raises (.spacingReached s g) h
    | interlockInputChange i l => exact raises (.interlockChanges s i l) h
    | frameReceived k p => exact linkInv_done (sound_arrive sound _) h
    | interByteGap => exact linkInv_done (sound_receive sound (r := .hunt) rfl) h
    | framingError => exact linkInv_done (sound_receive sound (r := .hunt) rfl) h
    | transmitComplete => exact linkInv_done (sound_transmitted sound) h
    | badKind k =>
      refine linkInv_done ?_ h
      split
      · exact sound_arrive sound _
      · exact sound
    | receivedByte b => exact linkInv_done (sound_takeByte sound b) h
    | moduleOrderSent => exact linkInv_done (s := s.orderSent) sound h
    | holdDwellMillisecond => exact raises (.holdMillisecond s) h
    | _ => cases hr

end

/-- Settles O56: whatever a command does, what ends it leaves both links settled; most events only raise notices, and the
receiver, the taking of requests, the transmitter, the resets and the millisecond are looked at one by one. -/
theorem stepKeepsLinkInv : Obligations.StepKeepsLinkInv := by
  unfold Obligations.StepKeepsLinkInv
  intro s t hs h
  exact step_keeps (P := fun u => u.linkInv = true) (fun _ _ hu => hu) (fun _ _ hu => hu)
    (fun _ hu => linkInv_millisecond hu) linkInv_exec hs h

end Sys2Proof.Machine
end

section
/-! PROOFS. The end of an order's transmission on the module link, and the order of one event's orders (R100); O25. -/

namespace Sys2Proof.Machine

/-! ### The module link starts an order -/

theorem startOrder_plain {o : Order} (h : ∀ tag, o.body ≠ .zero tag) (s : State) :
    startOrder o s = { s with moduleLink := { s.moduleLink with sending := some o } } := by
  unfold startOrder
  dsimp only
  split
  · rename_i tag e
    exact absurd e (h tag)
  · rfl

/-- The report window of a Zero Order opens at its start (R103; log 9). -/
theorem startOrder_zero {o : Order} {tag : Nat} (h : o.body = .zero tag) (s : State) :
    startOrder o s =
      { s with
        moduleLink := { s.moduleLink with sending := some o }
        channels := s.withChan o.channel
          { s.chan o.channel with windows := (s.chan o.channel).windows ++ [⟨tag, 20, .zeroOrder⟩] } } := by
  unfold startOrder
  rw [h]
  rfl

/-- With nothing waiting the link is free, and the line settled. -/
theorem done_orderSent_none {s : State} (h : s.settled = true) (waiting : s.moduleLink.waiting = []) :
    done s.orderSent = .next s.orderSent := by
  obtain ⟨outbox, -, idle⟩ := State.settled_iff.1 h
  rw [done, settle_of_settled (s := s.orderSent) (State.settled_iff.2 ⟨outbox, fun _ => waiting, idle⟩)]

/-- The order that has waited longest is started (R100). -/
theorem done_orderSent_some {s : State} (h : s.settled = true) {o : Order} {rest : List Order}
    (waiting : s.moduleLink.waiting = o :: rest) : done s.orderSent =
      .next (startOrder o { s with moduleLink := ⟨none, rest, s.moduleLink.outbox⟩ }) := by
  obtain ⟨outbox, -, idle⟩ := State.settled_iff.1 h
  have started : pumpOrders s.orderSent = startOrder o { s with moduleLink := ⟨none, rest, s.moduleLink.outbox⟩ } := by
    unfold pumpOrders State.orderSent
    dsimp only
    rw [waiting]
  rw [done, settle, flushOrders_nil (s := s.orderSent) outbox, started,
    pumpTransmitter_of_idle (by rw [startOrder_link]; exact idle)]

/-! ### The orders of one event -/

theorem Chan.all_sorted : Chan.all.Pairwise (· < ·) := List.pairwise_lt_finRange 40

theorem sortOrders_sorted (l : List Order) : ((sortOrders l).map fun o => o.channel.val).Pairwise (· ≤ ·) := by
  rw [List.pairwise_map, sortOrders, List.pairwise_flatMap]
  have channel {c : Chan} {o : Order} (h : o ∈ l.filter fun o => o.channel = c) : o.channel = c := by
    simpa using (List.mem_filter.1 h).2
  refine ⟨fun c _ => List.pairwise_of_forall_mem_list fun o ho p hp => ?_, Chan.all_sorted.imp fun lt o ho p hp => ?_⟩
  · rw [channel ho, channel hp]
  · rw [channel ho, channel hp]
    exact le_of_lt lt

theorem sortOrders_filter (l : List Order) (c : Chan) :
    ((sortOrders l).filter fun o => o.channel = c) = l.filter fun o => o.channel = c := by
  have own : (fun d => (l.filter fun o => o.channel = d).filter fun o => o.channel = c) =
      fun d => if d = c then l.filter fun o => o.channel = c else [] := by
    funext d
    rw [List.filter_filter]
    by_cases h : d = c
    · subst h
      simp
    · rw [if_neg h]
      exact List.filter_eq_nil_iff.2 fun o _ => by
        simpa using fun (e : o.channel = c) (k : o.channel = d) => h (k.symm.trans e)
  rw [sortOrders, List.filter_flatMap, own, flatMap_single _ Chan.all_nodup, if_pos (Chan.mem_all c)]

/-- Settles O25: with nothing waiting, with an order waiting that is a Zero Order or none, and the orders by channel. -/
theorem orderSent : Obligations.OrderSent := by
  unfold Obligations.OrderSent
  refine ⟨fun s h => ⟨done_orderSent_none h, ?_⟩, fun l => ⟨sortOrders_sorted l, sortOrders_filter l⟩⟩
  intro o rest _ waiting next
  refine ⟨fun plain => ?_, fun tag zero => ?_⟩
  · change done s.orderSent = _
    rw [done_orderSent_some h waiting, startOrder_plain plain]
  · change done s.orderSent = _
    rw [done_orderSent_some h waiting, startOrder_zero zero]
    rfl

end Sys2Proof.Machine
end

section
/-! PROOFS. The entries into FAULTED from ARMING (R110, R111, R118); O23. -/

namespace Sys2Proof.Machine

section
variable {s : State} {c : Chan}

theorem State.takeArmReport_faulted {code : Nat} (arming : (s.chan c).state.isArming = true)
    (out : ⟨c, .arm⟩ ∉ s.moduleLink.waiting) (fault : code ≠ 0) :
    s.takeArmReport c code = s.toFaulted c (.moduleFault code) := by
  have unsent : s.unsent c .arm = false := by rw [← Bool.not_eq_true, State.unsent_iff]; exact out
  simp only [State.takeArmReport, arming, unsent, Bool.not_false, Bool.and_self, if_true, if_neg fault]

theorem done_toFaulted (h : s.settled = true) (c : Chan) (cause : FaultCause) :
    done (s.toFaulted c cause) = .next (s.faultTaken c (s.chan c) cause).ended :=
  (LeavesLinks.faulting c cause).done h (by rw [← toFaulted_live, State.quiet_live])

/-- With none waiting to arm no queue has anything to lose. -/
theorem State.groups_filter (queued : s.allQueued = []) (p : Chan → Bool) :
    (s.groups.map fun q => { q with queue := q.queue.filter p }) = s.groups := by
  have queue : ∀ q ∈ s.groups, q.queue = [] := fun q hq =>
    List.flatMap_eq_nil_iff.1 queued q (Vector.mem_toList_iff.2 hq)
  refine Vector.ext fun i hi => ?_
  have empty := queue s.groups[i] (Vector.getElem_mem hi)
  rw [Vector.getElem_map, empty, List.filter_nil, ← empty]

/-- The record of a channel whose ARMING has ended in FAULTED (R61, R118). -/
def Channel.armingFaulted (cause : FaultCause) (ch : Channel) : Channel :=
  { ch with
    state := .faulted cause
    contactorClosed := false
    missing := 0
    forward := 0
    reverse := 0
    rest := none
    index := 0
    zero := .none
    stale := false
    zeroTimer := none
    retry := none }

/-- An ARMING channel that fits has its contactor closed and no period (R61, R98). -/
theorem Channel.faulted_of_arming {ch : Channel} (ok : ch.ok = true) (arming : ch.state.isArming = true)
    (cause : FaultCause) : ch.faulted cause = (ch.armingFaulted cause, [.disarm]) := by
  obtain ⟨idle, closed⟩ : ch.period = .idle ∧ ch.contactorClosed = true := by
    cases hs : ch.state <;> cases hp : ch.period <;>
      simp_all [Channel.ok, ChannelState.isArming, ChannelState.isOut]
  simp only [Channel.faulted, Channel.stopped, idle, closed, Channel.blank, Channel.armingFaulted, if_true,
    List.nil_append]

/-- An ARMING that ends in FAULTED with none waiting to arm: the record, its Disarm Order and CHANNEL_FAULT. -/
theorem State.faultTaken_alone (fit : s.Fit) (arming : (s.chan c).state.isArming = true) (queued : s.allQueued = [])
    (cause : FaultCause) : s.faultTaken c (s.chan c) cause =
      ⟨{ s with channels := s.withChan c ((s.chan c).armingFaulted cause) }, [⟨c, .disarm⟩], [.channelFault]⟩ := by
  have sound : (s.chan c).state.isFaulted = false := by
    cases hs : (s.chan c).state <;> simp_all [ChannelState.isArming, ChannelState.isFaulted]
  unfold State.faultTaken
  rw [sound, Channel.faulted_of_arming (fit.ok c trivial) arming cause]
  dsimp only
  rw [State.groups_filter queued, arming]
  simp only [Effects.andThen, Bool.false_eq_true, if_false, if_true]
  rw [State.arbitratedFor_of_none (by exact queued)]
  rfl

end

/-- Settles O23: the two ends of an ARMING in FAULTED are the fault taken on the channel's own record, which with none
waiting to arm is the cleared record alone. -/
theorem armingEndsFaulted : Obligations.ArmingEndsFaulted := by
  unfold Obligations.ArmingEndsFaulted
  intro s c n h
  have timer (arming : (s.chan c).state.isArming = true) :
      exec (.armingTimeout c) s = .next (s.faultTaken c (s.chan c) .armTimeout).ended := by
    change done (s.armingExpires c) = _
    rw [State.armingExpires, if_pos arming, done_toFaulted h]
  have report (arming : (s.chan c).state.isArming = true) (code : Nat) (fault : code ≠ 0)
      (out : ⟨c, .arm⟩ ∉ s.moduleLink.waiting) :
      exec (.armReport c code) s = .next (s.faultTaken c (s.chan c) (.moduleFault code)).ended := by
    change done (s.takeArmReport c code) = _
    rw [State.takeArmReport_faulted arming out fault, done_toFaulted h]
  refine ⟨fun other => ?_, fun arming => ?_, fun inv arming queued => ?_⟩
  · change done (s.armingExpires c) = _
    rw [State.armingExpires, if_neg (by simp [other])]
    exact done_of_links h rfl rfl
  · have isArming : (s.chan c).state.isArming = true := by rw [arming]; rfl
    exact ⟨timer isArming, report isArming⟩
  · intro faulted
    have isArming : (s.chan c).state.isArming = true := by rw [arming]; rfl
    have ended (cause : FaultCause) : (s.faultTaken c (s.chan c) cause).ended = faulted cause := by
      rw [State.faultTaken_alone (State.channelInv_iff.1 inv) isArming queued, Effects.ended,
        State.issued_order (by simp)]
      rfl
    exact ⟨(timer isArming).trans (by rw [ended]), fun code fault out =>
      (report isArming code fault out).trans (by rw [ended])⟩

end Sys2Proof.Machine
end

section
/-! PROOFS. The end of BOOT (R148): the interlock inputs take their levels, and those that then latch do so one after
another (R160, R162, R168); O7. -/

namespace Sys2Proof.Machine

/-! ### Presence replies (R101, R121) -/

section
variable {s : State} {c : Chan}

theorem State.takePresence_noted (boot : s.bootTimer.isSome = true) (out : ⟨c, .presencePoll⟩ ∉ s.moduleLink.waiting) :
    s.takePresence c = s.updChan c fun ch => { ch with present := true } := by
  have unsent : s.unsent c .presencePoll = false := by rw [← Bool.not_eq_true, State.unsent_iff]; exact out
  rw [State.takePresence, boot, unsent]
  rfl

theorem State.takePresence_discarded (h : s.bootTimer = none ∨ ⟨c, .presencePoll⟩ ∈ s.moduleLink.waiting) :
    s.takePresence c = s := by
  refine if_neg ?_
  rw [Bool.and_eq_true, Bool.not_eq_true']
  rintro ⟨boot, sent⟩
  rcases h with stopped | waits
  · simp [stopped] at boot
  · rw [(s.unsent_iff c _).2 waits] at sent
    exact absurd sent (by simp)

end

/-! ### Notices that are pending already -/

theorem LineLink.joining_append (l : LineLink) (ks js : List NoticeKind) :
    l.joining (ks ++ js) = (l.joining ks).joining js := by simp [LineLink.joining]

/-- A kind raised again joins nothing (R192). -/
theorem LineLink.joining_again {l : LineLink} {ks : List NoticeKind} {k : NoticeKind} (h : k ∈ ks) (js : List NoticeKind) :
    l.joining (ks ++ k :: js) = l.joining (ks ++ js) := by
  have pending : k ∈ (l.joining ks).notices := mem_foldl_joinNotices.2 (.inr h)
  rw [l.joining_append ks, l.joining_append ks]
  unfold LineLink.joining at *
  rw [List.foldl_cons, joinNotices, if_pos pending]

/-- The first of the pending kinds stays the first. -/
theorem foldl_joinNotices_head (k : NoticeKind) : ∀ (ks p : List NoticeKind),
    ∃ rest, ks.foldl (fun p k => joinNotices k p) (k :: p) = k :: rest
  | [], p => ⟨p, rfl⟩
  | j :: ks, p => by
    rw [List.foldl_cons]
    unfold joinNotices
    split
    · exact foldl_joinNotices_head k ks p
    · exact foldl_joinNotices_head k ks (p ++ [j])

/-- An idle transmitter begins to send the first notice of an event (R193, R194). -/
theorem LineLink.raising_tx {l : LineLink} (idle : l.tx = .idle) (clear : l.notices = []) (x : Snapshot) (k : NoticeKind)
    (ks : List NoticeKind) : (l.raising x (k :: ks)).tx = .notice k x := by
  obtain ⟨rest, first⟩ := foldl_joinNotices_head k ks []
  have pending : (k :: ks).foldl (fun p k => joinNotices k p) l.notices = k :: rest := by
    rw [clear, ← first]
    rfl
  unfold LineLink.raising
  dsimp only
  rw [idle, pending]

/-- Of several causes added the first raises LINE_STOP (R170). -/
theorem lineStopNotice_trans {a b c : LineStopCauses} (first : a.isEmpty = false → b.isEmpty = false)
    (second : b.isEmpty = false → c.isEmpty = false) :
    lineStopNotice a b ++ lineStopNotice b c = lineStopNotice a c := by
  unfold lineStopNotice
  cases ha : a.isEmpty <;> cases hb : b.isEmpty <;> cases hc : c.isEmpty <;> simp_all

/-- In the middle of two events nothing differs that differs in no state, no order and no pending notice. -/
theorem Effects.live_congr {e x : Effects} (state : x.state = e.state) (orders : x.orders = e.orders)
    (notices : e.state.link.joining x.notices = e.state.link.joining e.notices) : x.live = e.live := by
  have live (y : Effects) : y.live = { y.state with
    moduleLink := { y.state.moduleLink with outbox := y.state.moduleLink.outbox ++ y.orders }
    link := y.state.link.joining y.notices } := rfl
  rw [live, live, state, orders, notices]

/-! ### The interlock inputs at the end of BOOT -/

theorem State.interlocks_ext {v w : Vector Interlock 8} (h : ∀ i : Input, v[i] = w[i]) : v = w :=
  Vector.ext fun i hi => h ⟨i, hi⟩

theorem State.updInterlock_interlock (s : State) (i j : Input) (f : Interlock → Interlock) :
    (s.updInterlock i f).interlock j = if j = i then f (s.interlock i) else s.interlock j := by
  by_cases h : j = i
  · subst h
    simp [State.interlock]
  · have : (i : Nat) ≠ j := fun e => h (Fin.ext e.symm)
    simp [State.interlock, h, this]

/-- The inputs take the levels at their pins (R160). -/
theorem State.takeLevels_eq (s : State) : s.takeLevels =
    { s with interlocks := Vector.ofFn fun i : Fin 8 => { s.interlock i with level := s.pins.interlocks[i] } } := by
  have some : ∀ (l : List Input) (t : State),
      l.foldl (fun s i => s.updInterlock i fun x => { x with level := s.pins.interlocks[i] }) t =
        { t with interlocks := Vector.ofFn fun i : Fin 8 =>
          if i ∈ l then { t.interlock i with level := t.pins.interlocks[i] } else t.interlock i } := by
    intro l
    induction l with
    | nil =>
      intro t
      have same : (Vector.ofFn fun i : Fin 8 => t.interlock i) = t.interlocks :=
        State.interlocks_ext fun i => by simp [State.interlock]
      simp [same]
    | cons i l ih =>
      intro t
      rw [List.foldl_cons, ih]
      simp only [State.updInterlock_interlock]
      congr 1
      refine State.interlocks_ext fun j => ?_
      by_cases h : j = i <;> simp [h]
  rw [State.takeLevels, some]
  simp [Input.all]

section
variable {s : State} {i : Input}

/-- An input that latches in OFFLINE with every channel DORMANT or FAULTED reaches no channel and no hold-cause set
(R154, R165). -/
theorem State.latch_at_rest (offline : s.mode = .offline) (out : ∀ c, (s.chan c).state.isOut = true) (i : Input) :
    s.latch i =
      (let t := (s.updInterlock i fun x => { x with latched := true }).raise .interlock
      if (s.interlock i).config.stop then t.changeLineStop fun l => { l with interlock := true } else t) := by
  let t := (s.updInterlock i fun x => { x with latched := true }).raise .interlock
  have still (c : Chan) : t.dropChannel c = t := by
    have := out c
    unfold State.dropChannel
    rw [show t.chan c = s.chan c from rfl]
    cases hs : (s.chan c).state <;> simp_all [ChannelState.isOut]
  have unheld (f : HoldCauses → HoldCauses) : t.addHoldCause f = t := by
    unfold State.addHoldCause
    rw [show t.mode = .offline from offline]
  unfold State.latch
  dsimp only
  rw [State.forList_eq_self t still, unheld, ite_self]

/-- The input latches at the end of BOOT: it is an enabled LEVEL input, its latch clear, active at its pin (R160, R162). -/
def State.bootLatches (s : State) (i : Input) : Bool :=
  (s.interlock i).config.enabled && decide ((s.interlock i).config.sense = .level) &&
    decide (s.pins.interlocks[i] = (s.interlock i).config.activeLevel) && !(s.interlock i).latched

/-- The line at the end of BOOT once the inputs of a list have been looked at, without its notices. -/
def State.bootLine (s : State) (l : List Input) : State :=
  { s with
    mode := .offline
    bootTimer := none
    channels := mapVec Channel.settled s.channels
    interlocks := Vector.ofFn fun i : Fin 8 =>
      { s.interlock i with
        level := s.pins.interlocks[i]
        latched := (s.interlock i).latched || (decide (i ∈ l) && s.bootLatches i) }
    lineStop := { s.lineStop with
      interlock := s.lineStop.interlock || l.any fun i => s.bootLatches i && (s.interlock i).config.stop } }

/-- The notices of the end of BOOT once the inputs of a list have been looked at (R148, R162, R170; log 14). -/
def State.bootNotices (s : State) (l : List Input) : List NoticeKind :=
  .lineMode :: ((if l.any s.bootLatches then [.interlock] else []) ++ lineStopNotice s.lineStop (s.bootLine l).lineStop)

/-- The end of BOOT as a part of an event, with no order falling due. -/
def State.bootTurn (s : State) (l : List Input) : Effects := ⟨s.bootLine l, [], s.bootNotices l⟩

theorem State.bootLine_interlock (s : State) (l : List Input) (i : Input) : (s.bootLine l).interlock i =
    { s.interlock i with
      level := s.pins.interlocks[i]
      latched := (s.interlock i).latched || (decide (i ∈ l) && s.bootLatches i) } := by
  simp [State.bootLine, State.interlock]

theorem State.bootLine_chan (s : State) (l : List Input) (c : Chan) :
    (s.bootLine l).chan c = (s.chan c).settled := by simp [State.bootLine, State.chan, mapVec_eq_map]

/-- An input not looked at yet latches exactly where it is to latch at the end of BOOT. -/
theorem State.latchIfLevel_boot (fresh : i ∉ l) : (s.bootTurn l).live.latchIfLevel i =
    if s.bootLatches i then (s.bootTurn l).live.latch i else (s.bootTurn l).live := by
  have own : (s.bootTurn l).live.interlock i = { s.interlock i with level := s.pins.interlocks[i] } := by
    change (s.bootLine l).interlock i = _
    rw [State.bootLine_interlock]
    simp [fresh]
  unfold State.latchIfLevel
  rw [own]
  rfl

/-- An input that does not latch leaves the line and the notices as they are. -/
theorem State.bootTurn_still (still : s.bootLatches i = false) (l : List Input) :
    s.bootTurn (l ++ [i]) = s.bootTurn l := by
  have same : s.bootLine (l ++ [i]) = s.bootLine l := by
    have member (j : Input) : (decide (j ∈ l ++ [i]) && s.bootLatches j) = (decide (j ∈ l) && s.bootLatches j) := by
      by_cases h : j = i
      · rw [h, still, Bool.and_false, Bool.and_false]
      · simp [h]
    simp only [State.bootLine, member, List.any_append, List.any_cons, List.any_nil, still, Bool.false_and,
      Bool.or_false]
  rw [State.bootTurn, State.bootNotices, same]
  simp [State.bootTurn, State.bootNotices, still]

/-- An input that latches: its latch, then its STOP (R162, R168). -/
theorem State.bootLine_latched (latches : s.bootLatches i = true) (l : List Input) : s.bootLine (l ++ [i]) =
    (State.stoppedBy (s.interlock i).config.stop ((s.bootLine l).latchSet i).state).state := by
  have inputs : (s.bootLine (l ++ [i])).interlocks =
      (s.bootLine l).interlocks.set i { (s.bootLine l).interlock i with latched := true } := by
    refine State.interlocks_ext fun j => ?_
    change (s.bootLine (l ++ [i])).interlock j =
      ((s.bootLine l).updInterlock i fun x => { x with latched := true }).interlock j
    rw [State.updInterlock_interlock, State.bootLine_interlock, State.bootLine_interlock, State.bootLine_interlock]
    by_cases h : j = i
    · subst h
      simp [latches]
    · simp [h]
  have causes : (s.bootLine (l ++ [i])).lineStop =
      { (s.bootLine l).lineStop with
        interlock := (s.bootLine l).lineStop.interlock || (s.interlock i).config.stop } := by
    simp [State.bootLine, latches, Bool.or_assoc]
  unfold State.stoppedBy State.latchSet
  rw [← inputs, ← causes]
  rfl

/-- STOP keeps the causes that there are. -/
theorem LineStopCauses.isEmpty_stop {l : LineStopCauses} (h : l.isEmpty = false) (stop : Bool) :
    LineStopCauses.isEmpty { l with interlock := l.interlock || stop } = false := by
  cases hs : stop <;> simp_all [LineStopCauses.isEmpty]

/-- However many inputs latch, INTERLOCK is pending once, and LINE_STOP behind it (R192; log 14). -/
theorem State.bootNotices_latched (latches : s.bootLatches i = true) (l : List Input) (k : LineLink) :
    k.joining (s.bootNotices l ++
      .interlock :: lineStopNotice (s.bootLine l).lineStop (s.bootLine (l ++ [i])).lineStop) =
    k.joining (s.bootNotices (l ++ [i])) := by
  have any : (l ++ [i]).any s.bootLatches = true := by simp [latches]
  by_cases before : l.any s.bootLatches = true
  · rw [LineLink.joining_again (by simp [State.bootNotices, before])]
    have grows := lineStopNotice_trans (a := s.lineStop) (b := (s.bootLine l).lineStop)
      (c := (s.bootLine (l ++ [i])).lineStop)
      (fun h => LineStopCauses.isEmpty_stop h _)
      (fun h => by rw [State.bootLine_latched latches]; exact LineStopCauses.isEmpty_stop h _)
    simp only [State.bootNotices, before, any, if_true, List.cons_append, List.append_assoc, grows]
  · have none : (s.bootLine l).lineStop = s.lineStop := by
      have : (l.any fun i => s.bootLatches i && (s.interlock i).config.stop) = false := by
        simp only [List.any_eq_true, not_exists, not_and, Bool.not_eq_true] at before
        simp only [List.any_eq_false, Bool.and_eq_true, not_and, Bool.not_eq_true]
        exact fun j hj latches => absurd latches (by simp [before j hj])
      simp [State.bootLine, this]
    simp only [State.bootNotices, before, any, none, lineStopNotice_self]
    rfl

theorem State.latchIfLevel_bootTurn (out : ∀ c, (s.chan c).state.isOut = true) {l : List Input} (fresh : i ∉ l) :
    (s.bootTurn l).live.latchIfLevel i = (s.bootTurn (l ++ [i])).live := by
  have rest (c : Chan) : ((s.bootTurn l).live.chan c).state.isOut = true := by
    change ((s.bootLine l).chan c).state.isOut = true
    rw [State.bootLine_chan, Channel.settled]
    split
    · exact out c
    · rfl
  have config : ((s.bootTurn l).live.interlock i).config = (s.interlock i).config := by
    change ((s.bootLine l).interlock i).config = _
    rw [State.bootLine_interlock]
  rw [State.latchIfLevel_boot fresh]
  cases latches : s.bootLatches i with
  | false => rw [State.bootTurn_still latches, if_neg (by simp)]
  | true =>
    have set : ((s.bootTurn l).live.updInterlock i fun x => { x with latched := true }).raise .interlock =
        ((s.bootTurn l).andThen (State.latchSet i)).live := by
      simp [State.updInterlock, State.raise, State.latchSet, Effects.live, State.interlock]
    rw [if_pos rfl, State.latch_at_rest rfl rest, config, set]
    dsimp only
    rw [stoppedBy_live]
    have notices : (((s.bootTurn l).andThen (State.latchSet i)).andThen
        (State.stoppedBy (s.interlock i).config.stop)).notices = s.bootNotices l ++
          .interlock :: lineStopNotice (s.bootLine l).lineStop (s.bootLine (l ++ [i])).lineStop := by
      rw [State.bootLine_latched latches]
      exact List.append_assoc ..
    refine Effects.live_congr (State.bootLine_latched latches l).symm rfl ?_
    rw [notices]
    exact State.bootNotices_latched latches l _

/-- The inputs one after another, each at its first and only place. -/
theorem State.bootTurns (out : ∀ c, (s.chan c).state.isOut = true) : ∀ (l before : List Input), (before ++ l).Nodup →
    l.foldl (fun t i => t.latchIfLevel i) (s.bootTurn before).live = (s.bootTurn (before ++ l)).live
  | [], before, _ => by rw [List.append_nil, List.foldl_nil]
  | i :: l, before, nodup => by
    have fresh : i ∉ before := fun h => (List.nodup_append.1 nodup).2.2 i h i List.mem_cons_self rfl
    rw [List.append_cons] at nodup ⊢
    rw [List.foldl_cons, State.latchIfLevel_bootTurn out fresh, bootTurns out l _ nodup]

theorem State.bootEnds_live (boot : s.bootTimer.isSome = true) (out : ∀ c, (s.chan c).state.isOut = true) :
    s.bootEnds = (s.bootTurn Input.all).live := by
  let u : State := { s with bootTimer := none, channels := mapVec Channel.settled s.channels, mode := .offline }
  have ends : s.bootEnds = Input.all.foldl (fun t i => t.latchIfLevel i) (u.raise .lineMode).takeLevels := if_pos boot
  have levels : (u.raise .lineMode).takeLevels = (s.bootTurn []).live := by
    rw [State.takeLevels_eq]
    simp [u, State.bootTurn, State.bootLine, State.bootNotices, Effects.live, State.raise, State.interlock,
      lineStopNotice_self]
  rw [ends, levels, State.bootTurns out Input.all [] (List.nodup_finRange 8), List.nil_append]

/-- The line after the end of BOOT, its notices raised. -/
theorem exec_bootEnd (h : s.settled = true) (boot : s.bootTimer.isSome = true)
    (out : ∀ c, (s.chan c).state.isOut = true) :
    exec .bootEnd s = .next ((s.bootLine Input.all).raised (s.bootNotices Input.all)) := by
  change done s.bootEnds = _
  have settled : (s.bootTurn Input.all).state.settled = true := h
  rw [done_live settled (State.bootEnds_live boot out), Effects.ended_of_noOrders settled rfl]
  rfl

theorem State.bootLine_all (s : State) (i : Input) : (s.bootLine Input.all).interlock i =
    { s.interlock i with
      level := s.pins.interlocks[i]
      latched := (s.interlock i).latched || s.bootLatches i } := by
  rw [State.bootLine_interlock]
  simp [Input.all]

/-- An input that is latched after BOOT and was not before has latched at its end. -/
theorem State.bootLatches_iff (s : State) (i : Input) :
    s.bootLatches i = (((s.bootLine Input.all).interlock i).latched && !(s.interlock i).latched) := by
  rw [State.bootLine_all, State.bootLatches]
  cases (s.interlock i).latched <;> simp

end

/-- Settles O7: presence replies noted and discarded, BOOT_END outside BOOT, and the line that the end of BOOT leaves,
read off input by input and channel by channel. -/
theorem bootEnds : Obligations.BootEnds := by
  unfold Obligations.BootEnds
  refine ⟨fun s c h => ⟨fun boot out => ?_, fun discarded => ?_⟩, fun s h stopped => ?_, fun s h inv boot => ?_⟩
  · change done (s.takePresence c) = _
    rw [State.takePresence_noted boot out]
    exact done_of_links h rfl rfl
  · change done (s.takePresence c) = _
    rw [State.takePresence_discarded discarded]
    exact done_of_links h rfl rfl
  · have stays : s.bootEnds = s := if_neg (by simp [stopped])
    change done s.bootEnds = _
    rw [stays]
    exact done_of_links h rfl rfl
  · have fit := State.channelInv_iff.1 inv
    have mode : s.mode = .boot := fit.boot.resolve_left (Option.isSome_iff_ne_none.1 boot)
    have out (c : Chan) : (s.chan c).state.isOut = true := fit.out (by rw [mode]; rfl) c trivial
    let u := s.bootLine Input.all
    refine ⟨u.raised (s.bootNotices Input.all), exec_bootEnd h boot out, rfl, ?_, fun idle => ?_, ?_, fun c => ?_,
      fun i => ?_⟩
    · have latched : s.bootLatches = fun i => (u.interlock i).latched && !(s.interlock i).latched :=
        funext s.bootLatches_iff
      change s.link.raising u.snapshot (s.bootNotices Input.all) = _
      rw [State.bootNotices, latched]
      rfl
    · exact LineLink.raising_tx idle ((State.settled_iff.1 h).2.2 idle).2 ..
    · change (s.lineStop.interlock || Input.all.any fun i => s.bootLatches i && (s.interlock i).config.stop) = true ↔
        _ ∨ ∃ i, (u.interlock i).latched = true ∧ _
      simp [s.bootLatches_iff, u, Input.all, and_assoc]
    · exact s.bootLine_chan Input.all c
    · change (u.interlock i).config = _ ∧ (u.interlock i).level = _ ∧ (u.interlock i).latched = _
      rw [State.bootLine_all]
      refine ⟨rfl, rfl, ?_⟩
      dsimp only
      rw [State.bootLatches]
      cases (s.interlock i).latched <;> simp

end Sys2Proof.Machine
end

section
/-! PROOFS. The division of a period's charge and its credits (R128, R131 to R134), the exit record (R138 to R140) and
hold dwell (R135); O53, O54, O28. -/

namespace Sys2Proof.Machine

/-! ### The division of a charge among weights (R131) -/

theorem share_of_pos {sum : Nat} (h : 0 < sum) (charge weight : Nat) :
    share charge sum weight = charge * weight / sum := if_neg h.ne'

theorem remainder_of_pos {sum : Nat} (h : 0 < sum) (charge : Nat) (weights : List Nat) :
    remainder charge sum weights = charge - (weights.map fun w => charge * w / sum).sum := by
  simp only [remainder, if_neg h.ne', funext (share_of_pos h charge)]

theorem credit_of_zero (charge weight : Nat) (weights : List Nat) (governs : Bool) :
    credit charge 0 weights weight governs = 0 := by
  simp [credit, share, remainder]

/-- A charge and weights: the floors of the shares, taken times the divisor, miss the whole by the remainders of the
divisions. -/
theorem mul_sum_div_add_sum_mod (charge sum : Nat) (weights : List Nat) :
    sum * (weights.map fun w => charge * w / sum).sum + (weights.map fun w => charge * w % sum).sum =
      charge * weights.sum := by
  rw [← List.sum_map_mul_left, ← List.sum_map_add]
  simp only [Nat.div_add_mod]
  rw [List.sum_map_mul_left, List.map_id']

/-- Only a weight above 0 leaves a remainder of its division, and one below the divisor. -/
theorem sum_mod_add_length_le {sum : Nat} (h : 0 < sum) (charge : Nat) (weights : List Nat) :
    (weights.map fun w => charge * w % sum).sum + (weights.filter (0 < ·)).length ≤
      sum * (weights.filter (0 < ·)).length := by
  induction weights with
  | nil => simp
  | cons w l ih =>
    rcases Nat.eq_zero_or_pos w with rfl | positive
    · simpa using ih
    · have below := Nat.mod_lt (charge * w) h
      simp only [List.map_cons, List.sum_cons, List.filter_cons, positive, decide_true, if_true, List.length_cons,
        Nat.mul_succ]
      omega

/-- Weights whose sum is the divisor are given no more than the charge. -/
theorem sum_div_le {weights : List Nat} (h : 0 < weights.sum) (charge : Nat) :
    (weights.map fun w => charge * w / weights.sum).sum ≤ charge := by
  refine Nat.le_of_mul_le_mul_left ?_ h
  rw [Nat.mul_comm _ charge, ← mul_sum_div_add_sum_mod charge weights.sum weights]
  exact Nat.le_add_right ..

/-- The remainder of the division is below the number of weights above 0 (R131, item 2). -/
theorem remainder_lt {weights : List Nat} (h : 0 < weights.sum) (charge : Nat) :
    charge - (weights.map fun w => charge * w / weights.sum).sum < (weights.filter (0 < ·)).length := by
  have positive_exists : 0 < (weights.filter (0 < ·)).length := by
    obtain ⟨w, mem, positive⟩ : ∃ w ∈ weights, 0 < w := by
      simpa [List.sum_eq_zero_iff, Nat.pos_iff_ne_zero] using h.ne'
    exact List.length_pos_of_mem (List.mem_filter.2 ⟨mem, decide_eq_true positive⟩)
  have whole := mul_sum_div_add_sum_mod charge weights.sum weights
  have few := sum_mod_add_length_le h charge weights
  refine Nat.lt_of_mul_lt_mul_left (a := weights.sum) ?_
  rw [Nat.mul_sub, Nat.mul_comm _ charge]
  omega

/-- The credits of a list add up to its shares, and the remainder once for each governor. -/
theorem sum_credit (charge sum : Nat) (weights : List Nat) (governor : Nat) (list : List Contributor) :
    (list.map fun p => credit charge sum weights p.forwardWeight (decide (p.entry = governor))).sum =
      (list.map fun p => share charge sum p.forwardWeight).sum +
        (list.filter fun p => p.entry = governor).length * remainder charge sum weights := by
  induction list with
  | nil => simp
  | cons p l ih =>
    by_cases governs : p.entry = governor <;>
    · simp only [credit, List.map_cons, List.sum_cons, List.filter_cons, governs, decide_true, decide_false, if_true,
        if_false, Bool.false_eq_true, List.length_cons, Nat.succ_mul] at ih ⊢
      omega

/-- With one governor in the list the charge is divided without loss (R131). -/
theorem sum_credit_eq_charge {list : List Contributor} (h : 0 < (list.map (·.forwardWeight)).sum) (charge : Nat)
    {governor : Nat} (one : (list.filter fun p => p.entry = governor).length = 1) :
    (list.map fun p => credit charge (list.map (·.forwardWeight)).sum (list.map (·.forwardWeight)) p.forwardWeight
      (decide (p.entry = governor))).sum = charge := by
  have shares : (list.map fun p => share charge (list.map (·.forwardWeight)).sum p.forwardWeight).sum =
      ((list.map (·.forwardWeight)).map fun w => charge * w / (list.map (·.forwardWeight)).sum).sum := by
    simp only [share_of_pos h, List.map_map, Function.comp_def]
  rw [sum_credit, one, Nat.one_mul, shares, remainder_of_pos h]
  exact Nat.add_sub_cancel' (sum_div_le h charge)

/-! ### The credit of a record (R132 to R134) -/

/-- The facing side is the channel's own, exchanged for a flipped record (R31). -/
theorem TrackRecord.facing_eq (r : TrackRecord) (c : Chan) :
    r.facing c = if (decide (c.val < 20) != r.flipped) then .a else .b := by
  unfold TrackRecord.facing sideOf
  by_cases low : c.val < 20 <;> cases r.flipped <;> simp [low]

theorem Account.add_eq (a : Account) (onA : Bool) (forward reverse : Nat) :
    a.add (if onA then .a else .b) forward reverse =
      { a with
        forwardA := if onA then min 281474976710655 (a.forwardA + forward) else a.forwardA
        reverseA := if onA then min 281474976710655 (a.reverseA + reverse) else a.reverseA
        forwardB := if onA then a.forwardB else min 281474976710655 (a.forwardB + forward)
        reverseB := if onA then a.reverseB else min 281474976710655 (a.reverseB + reverse) } := by
  cases onA <;> rfl

/-- An estimated period marks the facing side, and any other marks none (R133). -/
theorem Account.markEstimated_eq (a : Account) (onA flag : Bool) :
    (if flag then a.markEstimated (if onA then .a else .b) else a) =
      { a with
        estimatedA := a.estimatedA || (flag && onA)
        estimatedB := a.estimatedB || (flag && !onA) } := by
  cases flag <;> cases onA <;> simp [Account.markEstimated]

/-- A record on the track is credited where it is a contributor, from its first entry in the list. -/
theorem State.creditAll_forall₂ (s : State) (x : PeriodRecord) (note : CloseNote) (estimated : Bool)
    (charge : Nat × Nat) :
    List.Forall₂ (fun r t =>
        ((∀ p ∈ x.contributors, p.entry ≠ r.entry) → t = r) ∧
        ∀ before p after, x.contributors = before ++ p :: after → p.entry = r.entry →
          (∀ q ∈ before, q.entry ≠ r.entry) → t = creditRecord x note estimated charge p r)
      s.track (s.creditAll x note estimated charge).track := by
  refine List.forall₂_map_right_iff.2 (List.forall₂_same.2 fun r _ => ⟨fun apart => ?_, ?_⟩)
  · rw [List.find?_eq_none.2 (by simpa using apart)]
  · intro before p after split found first
    have finds : (x.contributors.find? fun p => p.entry = r.entry) = some p :=
      List.find?_eq_some_iff_append.2 ⟨by simpa using found, before, after, split, by simpa using first⟩
    rw [finds]

/-- Settles O53: the division by its remainders, the credit of a record field by field, the track record by record, and
the close note interval by interval. -/
theorem creditsDivideCharge : Obligations.CreditsDivideCharge := by
  unfold Obligations.CreditsDivideCharge
  refine ⟨fun charge list governor => ⟨fun zero p _ => ?_, fun positive =>
      ⟨remainder_lt positive charge, fun p _ => ?_, sum_credit_eq_charge positive charge⟩⟩,
    fun x note estimated forward reverse p r => ?_, State.creditAll_forall₂, fun p stale => ⟨rfl, ?_⟩⟩
  · dsimp only
    rw [zero, credit_of_zero]
  · simp only [credit, share_of_pos positive, remainder_of_pos positive, decide_eq_true_eq]
  · cases truncated : note.truncated <;>
      simp only [creditRecord, TrackRecord.facing_eq, Account.add_eq, Account.markEstimated_eq, truncated,
        Bool.false_eq_true, if_true, if_false, Bool.or_true, Bool.or_false]
  · unfold closeNote elapsed
    cases p.interval <;> rfl

/-! ### The exit record (R138 to R140) -/

/-- Above area 0 the density is the quotient toward zero, taken by the sign of the net charge, then clamped (R139). -/
theorem netDensity_of_pos {area : Nat} (h : 0 < area) (u : Int) : netDensity u area =
    let q : Int := if 0 ≤ u then u / (60 * area) else -(-u / (60 * area))
    if q < -2147483648 then -2147483648 else if 2147483647 < q then 2147483647 else q := by
  have toward_zero : u.tdiv (60 * area) = if 0 ≤ u then u / (60 * area) else -(-u / (60 * area)) := by
    split
    · exact Int.tdiv_eq_ediv_of_nonneg ‹_›
    · rw [← Int.tdiv_eq_ediv_of_nonneg (by omega), Int.neg_tdiv, Int.neg_neg]
  rw [netDensity, if_neg h.ne', toward_zero]
  dsimp only
  omega

/-- The window of a target, its three verdicts by the density (R140, item 4). -/
theorem windowVerdict_iff (target tolerance : Nat) (density : Int) :
    let band : Int := ((target * tolerance / 100 : Nat) : Int)
    (windowVerdict target tolerance density = .under ↔ density < target - band) ∧
    (windowVerdict target tolerance density = .over ↔ target + band < density) ∧
    (windowVerdict target tolerance density = .within ↔ target - band ≤ density ∧ density ≤ target + band) := by
  intro band
  have branches : windowVerdict target tolerance density =
      if density < target - band then .under else if target + band < density then .over else .within := rfl
  have wide : 0 ≤ band := Int.natCast_nonneg _
  rw [branches]
  split
  · simp; omega
  · split
    · simp; omega
    · simp; omega

theorem verdict_of_noTarget {area : Nat} (h : 0 < area) {r : Recipe} (ht : r.target = none) (density : Int) :
    verdict (some r) area density = .noTarget := by
  simp [verdict, h.ne', ht]

theorem verdict_of_target {area target : Nat} (h : 0 < area) {r : Recipe} (ht : r.target = some target)
    (density : Int) : verdict (some r) area density = windowVerdict target r.tolerance density := by
  simp [verdict, h.ne', ht]

/-- Settles O54: the record field by field, its density by the sign of the net charge, its verdict case by case. -/
theorem exitSideRules : Obligations.ExitSideRules := by
  unfold Obligations.ExitSideRules
  refine ⟨fun s r cause leaving => ?_, fun recipe area forward reverse => ⟨rfl, rfl, rfl, ?_, ?_, fun positive =>
    netDensity_of_pos positive _, ?_, fun r => ?_⟩⟩
  · have effective : s.effective r = match r.measured, r.announced with
        | some n, _ => n
        | none, some n => n
        | none, none => s.prof.nominalLength := by
      unfold State.effective effectiveLength
      cases r.measured <;> cases r.announced <;> rfl
    rw [State.exitRecord, leaving, effective]
    rfl
  · intro hf hr
    dsimp only [exitSide]
    omega
  · exact fun zero => if_pos zero
  · rintro rfl
    rfl
  · rintro rfl
    refine ⟨fun zero => if_pos zero, fun positive ht => verdict_of_noTarget positive ht _,
      fun target positive ht => ?_⟩
    have side : (exitSide (some r) area forward reverse).verdict =
        windowVerdict target r.tolerance (exitSide (some r) area forward reverse).density :=
      verdict_of_target positive ht _
    simp only [side]
    exact windowVerdict_iff ..

/-! ### Hold dwell (R135) -/

/-- The millisecond leaves both links, so nothing follows it. -/
theorem exec_holdDwellMillisecond {s : State} (h : s.settled = true) :
    exec .holdDwellMillisecond s = .next s.holdMillisecond := by
  change done s.holdMillisecond = _
  refine done_of_links h ?_ ?_ <;>
  · unfold State.holdMillisecond
    split <;> rfl

/-- Settles O28, by the mode. -/
theorem holdDwellGrows : Obligations.HoldDwellGrows := by
  unfold Obligations.HoldDwellGrows
  refine fun s h => ⟨fun hold => ?_, fun other => ?_⟩
  · rw [exec_holdDwellMillisecond h, State.holdMillisecond, if_pos hold]
    rfl
  · rw [exec_holdDwellMillisecond h, State.holdMillisecond, if_neg other]

end Sys2Proof.Machine
end

section
/-! PROOFS. The resets, the reset line held, and the beginning of BOOT (R144, R145, R146, R121); O4, O5, O6. -/

namespace Sys2Proof.Machine

/-! ### What a reset clears -/

/-- What every kind of reset leaves before BOOT begins (R144, R145; log 13). -/
theorem State.cleared_eq (s : State) : s.cleared =
    { s.resetKeeping s.link.rate with
      pins := s.pins
      bootTimer := none
      moduleLink := ⟨none, [], []⟩ } := by
  unfold State.cleared
  rw [mapVec_eq_map, mapVec_eq_map]
  rfl

/-- What a power-on reset leaves before BOOT begins: the configuration is gone too (R144). -/
theorem State.configurationCleared_cleared (s : State) : s.cleared.configurationCleared =
    { State.reset with
      pins := s.pins
      bootTimer := none
      link := .afterReset s.link.rate
      moduleLink := ⟨none, [], []⟩
      freeCount := s.freeCount
      pending := s.pending } := rfl

/-- A reset leaves both links with nothing to do. -/
theorem State.settled_of_resetLinks {s : State} {rate : BitRate} (link : s.link = .afterReset rate)
    (orders : s.moduleLink = ⟨none, [], []⟩) : s.settled = true := by
  rw [State.settled_iff, link, orders]
  exact ⟨rfl, fun _ => rfl, fun _ => ⟨rfl, rfl⟩⟩

/-! ### BOOT begins -/

/-- The orders of BOOT stand in increasing channel number already (R100, R121). -/
theorem sortOrders_bootOrders : sortOrders bootOrders = bootOrders :=
  sortOrders_byChannel fun _ => [.disarm, .presencePoll]

theorem bootOrders_eq_cons : bootOrders = ⟨0, .disarm⟩ :: bootOrders.tail := rfl

/-- BOOT begins: its timer, the strap's bit rate, and the first of its orders being sent (R121, R143, R186). -/
theorem done_bootBegins {s : State} {rate : BitRate} (link : s.link = .afterReset rate)
    (orders : s.moduleLink = ⟨none, [], []⟩) :
    done s.bootBegins = .next
      { s with
        bootTimer := some Config.bootMs
        link := .afterReset s.pins.strap
        moduleLink := ⟨bootOrders.head?, bootOrders.tail, []⟩ } := by
  have begun : s.bootBegins =
      { s with
        bootTimer := some Config.bootMs
        link := .afterReset s.pins.strap
        moduleLink := ⟨none, [], bootOrders⟩ } := by
    rw [State.bootBegins, link, orders]
    rfl
  have flushed : flushOrders s.bootBegins =
      { s with
        bootTimer := some Config.bootMs
        link := .afterReset s.pins.strap
        moduleLink := ⟨none, bootOrders, []⟩ } := by
    rw [begun, flushOrders]
    simp only [sortOrders_bootOrders, List.nil_append]
  rw [done, settle, flushed, bootOrders_eq_cons]
  rfl

/-- A reset that keeps the configuration and begins BOOT, with these pins (R145, R146). -/
theorem done_cleared_bootBegins (s : State) (pins : Pins) :
    done (State.bootBegins { s.cleared with pins := pins }) =
      .next { s.resetKeeping pins.strap with pins := pins } := by
  rw [State.cleared_eq, done_bootBegins rfl rfl]
  rfl

/-- Settles O4: what a power-on clears, with BOOT begun where the reset line is not held. -/
theorem powerOnResets : Obligations.PowerOnResets := by
  unfold Obligations.PowerOnResets
  intro s strap
  have exec_eq : exec (.powerOn strap) s = done (if s.pins.resetHeld then
      (s.strapped strap).cleared.configurationCleared
      else (s.strapped strap).cleared.configurationCleared.bootBegins) := rfl
  rw [exec_eq, State.configurationCleared_cleared]
  refine ⟨fun released => ?_, fun held => ?_⟩
  · rw [if_neg (by simp [released]), done_bootBegins rfl rfl]
    rfl
  · rw [if_pos held, done, settle_of_settled (State.settled_of_resetLinks rfl rfl)]
    rfl

/-! ### The reset line held -/

section
variable {s : State}

/-- While the reset line is held no frame is taken (R145). -/
theorem done_meet_reset (h : s.settled = true) (held : s.pins.resetHeld = true) (f : Frame) (take : State → State) :
    done (s.meet f take) = .next s := by
  rw [State.meet, if_pos held]
  exact done_of_links h rfl rfl

/-- In BOOT and OFFLINE no edge of the eye is accepted (R12). -/
theorem State.edgeAccepted_of_inactive (still : s.mode.active = false) : s.edgeAccepted = false := by
  simp [State.edgeAccepted, still]

/-- Where the line does not track, a change of the eye moves the pin alone (R12). -/
theorem State.eyeChanges_of_inactive (still : s.mode.active = false) (l : Level) :
    s.eyeChanges l = { s with pins := { s.pins with eye := l } } := by
  unfold State.eyeChanges
  split
  · rename_i same
    rw [← same]
  · exact State.examineEye_refused (State.edgeAccepted_of_inactive still)

theorem State.takePulses_of_inactive (still : s.mode.active = false) :
    s.takeForwardPulse = s ∧ s.takeReversePulse = s := by
  simp [State.takeForwardPulse, State.takeReversePulse, still]

end

/-- Settles O5: the activation, then row by row what arrives while the line is held. -/
theorem resetLineHolds : Obligations.ResetLineHolds := by
  unfold Obligations.ResetLineHolds
  refine ⟨fun s => ?_, fun s h held mode stopped => ?_⟩
  · have holds : s.resetHolds =
        { s.resetKeeping s.link.rate with
          pins := { s.pins with resetHeld := true }
          bootTimer := none
          moduleLink := ⟨none, [], []⟩ } := by
      rw [State.resetHolds, State.cleared_eq]
    change done s.resetHolds = _
    rw [holds, done, settle_of_settled (State.settled_of_resetLinks rfl rfl)]
  · have still : s.mode.active = false := by rw [mode]; rfl
    obtain ⟨forward, reverse⟩ := State.takePulses_of_inactive still
    refine ⟨?_, ?_, fun c => ?_, fun b => ?_, fun k p => ?_, fun k => ?_, fun i r hr => ?_, fun l => ?_, fun i l => ?_⟩
    · change done s.takeForwardPulse = _
      rw [forward]
      exact done_of_links h rfl rfl
    · change done s.takeReversePulse = _
      rw [reverse]
      exact done_of_links h rfl rfl
    · change done (s.takePresence c) = _
      rw [State.takePresence_discarded (.inl stopped)]
      exact done_of_links h rfl rfl
    · change done (s.takeByte b) = _
      rw [State.takeByte, if_pos held]
      exact done_of_links h rfl rfl
    · exact done_meet_reset h held ⟨k, p⟩ _
    · change done (if (requestKind? k).isNone then s.arrive ⟨k, []⟩ else s) = _
      split
      · exact done_meet_reset h held ⟨k, []⟩ _
      · exact done_of_links h rfl rfl
    · rw [exec_of_request hr]
      exact done_meet_reset h held r.frame _
    · change done (s.eyeChanges l) = _
      rw [State.eyeChanges_of_inactive still]
      exact done_of_links h rfl rfl
    · have moved : s.interlockChanges i l =
          { s with pins := { s.pins with interlocks := s.pins.interlocks.set i l } } := if_pos mode
      change done (s.interlockChanges i l) = _
      rw [moved]
      exact done_of_links h rfl rfl

/-! ### The release and the Restart -/

/-- A restart awaits the end of a reply exactly while the reply of a taken Restart is in transmission (R146). -/
theorem State.restartDue_iff {s : State} : s.restartDue = true ↔
    ∃ h r, s.link.inHand = some h ∧ h.restarts = true ∧ s.link.tx = .reply r := by
  unfold State.restartDue
  cases s.link.tx <;> cases s.link.inHand <;> simp

/-- The end of the reply of a taken Restart is the restart (log 12). -/
theorem State.transmitted_of_restartDue {s : State} (due : s.restartDue = true) : s.transmitted = s.restarts := by
  obtain ⟨h, r, -, -, tx⟩ := State.restartDue_iff.1 due
  rw [State.transmitted, tx]
  exact if_pos due

/-- Settles O6: the release and the restart begin BOOT on what a reset keeps; without their cause nothing happens. -/
theorem resetsKeepConfiguration : Obligations.ResetsKeepConfiguration := by
  unfold Obligations.ResetsKeepConfiguration
  refine ⟨fun s strap held => ?_, fun s strap due => ⟨?_, ?_⟩, fun s strap h =>
    ⟨fun released => ?_, fun idle => ?_, State.restartDue_iff⟩⟩
  · change done (if s.pins.resetHeld then (s.strapped strap).resetReleases else s) = _
    rw [if_pos held]
    exact done_cleared_bootBegins (s.strapped strap) { s.pins with strap := strap, resetHeld := false }
  · change done (if s.restartDue then (s.strapped strap).restarts else s) = _
    rw [if_pos due]
    exact done_cleared_bootBegins (s.strapped strap) { s.pins with strap := strap }
  · change done s.transmitted = _
    rw [State.transmitted_of_restartDue due]
    exact done_cleared_bootBegins s s.pins
  · change done (if s.pins.resetHeld then (s.strapped strap).resetReleases else s) = _
    rw [if_neg (by simp [released])]
    exact done_of_links h rfl rfl
  · change done (if s.restartDue then (s.strapped strap).restarts else s) = _
    rw [if_neg (by simp [idle])]
    exact done_of_links h rfl rfl

end Sys2Proof.Machine
end

section
/-! PROOFS. Restart: taken, its reset still to come, or refused (R146); O40. -/

namespace Sys2Proof.Machine

section
variable {s : State}

theorem serveRestart_taken (h : s.mode = .offline ∨ s.track = []) : serveRestart s = taken s := by
  refine if_pos ?_
  rcases h with mode | track
  · simp [mode]
  · simp [track]

theorem serveRestart_refused (mode : s.mode ≠ .offline) (track : s.track ≠ []) :
    serveRestart s = refuse s .wrongMode := if_neg (by simp [mode, track])

/-- An idle transmitter begins to send a reply at once (R194). -/
theorem LineLink.answered_tx {l : LineLink} (idle : l.tx = .idle) (f : Frame) (code : ResultCode)
    (payload : ReplyPayload) : (l.answered f code payload).tx = .reply ⟨f.kind, code, payload⟩ := by
  simp only [LineLink.answered, idle]

/-- A taken Restart is answered, and marked for the reset that follows its reply (R146, R189). -/
theorem done_restarting (h : s.receptive = true) (f : Frame) (code : ResultCode) (payload : ReplyPayload) :
    done (s.hunting.putInHand f code payload true) =
      .next { s with link := { s.link.answered f code payload with
        inHand := some ⟨f, ⟨f.kind, code, payload⟩, true⟩ } } := by
  obtain ⟨settled, -, -, -⟩ := State.receptive_iff.1 h
  have orders : (s.hunting.putInHand f code payload true).moduleLink = s.moduleLink := rfl
  rw [done, settle_of_noOrders settled orders]
  congr 1
  unfold pumpTransmitter State.putInHand State.hunting LineLink.answered
  simp only [State.updLink_link]
  cases ht : s.link.tx <;> simp [State.updLink, ht]

end

/-- Settles O40: the taken Restart with its mark, and the refusal. -/
theorem restartResult : Obligations.RestartResult := by
  unfold Obligations.RestartResult
  intro s h
  have exec_eq : exec .restart s = done (s.arriveRequest .restart) := rfl
  refine ⟨fun may => ?_, fun mode track => ?_⟩
  · have served : serve .restart s.hunting = taken s.hunting := serveRestart_taken may
    refine ⟨_, ?_, rfl, fun idle => State.restartDue_iff.2 ⟨_, _, rfl, rfl, LineLink.answered_tx idle ..⟩⟩
    rw [exec_eq, State.arriveRequest_receptive h, served]
    exact done_restarting h Request.restart.frame .ok .nothing
  · exact done_refused h (serveRestart_refused (s := s.hunting) mode track) (.inr (by simp))

end Sys2Proof.Machine
end

section
/-! PROOFS. What the invariant of HOLD and the interlocks reads of a state, and what leaves it as it is; O57. -/

namespace Sys2Proof.Machine

/-! ### The parts of a state that the invariant reads -/

/-- The parts of a state that `State.holdInv` reads. -/
structure HoldParts where
  mode : LineMode
  causes : HoldCauses
  booting : Bool
  stopCause : Bool
  stopLatched : Bool
  holdLatched : Bool

def State.holdParts (s : State) : HoldParts :=
  ⟨s.mode, s.holdCauses, s.bootTimer.isSome, s.lineStop.interlock, s.stopLatched, s.holdLatched⟩

/-- What the invariant asks of them (R143, R154, R157, R168). -/
structure HoldParts.Ok (p : HoldParts) : Prop where
  hold : p.mode = .hold ↔ p.causes.isEmpty = false
  boot : p.booting = true → p.mode = .boot
  stop : p.stopCause = p.stopLatched
  interlock : p.causes.interlock = true → p.holdLatched = true

theorem State.holdInv_iff {s : State} : s.holdInv = true ↔ s.holdParts.Ok := by
  have read : s.holdInv = true ↔
      ((s.mode = .hold ↔ s.holdCauses.isEmpty = false) ∧ (s.bootTimer.isSome = true → s.mode = .boot)) ∧
      s.lineStop.interlock = s.stopLatched ∧ (s.holdCauses.interlock = true → s.holdLatched = true) := by
    unfold State.holdInv
    cases s.holdCauses.isEmpty <;> cases s.bootTimer <;> cases s.holdCauses.interlock <;> simp [and_assoc]
  rw [read]
  exact ⟨fun ⟨⟨hold, boot⟩, stop, interlock⟩ => ⟨hold, boot, stop, interlock⟩,
    fun ⟨hold, boot, stop, interlock⟩ => ⟨⟨hold, boot⟩, stop, interlock⟩⟩

/-- The work on channels leaves them. -/
theorem ChannelWork.holdParts {s t : State} (h : ChannelWork s t) : t.holdParts = s.holdParts := by
  simp only [State.holdParts, State.stopLatched, State.holdLatched, h.mode, h.holdCauses, h.bootTimer, h.lineStop,
    h.interlocks]

theorem State.forList_holdParts {f : Chan → State → State} (h : ∀ c s, (f c s).holdParts = s.holdParts)
    (l : List Chan) (s : State) : (s.forList l f).holdParts = s.holdParts :=
  State.forList_keeps (P := fun t => t.holdParts = s.holdParts) (fun c t ht => (h c t).trans ht) l s rfl

theorem foldl_holdParts {f : State → α → State} (h : ∀ s a, (f s a).holdParts = s.holdParts) : ∀ (l : List α) (s : State),
    (l.foldl f s).holdParts = s.holdParts
  | [], _ => rfl
  | a :: l, s => (foldl_holdParts h l (f s a)).trans (h s a)

/-! ### The shared operations -/

section
variable (s : State) (c : Chan)

@[simp] theorem State.updChan_holdParts (f : Channel → Channel) : (s.updChan c f).holdParts = s.holdParts := rfl

@[simp] theorem State.updLink_holdParts (f : LineLink → LineLink) : (s.updLink f).holdParts = s.holdParts := rfl

@[simp] theorem State.updConveyor_holdParts (f : Conveyor → Conveyor) : (s.updConveyor f).holdParts = s.holdParts := rfl

@[simp] theorem State.updRecord_holdParts (n : Nat) (f : TrackRecord → TrackRecord) :
    (s.updRecord n f).holdParts = s.holdParts := rfl

@[simp] theorem State.raise_holdParts (k : NoticeKind) : (s.raise k).holdParts = s.holdParts := rfl

@[simp] theorem State.anodeCount_holdParts (f r : Nat) : (s.anodeCount c f r).holdParts = s.holdParts := rfl

@[simp] theorem State.creditAll_holdParts (p : PeriodRecord) (note : CloseNote) (e : Bool) (q : Nat × Nat) :
    (s.creditAll p note e q).holdParts = s.holdParts := rfl

@[simp] theorem State.sample_holdParts (x : Sample) : (s.sample c x).holdParts = s.holdParts :=
  (ChannelWork.sample ..).holdParts

@[simp] theorem State.arbiter_holdParts (g : BusGroup) : (s.arbiter g).holdParts = s.holdParts :=
  (ChannelWork.arbiter ..).holdParts

@[simp] theorem State.arbiterOf_holdParts : (s.arbiterOf c).holdParts = s.holdParts := (ChannelWork.arbiterOf ..).holdParts

@[simp] theorem State.toFaulted_holdParts (cause : FaultCause) : (s.toFaulted c cause).holdParts = s.holdParts :=
  (ChannelWork.toFaulted ..).holdParts

@[simp] theorem State.toDormant_holdParts : (s.toDormant c).holdParts = s.holdParts := (ChannelWork.toDormant ..).holdParts

@[simp] theorem State.toReady_holdParts : (s.toReady c).holdParts = s.holdParts := (ChannelWork.toReady ..).holdParts

@[simp] theorem State.startOccasions_holdParts : s.startOccasions.holdParts = s.holdParts :=
  (ChannelWork.startOccasions s).holdParts

@[simp] theorem State.loneZeroIfDue_holdParts : (s.loneZeroIfDue c).holdParts = s.holdParts :=
  (ChannelWork.loneZeroIfDue ..).holdParts

@[simp] theorem State.startPeriod_holdParts (g : Nat) : (s.startPeriod c g).holdParts = s.holdParts :=
  (ChannelWork.startPeriod ..).holdParts

@[simp] theorem State.takeRule_holdParts (ended : Option Nat) : (s.takeRule c ended).holdParts = s.holdParts :=
  (ChannelWork.takeRule ..).holdParts

@[simp] theorem State.realign_holdParts : s.realign.holdParts = s.holdParts := (ChannelWork.realign s).holdParts

@[simp] theorem State.beginDrain_holdParts (d : Destination) : (s.beginDrain c d).holdParts = s.holdParts :=
  (ChannelWork.beginDrain ..).holdParts

@[simp] theorem State.cancelDrain_holdParts : (s.cancelDrain c).holdParts = s.holdParts :=
  (ChannelWork.cancelDrain ..).holdParts

@[simp] theorem State.stepDrain_holdParts (d : Destination) (n : Nat) : (s.stepDrain c d n).holdParts = s.holdParts :=
  (ChannelWork.stepDrain ..).holdParts

@[simp] theorem State.zeroOutcome_holdParts (lone valid : Bool) : (s.zeroOutcome c lone valid).holdParts = s.holdParts :=
  (ChannelWork.zeroOutcome ..).holdParts

@[simp] theorem State.settle_holdParts : (settle s).holdParts = s.holdParts := (ChannelWork.settle s).holdParts

end

/-- A change of the line-stop cause set that leaves INTERLOCK. -/
theorem State.changeLineStop_holdParts (s : State) {f : LineStopCauses → LineStopCauses}
    (hf : ∀ l, (f l).interlock = l.interlock) : (s.changeLineStop f).holdParts = s.holdParts := by
  simp [State.holdParts, State.stopLatched, State.holdLatched, hf]

theorem State.trackingCause_holdParts (s : State) {f : LineStopCauses → LineStopCauses}
    (hf : ∀ l, (f l).interlock = l.interlock) : (s.trackingCause f).holdParts = s.holdParts :=
  State.changeLineStop_holdParts (s.raise .tracking) hf

/-! ### Records and reports -/

section
variable (s : State) (c : Chan)

@[simp] theorem State.leaveIfDone_holdParts (entry : Nat) : (s.leaveIfDone entry).holdParts = s.holdParts := by
  have arrives (t : State) (e : ExitRecord) : (t.exitArrives e).holdParts = t.holdParts := by
    unfold State.exitArrives
    dsimp only
    split
    · exact State.changeLineStop_holdParts _ fun _ => rfl
    · rfl
  unfold State.leaveIfDone State.leaveTrack
  split
  · rfl
  · split
    · split
      · rfl
      · exact arrives ..
    · rfl

@[simp] theorem State.account_holdParts (p : PeriodRecord) (note : CloseNote) (report : Option PeriodReport) :
    (s.account p note report).holdParts = s.holdParts := by
  simp only [State.account, State.anodeCount_holdParts, State.sample_holdParts]
  exact foldl_holdParts (fun t (q : Contributor) => t.leaveIfDone_holdParts q.entry) _ _

@[simp] theorem State.settleWindow_holdParts (w : Window) (report : Option PeriodReport) :
    (s.settleWindow c w report).holdParts = s.holdParts := by
  unfold State.settleWindow
  dsimp only
  (repeat' split) <;> simp

@[simp] theorem State.closeWindow_holdParts (w : Window) : (s.closeWindow c w).holdParts = s.holdParts := rfl

@[simp] theorem State.heard_holdParts : (s.heard c).holdParts = s.holdParts := rfl

@[simp] theorem State.keepZero_holdParts (r : PeriodReport) : (s.keepZero c r).holdParts = s.holdParts := by
  unfold State.keepZero
  split <;> rfl

@[simp] theorem State.reportFault_holdParts (r : PeriodReport) : (s.reportFault c r).holdParts = s.holdParts := by
  unfold State.reportFault
  split <;> simp

@[simp] theorem State.useReport_holdParts (w : Window) (r : PeriodReport) :
    (s.useReport c w r).holdParts = s.holdParts := by simp [State.useReport]

@[simp] theorem State.earlyStop_holdParts (p : InFlight) (r : PeriodReport) :
    (s.earlyStop c p r).holdParts = s.holdParts := by
  unfold State.earlyStop
  dsimp only
  split <;> simp

theorem State.takeReport_holdParts (r : PeriodReport) : (s.takeReport c r).holdParts = s.holdParts := by
  unfold State.takeReport
  split
  · rfl
  · split
    · exact s.useReport_holdParts ..
    · split
      · split
        · exact s.earlyStop_holdParts ..
        · rfl
      · rfl

@[simp] theorem State.missed_holdParts : (s.missed c).holdParts = s.holdParts := by
  unfold State.missed
  (repeat' split) <;> simp

theorem State.windowCloses_holdParts : (s.windowCloses c).holdParts = s.holdParts := by
  unfold State.windowCloses
  split <;> simp

theorem State.takeArmReport_holdParts (code : Nat) : (s.takeArmReport c code).holdParts = s.holdParts := by
  unfold State.takeArmReport
  dsimp only
  (repeat' split) <;> simp

/-! ### Clocks and timers -/

@[simp] theorem State.passBoundary_holdParts (entry : Nat) (k : PhaseClock) (t : Timing) :
    (s.passBoundary entry k t).holdParts = s.holdParts := by
  refine (State.forList_holdParts (fun c u => ?_) Chan.all _).trans (s.updRecord_holdParts ..)
  unfold State.alignEnds
  (repeat' split) <;> simp

theorem State.phaseIntervalEnds_holdParts (entry : Nat) : (s.phaseIntervalEnds entry).holdParts = s.holdParts := by
  unfold State.phaseIntervalEnds
  (repeat' split) <;> simp

theorem State.phaseBoundaryComes_holdParts (entry : Nat) : (s.phaseBoundaryComes entry).holdParts = s.holdParts := by
  unfold State.phaseBoundaryComes
  (repeat' split) <;> simp

@[simp] theorem State.endPeriod_holdParts (p : InFlight) : (s.endPeriod c p).holdParts = s.holdParts := by
  unfold State.endPeriod
  dsimp only
  split <;> simp

theorem State.channelIntervalEnds_holdParts : (s.channelIntervalEnds c).holdParts = s.holdParts := by
  unfold State.channelIntervalEnds
  (repeat' split) <;> simp

theorem State.periodEnds_holdParts : (s.periodEnds c).holdParts = s.holdParts := by
  unfold State.periodEnds
  (repeat' split) <;> simp

/-- The timers of a channel (R76, R80, R111, R112). -/
theorem State.channelTimers_holdParts : (s.zeroTimerEnds c).holdParts = s.holdParts ∧
    (s.retryEnds c).holdParts = s.holdParts ∧ (s.armingExpires c).holdParts = s.holdParts ∧
    (s.restEnds c).holdParts = s.holdParts := by
  refine ⟨?_, ?_, ?_, ?_⟩
  · unfold State.zeroTimerEnds
    split <;> simp
  · unfold State.retryEnds
    split <;> simp
  · unfold State.armingExpires
    split <;> simp
  · unfold State.restEnds
    dsimp only
    (repeat' split) <;> simp

theorem State.spacingReached_holdParts (g : BusGroup) : (s.spacingReached g).holdParts = s.holdParts := by
  unfold State.spacingReached
  dsimp only
  split
  · exact State.arbiter_holdParts ..
  · rfl

theorem State.holdMillisecond_holdParts : s.holdMillisecond.holdParts = s.holdParts := by
  unfold State.holdMillisecond
  split <;> rfl

/-- A timer that counts down runs on. -/
theorem State.millisecond_holdParts : s.millisecond.holdParts = s.holdParts := by
  refine (State.holdMillisecond_holdParts _).trans ?_
  simp only [State.holdParts, State.timersTick, countDown, Option.isSome_map]
  rfl

/-! ### The eye and the millimetre -/

@[simp] theorem State.examineEye_holdParts : s.examineEye.holdParts = s.holdParts := by
  have rising (t : State) : t.risingEdge.holdParts = t.holdParts := by
    unfold State.risingEdge
    split
    · exact State.trackingCause_holdParts _ fun _ => rfl
    · dsimp only
      split <;> exact State.startOccasions_holdParts _
  unfold State.examineEye
  split
  · dsimp only
    split
    · exact rising _
    · rfl
  · rfl

theorem State.eyeChanges_holdParts (l : Level) : (s.eyeChanges l).holdParts = s.holdParts := by
  unfold State.eyeChanges
  split
  · rfl
  · exact State.examineEye_holdParts _

theorem State.restartStall_holdParts : s.restartStall.holdParts = s.holdParts := rfl

theorem State.moveRecords_holdParts : s.moveRecords.holdParts = s.holdParts := rfl

/-- An advance event up to the stall timer's restart (R11). -/
theorem State.trackMoves_holdParts :
    s.moveRecords.judgeEyeStuck.judgeDepartures.startOccasions.restartStall.holdParts = s.holdParts := by
  have judged (t : State) : t.judgeEyeStuck.holdParts = t.holdParts := by
    unfold State.judgeEyeStuck
    split
    · exact State.trackingCause_holdParts _ fun _ => rfl
    · rfl
  have departed (t : State) : t.judgeDepartures.holdParts = t.holdParts :=
    (foldl_holdParts State.leaveIfDone_holdParts _ _).trans (State.realign_holdParts _)
  calc s.moveRecords.judgeEyeStuck.judgeDepartures.startOccasions.restartStall.holdParts
    _ = s.moveRecords.judgeEyeStuck.judgeDepartures.startOccasions.holdParts := State.restartStall_holdParts _
    _ = s.moveRecords.judgeEyeStuck.judgeDepartures.holdParts := State.startOccasions_holdParts _
    _ = s.moveRecords.judgeEyeStuck.holdParts := departed _
    _ = s.moveRecords.holdParts := judged _
    _ = s.holdParts := s.moveRecords_holdParts

theorem State.growDebounce_holdParts : s.growDebounce.holdParts = s.holdParts := by
  unfold State.growDebounce
  dsimp only
  split <;> simp

theorem State.takeReversePulse_holdParts : s.takeReversePulse.holdParts = s.holdParts := by
  unfold State.takeReversePulse
  split
  · rfl
  · dsimp only
    split
    · exact State.trackingCause_holdParts _ fun _ => rfl
    · rfl

end

end Sys2Proof.Machine
end

section
/-! PROOFS. Requests that leave what the invariant reads, and what interlocks, modes and resets make of it; O57. -/

namespace Sys2Proof.Machine

/-! ### Requests that leave it -/

section
variable (s : State)

theorem serveConfiguration_holdParts :
    (∀ p, (serveSetProfile p s).state.holdParts = s.holdParts) ∧
    (∀ x, (serveSetSegment x s).state.holdParts = s.holdParts) ∧
    (∀ c f r, (serveSetLimits c f r s).state.holdParts = s.holdParts) ∧
    (∀ n r, (serveSetRecipe n r s).state.holdParts = s.holdParts) ∧
    (∀ n, (serveClearRecipe n s).state.holdParts = s.holdParts) ∧
    ∀ n l, (serveSetRamp n l s).state.holdParts = s.holdParts := by
  have put (n : Nat) (r : Option Recipe) : (s.putRecipe n r).holdParts = s.holdParts := by
    unfold State.putRecipe
    split <;> rfl
  refine ⟨fun p => ?_, fun x => ?_, fun c f r => ?_, fun n r => ?_, fun n => ?_, fun n l => ?_⟩
  · unfold serveSetProfile
    (repeat' split) <;> rfl
  · unfold serveSetSegment
    (repeat' split) <;> rfl
  · unfold serveSetLimits
    (repeat' split) <;> rfl
  · unfold serveSetRecipe
    split
    · rfl
    · split
      · rfl
      · exact put ..
  · unfold serveClearRecipe
    split
    · rfl
    · split
      · rfl
      · split
        · rfl
        · exact put ..
  · unfold serveSetRamp
    (repeat' split) <;> rfl

theorem serveArmChannels_holdParts (l : List Nat) : (serveArmChannels l s).state.holdParts = s.holdParts := by
  have armed (c : Chan) (t : State) : (t.armChannel c).holdParts = t.holdParts := by
    unfold State.armChannel
    split
    · split
      · rfl
      · split
        · exact State.arbiter_holdParts ..
        · rfl
    all_goals rfl
  unfold serveArmChannels
  split
  · rfl
  · split
    · rfl
    · rfl
    · exact State.forList_holdParts armed _ s

theorem serveDisarmChannels_holdParts (l : List Nat) : (serveDisarmChannels l s).state.holdParts = s.holdParts := by
  have disarmed (c : Chan) (t : State) : (t.disarmChannel c).holdParts = t.holdParts := by
    unfold State.disarmChannel
    split
    · rfl
    · exact t.toDormant_holdParts c
    · exact t.toDormant_holdParts c
    · exact t.beginDrain_holdParts c _
    · rfl
    · rfl
  unfold serveDisarmChannels
  split
  · rfl
  · exact State.forList_holdParts disarmed _ s

theorem serveClearFault_holdParts (l : List Nat) : (serveClearFault l s).state.holdParts = s.holdParts := by
  have cleared (c : Chan) (t : State) : (t.clearFaultOf c).holdParts = t.holdParts := by
    unfold State.clearFaultOf State.clearedRest
    split
    rename_i rest u h
    split at h <;> cases h <;> rfl
  unfold serveClearFault
  split
  · rfl
  · rfl
  · exact State.forList_holdParts cleared _ s

theorem servePanels_holdParts :
    (∀ e, (serveAnnouncePanel e s).state.holdParts = s.holdParts) ∧
    (∀ n, (serveWithdrawPanel n s).state.holdParts = s.holdParts) ∧
    (∀ n, (serveRemovePanel n s).state.holdParts = s.holdParts) ∧
    (∀ n, (serveQueryPanel n s).state.holdParts = s.holdParts) ∧
    (serveCollectExit s).state.holdParts = s.holdParts := by
  have removed (r : TrackRecord) : (s.removeRecord r).holdParts = s.holdParts := by
    unfold State.removeRecord
    split <;> simp
  refine ⟨fun e => ?_, fun n => ?_, fun n => ?_, fun n => ?_, ?_⟩
  · unfold serveAnnouncePanel
    (repeat' split) <;> rfl
  · unfold serveWithdrawPanel
    (repeat' split) <;> rfl
  · unfold serveRemovePanel
    split
    · rfl
    · split
      · rfl
      · split
        · rfl
        · exact removed _
  · unfold serveQueryPanel
    (repeat' split) <;> rfl
  · unfold serveCollectExit
    split
    · rfl
    · dsimp only
      split
      · exact State.changeLineStop_holdParts _ fun _ => rfl
      · rfl

theorem serveMonitors_holdParts :
    (∀ n p, (serveSetMonitor n p s).state.holdParts = s.holdParts) ∧
    (∀ o, (serveControlMonitor o s).state.holdParts = s.holdParts) ∧
    (∀ n, (serveReadAnode n s).state.holdParts = s.holdParts) ∧
    (∀ n f r, (serveSetAnode n f r s).state.holdParts = s.holdParts) ∧
    ∀ n k, (serveQueryChannel n k s).state.holdParts = s.holdParts := by
  refine ⟨fun n p => ?_, fun o => ?_, fun n => ?_, fun n f r => ?_, fun n k => ?_⟩
  · unfold serveSetMonitor
    (repeat' split) <;> rfl
  · unfold serveControlMonitor
    (repeat' split) <;> rfl
  · unfold serveReadAnode
    split <;> rfl
  · unfold serveSetAnode
    split <;> rfl
  · unfold serveQueryChannel
    (repeat' split) <;> rfl

/-- Every request but SetMode, SetInterlock and AckInterlock. -/
theorem serve_holdParts {r : Request} (mode : ∀ m, r ≠ .setMode m) (set : ∀ n k, r ≠ .setInterlock n k)
    (ack : ∀ n, r ≠ .ackInterlock n) : (serve r s).state.holdParts = s.holdParts := by
  obtain ⟨setProfile, setSegment, setLimits, setRecipe, clearRecipe, setRamp⟩ := serveConfiguration_holdParts s
  obtain ⟨announce, withdraw, remove, queryPanel, collect⟩ := servePanels_holdParts s
  obtain ⟨setMonitor, control, readAnode, setAnode, queryChannel⟩ := serveMonitors_holdParts s
  cases r with
  | setMode m => exact absurd rfl (mode m)
  | setInterlock n k => exact absurd rfl (set n k)
  | ackInterlock n => exact absurd rfl (ack n)
  | setProfile p => exact setProfile p
  | setSegment x => exact setSegment x
  | setLimits c f r => exact setLimits c f r
  | setRecipe n r => exact setRecipe n r
  | clearRecipe n => exact clearRecipe n
  | setRamp n l => exact setRamp n l
  | restart =>
    change (serveRestart s).state.holdParts = _
    unfold serveRestart
    split <;> rfl
  | armChannels l => exact serveArmChannels_holdParts s l
  | disarmChannels l => exact serveDisarmChannels_holdParts s l
  | clearFault l => exact serveClearFault_holdParts s l
  | announcePanel e => exact announce e
  | withdrawPanel id => exact withdraw id
  | removePanel n => exact remove n
  | queryPanel n => exact queryPanel n
  | collectExit => exact collect
  | clearLineStop => exact State.changeLineStop_holdParts s fun _ => rfl
  | setMonitor n p => exact setMonitor n p
  | controlMonitor o => exact control o
  | readAnode n => exact readAnode n
  | setAnode n f r => exact setAnode n f r
  | queryChannel n k => exact queryChannel n k
  | readMonitor | queryLine => rfl

end

/-! ### The latches -/

/-- Some input whose actions include this one is latched. -/
def State.latchedWith (s : State) (action : InterlockConfig → Bool) : Bool :=
  s.interlocks.toList.any fun x => x.latched && action x.config

theorem State.stopLatched_eq (s : State) : s.stopLatched = s.latchedWith (·.stop) := rfl

theorem State.holdLatched_eq (s : State) : s.holdLatched = s.latchedWith (·.hold) := rfl

/-- Another input whose actions include this one is latched. -/
def State.OtherLatched (s : State) (i : Input) (action : InterlockConfig → Bool) : Prop :=
  ∃ j, j ≠ i ∧ (s.interlock j).latched = true ∧ action (s.interlock j).config = true

section
variable {s : State} {i : Input} {action : InterlockConfig → Bool}

theorem State.latchedWith_iff : s.latchedWith action = true ↔
    ∃ j, (s.interlock j).latched = true ∧ action (s.interlock j).config = true := by
  simp only [State.latchedWith, List.any_eq_true, Bool.and_eq_true, State.interlock]
  constructor
  · rintro ⟨x, hx, latched⟩
    obtain ⟨j, hj, rfl⟩ := List.getElem_of_mem hx
    exact ⟨⟨j, by simpa using hj⟩, latched⟩
  · rintro ⟨j, latched⟩
    exact ⟨s.interlocks[j], by simp, latched⟩

/-- An input is latched with an action where this one is, or another. -/
theorem State.latchedWith_iff_own (i : Input) : s.latchedWith action = true ↔
    (s.interlock i).latched = true ∧ action (s.interlock i).config = true ∨ s.OtherLatched i action := by
  rw [State.latchedWith_iff]
  constructor
  · rintro ⟨j, latched⟩
    by_cases own : j = i
    · exact .inl (own ▸ latched)
    · exact .inr ⟨j, own, latched⟩
  · rintro (latched | ⟨j, -, latched⟩)
    · exact ⟨i, latched⟩
    · exact ⟨j, latched⟩

/-- A change of one input leaves the others. -/
theorem State.latchedWith_updInterlock_iff (f : Interlock → Interlock) :
    (s.updInterlock i f).latchedWith action = true ↔
      (f (s.interlock i)).latched = true ∧ action (f (s.interlock i)).config = true ∨ s.OtherLatched i action := by
  have other : (s.updInterlock i f).OtherLatched i action ↔ s.OtherLatched i action := by
    refine exists_congr fun j => and_congr_right fun ne => ?_
    rw [State.updInterlock_interlock, if_neg ne]
  rw [State.latchedWith_iff_own i, State.updInterlock_interlock, if_pos rfl, other]

/-- A latch set (R162). -/
theorem State.latchedWith_latched : (s.updInterlock i fun x => { x with latched := true }).latchedWith action =
    (s.latchedWith action || action (s.interlock i).config) := by
  rw [Bool.eq_iff_iff, State.latchedWith_updInterlock_iff, Bool.or_eq_true, State.latchedWith_iff_own i]
  tauto

/-- A latch cleared (R163). -/
theorem State.latchedWith_cleared : (s.updInterlock i fun x => { x with latched := false }).latchedWith action = true ↔
    s.OtherLatched i action := by
  rw [State.latchedWith_updInterlock_iff]
  simp

/-- A change of an input that leaves its latch and its configuration, or its clear latch. -/
theorem State.latchedWith_of_kept {f : Interlock → Interlock} (latched : (f (s.interlock i)).latched = (s.interlock i).latched)
    (config : (s.interlock i).latched = true → (f (s.interlock i)).config = (s.interlock i).config) :
    (s.updInterlock i f).latchedWith action = s.latchedWith action := by
  rw [Bool.eq_iff_iff, State.latchedWith_updInterlock_iff, State.latchedWith_iff_own i, latched]
  exact or_congr_left (and_congr_right fun h => by rw [config h])

theorem State.holdParts_of_kept {f : Interlock → Interlock} (latched : (f (s.interlock i)).latched = (s.interlock i).latched)
    (config : (s.interlock i).latched = true → (f (s.interlock i)).config = (s.interlock i).config) :
    (s.updInterlock i f).holdParts = s.holdParts := by
  unfold State.holdParts
  rw [State.stopLatched_eq, State.holdLatched_eq, State.latchedWith_of_kept latched config,
    State.latchedWith_of_kept latched config]
  rfl

end

/-! ### Hold causes -/

/-- What the adding of a hold cause by an event makes of the parts (R154, R157). -/
def HoldParts.adding (p : HoldParts) (f : HoldCauses → HoldCauses) : HoldParts :=
  match p.mode with
  | .run => { p with mode := .hold, causes := f p.causes }
  | .hold => { p with causes := f p.causes }
  | _ => p

theorem State.addHoldCause_holdParts (s : State) (f : HoldCauses → HoldCauses) :
    (s.addHoldCause f).holdParts = s.holdParts.adding f := by
  unfold State.addHoldCause HoldParts.adding
  cases h : s.mode with
  | run =>
    have held : (s.runToHold (f s.holdCauses)).holdParts =
        State.holdParts { s with mode := .hold, holdCauses := f s.holdCauses } := State.startOccasions_holdParts _
    simp only [State.raise_holdParts, held]
    simp only [State.holdParts, h]
    rfl
  | hold =>
    simp only [State.holdParts, h]
    rfl
  | boot | offline | standby => simp only [State.holdParts, h]

/-- A cause added leaves the line in HOLD with a cause, or where it was (R154). -/
theorem HoldParts.Ok.adding {p : HoldParts} (h : p.Ok) {f : HoldCauses → HoldCauses}
    (cause : ∀ c, (f c).isEmpty = false) (interlock : (f p.causes).interlock = true → p.holdLatched = true) :
    (p.adding f).Ok := by
  unfold HoldParts.adding
  split
  case h_1 mode => exact ⟨by simp [cause], fun b => absurd (h.boot b) (by simp [mode]), h.stop, interlock⟩
  case h_2 mode => exact ⟨by simp [cause, mode], fun b => absurd (h.boot b) (by simp [mode]), h.stop, interlock⟩
  case h_3 => exact h

end Sys2Proof.Machine
end

section
/-! PROOFS. What interlocks, modes, resets and time make of HOLD and its causes, and every step; O57. -/

namespace Sys2Proof.Machine

/-! ### Interlocks -/

theorem State.changeLineStop_stopCause (s : State) {f : LineStopCauses → LineStopCauses} {b : Bool}
    (hf : ∀ l, (f l).interlock = b) : (s.changeLineStop f).holdParts = { s.holdParts with stopCause := b } := by
  simp [State.holdParts, State.stopLatched, State.holdLatched, hf]

/-- STOP as a part of a latch (R168). -/
def HoldParts.stopping (p : HoldParts) (stop : Bool) : HoldParts := { p with stopCause := p.stopCause || stop }

/-- HOLD as a part of a latch (R157). -/
def HoldParts.holding (p : HoldParts) (hold : Bool) : HoldParts :=
  if hold then p.adding fun c => { c with interlock := true } else p

theorem State.heldParts (s : State) (hold : Bool) :
    (if hold then s.addHoldCause fun c => { c with interlock := true } else s).holdParts = s.holdParts.holding hold := by
  cases hold with
  | true => rw [HoldParts.holding, if_pos rfl, if_pos rfl, State.addHoldCause_holdParts]
  | false => rfl

theorem State.stoppedParts (s : State) (stop : Bool) :
    (if stop then s.changeLineStop fun l => { l with interlock := true } else s).holdParts =
      s.holdParts.stopping stop := by
  unfold HoldParts.stopping
  cases stop with
  | true =>
    rw [Bool.or_true]
    exact s.changeLineStop_stopCause fun _ => rfl
  | false =>
    rw [Bool.or_false]
    rfl

/-- HOLD and STOP bear on different parts. -/
theorem HoldParts.holding_stopping (p : HoldParts) (hold stop : Bool) :
    (p.holding hold).stopping stop = (p.stopping stop).holding hold := by
  rcases p with ⟨mode, causes, booting, stopCause, stopLatched, holdLatched⟩
  cases hold with
  | false => rfl
  | true => cases mode <;> rfl

/-- What a latch makes of the parts (R162): its own mark, then HOLD, then STOP. -/
theorem State.latch_holdParts (s : State) (i : Input) : (s.latch i).holdParts =
    (({ s.holdParts with
        stopLatched := s.stopLatched || (s.interlock i).config.stop
        holdLatched := s.holdLatched || (s.interlock i).config.hold } : HoldParts).holding
      (s.interlock i).config.hold).stopping (s.interlock i).config.stop := by
  unfold State.latch
  extract_lets k newly latched dropped held
  have marked : latched.holdParts =
      { s.holdParts with stopLatched := s.stopLatched || k.stop, holdLatched := s.holdLatched || k.hold } := by
    refine (State.raise_holdParts _ .interlock).trans ?_
    unfold State.holdParts
    rw [State.stopLatched_eq, State.holdLatched_eq, State.latchedWith_latched, State.latchedWith_latched]
    rfl
  have dropping : dropped.holdParts = latched.holdParts :=
    State.forList_holdParts (fun c t => (ChannelWork.dropChannel t c).holdParts) newly latched
  rw [State.stoppedParts, State.heldParts, dropping, marked]

/-- A latch with its actions: HOLD adds INTERLOCK to the hold causes, STOP to the line-stop causes (R157, R162, R168). -/
theorem State.latch_holdOk {s : State} (h : s.holdParts.Ok) (i : Input) : (s.latch i).holdParts.Ok := by
  let k := (s.interlock i).config
  let marked : HoldParts :=
    { s.holdParts with stopLatched := s.stopLatched || k.stop, holdLatched := s.holdLatched || k.hold }
  have stopped : (marked.stopping k.stop).Ok :=
    ⟨h.hold, h.boot, congrArg (· || k.stop) h.stop,
      fun c => Bool.or_eq_true_iff.2 (.inl (h.interlock c))⟩
  rw [State.latch_holdParts, HoldParts.holding_stopping]
  unfold HoldParts.holding
  split
  · rename_i hold
    exact stopped.adding (fun c => by simp [HoldCauses.isEmpty]) fun _ => Bool.or_eq_true_iff.2 (.inr hold)
  · exact stopped

theorem State.latchIfLevel_holdOk {s : State} (h : s.holdParts.Ok) (i : Input) : (s.latchIfLevel i).holdParts.Ok := by
  unfold State.latchIfLevel
  dsimp only
  split
  · exact State.latch_holdOk h i
  · exact h

/-- The clearing of a latch without its action, or with another latch of that action standing, leaves what is latched. -/
theorem State.latchedWith_cleared_eq {s : State} {i : Input} {action : InterlockConfig → Bool}
    (h : ¬ (action (s.interlock i).config &&
      !(s.updInterlock i fun x => { x with latched := false }).latchedWith action) = true) :
    (s.updInterlock i fun x => { x with latched := false }).latchedWith action = s.latchedWith action := by
  have stands : action (s.interlock i).config = true → s.OtherLatched i action := by
    simpa [State.latchedWith_cleared] using h
  rw [Bool.eq_iff_iff, State.latchedWith_cleared, State.latchedWith_iff_own i]
  exact ⟨.inr, fun own => own.elim (fun own => stands own.2) id⟩

/-- The clearing of a latch: the last HOLD latch turns INTERLOCK into COMMAND, the last STOP latch removes it from the
line-stop causes (R157, R168). -/
theorem State.unlatch_holdOk {s : State} (h : s.holdParts.Ok) (i : Input) : (s.unlatch i).holdParts.Ok := by
  unfold State.unlatch
  extract_lets k before cleared freed ended turned
  have parts : ended.holdParts = cleared.holdParts :=
    State.forList_holdParts (fun c t => (ChannelWork.inhibitionEnds t c).holdParts) freed cleared
  have turnedParts : turned.stopLatched = cleared.stopLatched ∧ turned.lineStop.interlock = s.lineStop.interlock ∧
      (turned.mode = .hold ↔ turned.holdCauses.isEmpty = false) ∧ (turned.bootTimer.isSome = true → turned.mode = .boot) ∧
      (turned.holdCauses.interlock = true → turned.holdLatched = true) := by
    obtain ⟨mode, causes, booting, stopCause, stopLatched, holdLatched⟩ := HoldParts.mk.inj parts
    dsimp only [turned]
    split
    · unfold State.interlockToCommand
      split
      · rename_i interlock
        have some : ended.holdCauses.isEmpty = false := by simp [HoldCauses.isEmpty, interlock]
        refine ⟨stopLatched, stopCause, ?_, by rw [booting, mode]; exact h.boot, by simp⟩
        have hold : s.mode = .hold := h.hold.2 (by rw [causes] at some; exact some)
        exact iff_of_true (mode.trans hold) (by simp [HoldCauses.isEmpty])
      · rename_i interlock
        exact ⟨stopLatched, stopCause, by rw [mode, causes]; exact h.hold, by rw [booting, mode]; exact h.boot,
          fun c => absurd c interlock⟩
    · rename_i stays
      have same : cleared.holdLatched = s.holdLatched := by
        rw [holdLatched] at stays
        exact State.latchedWith_cleared_eq (action := (·.hold)) stays
      exact ⟨stopLatched, stopCause, by rw [mode, causes]; exact h.hold, by rw [booting, mode]; exact h.boot,
        by rw [causes, holdLatched, same]; exact h.interlock⟩
  obtain ⟨stopLatched, stopCause, hold, boot, interlock⟩ := turnedParts
  split
  · rename_i last
    have gone : cleared.stopLatched = false := by
      rw [stopLatched, Bool.and_eq_true, Bool.not_eq_true'] at last
      exact last.2
    rw [State.changeLineStop_stopCause turned (b := false) fun _ => rfl]
    exact ⟨hold, boot, (stopLatched.trans gone).symm, interlock⟩
  · rename_i stays
    rw [stopLatched] at stays
    have same : cleared.stopLatched = s.stopLatched := State.latchedWith_cleared_eq (action := (·.stop)) stays
    exact ⟨hold, boot, (stopCause.trans h.stop).trans (stopLatched.trans same).symm, interlock⟩

theorem State.interlockChanges_holdOk {s : State} (h : s.holdParts.Ok) (i : Input) (l : Level) :
    (s.interlockChanges i l).holdParts.Ok := by
  have moved : ∀ t : State, (t.updInterlock i fun x => { x with level := l }).holdParts = t.holdParts :=
    fun t => State.holdParts_of_kept rfl fun _ => rfl
  unfold State.interlockChanges State.followLevel
  dsimp only
  split
  · exact h
  · split
    · exact State.latch_holdOk (by rw [moved]; exact h) i
    · rw [moved]
      exact h

/-- After the clearing of its latch an input's latch is clear (R163). -/
theorem State.unlatch_latched (s : State) (i : Input) : ((s.unlatch i).interlock i).latched = false := by
  unfold State.unlatch
  extract_lets k before cleared freed ended turned
  have kept : turned.interlocks = cleared.interlocks := by
    have work : ChannelWork cleared ended := ChannelWork.forList (fun c t => .inhibitionEnds t c) freed cleared
    dsimp only [turned]
    unfold State.interlockToCommand
    (repeat' split) <;> exact work.interlocks
  have clear : (cleared.interlock i).latched = false := by
    rw [State.updInterlock_interlock, if_pos rfl]
  split
  · rw [State.interlock, State.changeLineStop_interlocks, kept]
    exact clear
  · rw [State.interlock, kept]
    exact clear

/-- SetInterlock replaces the record of an input whose latch is clear, or has just been cleared (R161). -/
theorem State.setInterlock_holdOk {s : State} (h : s.holdParts.Ok) (n : Nat) (config : Option InterlockConfig) :
    (s.setInterlock n config).2.holdParts.Ok := by
  unfold State.setInterlock
  split
  · rename_i i k _
    split
    · exact h
    · split
      · exact h
      · extract_lets cleared
        have clear : (cleared.interlock i).latched = false ∧ cleared.holdParts.Ok := by
          dsimp only [cleared]
          split
          · exact ⟨s.unlatch_latched i, State.unlatch_holdOk h i⟩
          · rename_i latched
            exact ⟨by simpa using latched, h⟩
        have replaced : (cleared.updInterlock i fun x => { x with config := k }).holdParts = cleared.holdParts :=
          State.holdParts_of_kept rfl fun latched => absurd latched (by simp [clear.1])
        exact State.latchIfLevel_holdOk (by rw [replaced]; exact clear.2) i
  · exact h

theorem State.ackInterlock_holdOk {s : State} (h : s.holdParts.Ok) (n : Nat) : (s.ackInterlock n).2.holdParts.Ok := by
  unfold State.ackInterlock
  split
  · exact h
  · dsimp only
    split
    · exact h
    · split
      · exact h
      · exact State.unlatch_holdOk h _

/-! ### Modes -/

/-- Outside BOOT the mode and the hold causes may change together, INTERLOCK not being added (R154). -/
theorem HoldParts.Ok.moved {p : HoldParts} (h : p.Ok) (out : p.mode ≠ .boot) {mode : LineMode} {causes : HoldCauses}
    (fit : mode = .hold ↔ causes.isEmpty = false) (interlock : causes.interlock = true → p.causes.interlock = true) :
    ({ p with mode := mode, causes := causes } : HoldParts).Ok :=
  ⟨fit, fun b => absurd (h.boot b) out, h.stop, fun c => h.interlock (interlock c)⟩

theorem HoldParts.Ok.noCause {p : HoldParts} (h : p.Ok) (mode : p.mode ≠ .hold) : p.causes.isEmpty = true := by
  rw [← Bool.not_eq_false]
  exact fun some => mode (h.hold.2 some)

section
variable {s : State}

theorem State.runToHold_holdParts (s : State) (causes : HoldCauses) :
    (s.runToHold causes).holdParts = { s.holdParts with mode := .hold, causes := causes } :=
  State.startOccasions_holdParts _

theorem State.standbyToRun_holdParts (s : State) : s.standbyToRun.holdParts = { s.holdParts with mode := .run } := by
  refine (State.startOccasions_holdParts _).trans (State.forList_holdParts (fun c t => ?_) Chan.all _)
  split
  · exact t.cancelDrain_holdParts c
  · rfl

theorem State.toStandby_holdParts (s : State) :
    s.toStandby.holdParts = { s.holdParts with mode := .standby, causes := HoldCauses.none } := by
  refine State.forList_holdParts (fun c t => ?_) Chan.all _
  split
  · exact t.beginDrain_holdParts c _
  · rfl

theorem State.setModeRun_holdOk (h : s.holdParts.Ok) : s.setModeRun.2.holdParts.Ok := by
  unfold State.setModeRun
  split
  case h_1 mode =>
    split
    · exact h
    · split
      · exact h
      · have still : s.holdParts.mode = .offline := mode
        exact h.moved (mode := .run) (causes := s.holdCauses) (by simp [still])
          (by simp [show s.holdCauses.isEmpty = true from h.noCause (by simp [still])]) id
  case h_2 => exact h
  case h_3 mode =>
    split
    · exact h
    · have held : s.holdParts.mode = .hold := mode
      let causes := { s.holdCauses with command := false }
      dsimp only
      split
      · rename_i none
        exact h.moved (mode := .run) (causes := causes) (by simp [held]) (by simp [causes, none]) id
      · rename_i some
        exact h.moved (mode := s.mode) (causes := causes) (by simp [held]) (by simp [causes, mode, some]) id
  case h_4 mode =>
    split
    · exact h
    · have standby : s.holdParts.mode = .standby := mode
      dsimp only
      rw [State.standbyToRun_holdParts]
      exact h.moved (causes := s.holdCauses) (by simp [standby])
        (by simp [show s.holdCauses.isEmpty = true from h.noCause (by simp [standby])]) id
  case h_5 => exact h

theorem State.setModeHold_holdOk (h : s.holdParts.Ok) : s.setModeHold.2.holdParts.Ok := by
  unfold State.setModeHold
  split
  case h_1 mode =>
    have run : s.holdParts.mode = .run := mode
    dsimp only
    rw [State.runToHold_holdParts]
    exact h.moved (by simp [run]) (by simp [HoldCauses.isEmpty]) id
  case h_2 mode =>
    have held : s.holdParts.mode = .hold := mode
    exact h.moved (mode := s.mode) (causes := { s.holdCauses with command := true }) (by simp [held])
      (by simp [mode, HoldCauses.isEmpty]) id
  all_goals exact h

theorem State.setModeStandby_holdOk (h : s.holdParts.Ok) : s.setModeStandby.2.holdParts.Ok := by
  have entered (out : s.mode ≠ .boot) : s.toStandby.holdParts.Ok := by
    rw [State.toStandby_holdParts]
    exact h.moved (causes := HoldCauses.none) out (by simp [HoldCauses.isEmpty, HoldCauses.none])
      (by simp [HoldCauses.none])
  unfold State.setModeStandby
  split
  case h_1 mode =>
    dsimp only
    exact entered (by simp [mode])
  case h_2 mode =>
    dsimp only
    exact entered (by simp [mode])
  all_goals exact h

theorem State.setModeOffline_holdOk (h : s.holdParts.Ok) : s.setModeOffline.2.holdParts.Ok := by
  have entered (out : s.mode ≠ .boot) : s.toOffline.holdParts.Ok :=
    h.moved (mode := .offline) (causes := HoldCauses.none) out (by simp [HoldCauses.isEmpty, HoldCauses.none]) (by simp [HoldCauses.none])
  unfold State.setModeOffline
  split
  case h_1 => exact h
  case h_5 => exact h
  all_goals
    rename_i mode
    split
    · exact h
    · split
      · exact h
      · exact entered (by rw [mode]; decide)

theorem serve_holdOk (h : s.holdParts.Ok) (r : Request) : (serve r s).state.holdParts.Ok := by
  by_cases mode : ∃ m, r = .setMode m
  · obtain ⟨m, rfl⟩ := mode
    change (serveSetMode m s).state.holdParts.Ok
    unfold serveSetMode
    split
    · exact h
    · rw [modeServed_state]; exact State.setModeOffline_holdOk h
    · rw [modeServed_state]; exact State.setModeRun_holdOk h
    · rw [modeServed_state]; exact State.setModeHold_holdOk h
    · rw [modeServed_state]; exact State.setModeStandby_holdOk h
  by_cases set : ∃ n k, r = .setInterlock n k
  · obtain ⟨n, k, rfl⟩ := set
    exact State.setInterlock_holdOk h n k
  by_cases ack : ∃ n, r = .ackInterlock n
  · obtain ⟨n, rfl⟩ := ack
    exact State.ackInterlock_holdOk h n
  rw [serve_holdParts s (fun m e => mode ⟨m, e⟩) (fun n k e => set ⟨n, k, e⟩) fun n e => ack ⟨n, e⟩]
  exact h

/-! ### The links -/

theorem State.takeRequest_holdOk (h : s.holdParts.Ok) (f : Frame) (r : Request) : (s.takeRequest f r).holdParts.Ok := by
  unfold State.takeRequest
  split
  · exact h
  · exact serve_holdOk h r

theorem State.takeFrame_holdOk (h : s.holdParts.Ok) (f : Frame) : (s.takeFrame f).holdParts.Ok := by
  unfold State.takeFrame
  split
  · exact h
  · exact State.takeRequest_holdOk h ..

theorem State.meet_holdOk (h : s.holdParts.Ok) (f : Frame) {take : State → State}
    (ht : ∀ t : State, t.holdParts.Ok → (take t).holdParts.Ok) : (s.meet f take).holdParts.Ok := by
  unfold State.meet
  split
  · exact h
  · dsimp only
    split
    · exact ht _ h
    · exact h
    · exact h

theorem State.arrive_holdOk (h : s.holdParts.Ok) (f : Frame) : (s.arrive f).holdParts.Ok :=
  State.meet_holdOk h f fun _ ht => State.takeFrame_holdOk ht f

theorem State.takeByte_holdOk (h : s.holdParts.Ok) (b : Byte) : (s.takeByte b).holdParts.Ok := by
  unfold State.takeByte State.checkEnds
  split
  · exact h
  · split
    case h_5 =>
      split
      · split
        · exact State.arrive_holdOk h _
        · exact h
      · exact h
    all_goals exact h

/-! ### Resets and BOOT -/

/-- In BOOT with every latch clear and no cause of either kind. -/
theorem holdParts_ok_of_boot {t : State} (mode : t.mode = .boot) (causes : t.holdCauses = HoldCauses.none)
    (lineStop : t.lineStop = LineStopCauses.none) (clear : ∀ j, (t.interlock j).latched = false) : t.holdParts.Ok := by
  have unlatched (action : InterlockConfig → Bool) : t.latchedWith action = false := by
    rw [← Bool.not_eq_true, State.latchedWith_iff]
    simp [clear]
  refine ⟨?_, fun _ => mode, ?_, ?_⟩
  · simp [State.holdParts, mode, causes, HoldCauses.none, HoldCauses.isEmpty]
  · change t.lineStop.interlock = t.latchedWith (·.stop)
    rw [lineStop, unlatched]
    rfl
  · simp [State.holdParts, causes, HoldCauses.none]

theorem State.cleared_interlock (s : State) (j : Input) : (s.cleared.interlock j).latched = false := by
  simp [State.interlock, State.cleared, mapVec_eq_map]

theorem State.powersOn_holdOk (s : State) : s.powersOn.holdParts.Ok := by
  have clear (j : Input) : (s.cleared.configurationCleared.interlock j).latched = false := by
    simp [State.interlock, State.configurationCleared]
  unfold State.powersOn
  dsimp only
  split <;> exact holdParts_ok_of_boot rfl rfl rfl clear

theorem State.restarts_holdOk (s : State) : s.restarts.holdParts.Ok :=
  holdParts_ok_of_boot rfl rfl rfl s.cleared_interlock

/-- The end of BOOT: OFFLINE without a hold cause, and inputs that latch (R148). -/
theorem State.bootEnds_holdOk (h : s.holdParts.Ok) : s.bootEnds.holdParts.Ok := by
  unfold State.bootEnds
  split
  · rename_i booting
    extract_lets offline levels
    have mode : s.holdParts.mode = .boot := h.boot booting
    have rest : offline.holdParts.Ok :=
      ⟨by simp [State.holdParts, offline, show s.holdCauses.isEmpty = true from h.noCause (by simp [mode])],
        nofun, h.stop, h.interlock⟩
    have taken : levels.holdParts = offline.holdParts :=
      foldl_holdParts (fun t i => State.holdParts_of_kept rfl fun _ => rfl) Input.all (offline.raise .lineMode)
    exact List.foldlRecOn Input.all _ (motive := fun t : State => t.holdParts.Ok) (by rw [taken]; exact rest)
      fun t ht i _ => State.latchIfLevel_holdOk ht i
  · exact h

theorem State.transmitted_holdOk (h : s.holdParts.Ok) : s.transmitted.holdParts.Ok := by
  unfold State.transmitted
  split
  · exact h
  · exact h
  · split
    · exact s.restarts_holdOk
    · unfold State.replySent
      dsimp only
      split
      · exact State.takeFrame_holdOk (by exact h) _
      · exact h

/-! ### STALL -/

/-- STALL goes with the advance event, and HOLD with the last cause (R155). -/
theorem State.removeStall_holdOk (h : s.holdParts.Ok) : s.removeStall.holdParts.Ok := by
  unfold State.removeStall
  split
  · rename_i stall
    have held : s.holdParts.mode = .hold := h.hold.2 (by simp [State.holdParts, HoldCauses.isEmpty, stall])
    let causes := { s.holdCauses with stall := false }
    dsimp only
    split
    · rename_i none
      exact h.moved (mode := .run) (causes := causes) (by simp [held]) (by simp [causes, none]) id
    · rename_i some
      exact h.moved (mode := s.mode) (causes := causes) (by simp [held])
        (by simp [causes, show s.mode = .hold from held, some]) id
  · exact h

theorem State.takeForwardPulse_holdOk (h : s.holdParts.Ok) : s.takeForwardPulse.holdParts.Ok := by
  have advanced (t : State) (ht : t.holdParts.Ok) : t.advance.holdParts.Ok := by
    unfold State.advance
    dsimp only
    rw [State.growDebounce_holdParts]
    exact State.removeStall_holdOk (by rw [State.trackMoves_holdParts]; exact ht)
  unfold State.takeForwardPulse
  split
  · exact h
  · split
    · dsimp only
      split
      · rw [State.examineEye_holdParts]
        exact h
      · exact h
    · split
      · exact advanced _ h
      · exact h

/-- The stall timer runs out: STALL is added (R15, R155). -/
theorem State.stallExpires_holdOk (h : s.holdParts.Ok) : s.stallExpires.holdParts.Ok := by
  unfold State.stallExpires
  split
  · dsimp only
    split
    · rw [State.addHoldCause_holdParts]
      exact HoldParts.Ok.adding h (fun c => by simp [HoldCauses.isEmpty]) h.interlock
    · exact h
  · exact h

end

/-! ### Every command, every step -/

theorem holdParts_ok_done {s t : State} (hs : s.holdParts.Ok) (h : done s = .next t) : t.holdParts.Ok := by
  rw [← done_eq_next.1 h, State.settle_holdParts]
  exact hs

theorem holdParts_ok_exec (i : Instr) (s t : State) (hs : s.holdParts.Ok) (h : exec i s = .next t) :
    t.holdParts.Ok := by
  cases hr : requestOf i with
  | some r =>
    rw [exec_of_request hr] at h
    exact holdParts_ok_done (State.meet_holdOk hs _ fun _ ht => State.takeRequest_holdOk ht ..) h
  | none =>
    have kept {u : State} (hu : u.holdParts = s.holdParts) (h : done u = .next t) : t.holdParts.Ok :=
      holdParts_ok_done (hu ▸ hs) h
    have timers (c : Chan) := s.channelTimers_holdParts c
    cases i with
    | powerOn b => exact holdParts_ok_done (State.powersOn_holdOk _) h
    | resetLineActive => exact holdParts_ok_done (s := s.resetHolds) (holdParts_ok_of_boot rfl rfl rfl s.cleared_interlock) h
    | resetLineRelease b =>
      refine holdParts_ok_done ?_ h
      split
      · exact holdParts_ok_of_boot rfl rfl rfl (s.strapped b).cleared_interlock
      · exact hs
    | restartTakesEffect b =>
      refine holdParts_ok_done ?_ h
      split
      · exact State.restarts_holdOk _
      · exact hs
    | bootEnd => exact holdParts_ok_done (State.bootEnds_holdOk hs) h
    | presenceReply c =>
      refine kept ?_ h
      unfold State.takePresence
      split <;> rfl
    | forwardPulse => exact holdParts_ok_done (State.takeForwardPulse_holdOk hs) h
    | reversePulse => exact kept s.takeReversePulse_holdParts h
    | eyeChange l => exact kept (s.eyeChanges_holdParts l) h
    | stallTimerExpiry => exact holdParts_ok_done (State.stallExpires_holdOk hs) h
    | phaseIntervalEnd n => exact kept (s.phaseIntervalEnds_holdParts n) h
    | phaseBoundary n => exact kept (s.phaseBoundaryComes_holdParts n) h
    | channelIntervalEnd c => exact kept (s.channelIntervalEnds_holdParts c) h
    | periodEnd c => exact kept (s.periodEnds_holdParts c) h
    | zeroTimerExpiry c => exact kept (timers c).1 h
    | loneZeroRetryExpiry c => exact kept (timers c).2.1 h
    | periodReport c r => exact kept (s.takeReport_holdParts c r) h
    | reportWindowClose c => exact kept (s.windowCloses_holdParts c) h
    | armReport c n => exact kept (s.takeArmReport_holdParts c n) h
    | armingTimeout c => exact kept (timers c).2.2.1 h
    | contactorRestEnd c => exact kept (timers c).2.2.2 h
    | armingSpacingReached g => exact kept (s.spacingReached_holdParts g) h
    | interlockInputChange i l => exact holdParts_ok_done (State.interlockChanges_holdOk hs i l) h
    | frameReceived k p => exact holdParts_ok_done (State.arrive_holdOk hs _) h
    | interByteGap => exact kept (u := s.dropFrame) rfl h
    | framingError => exact kept (u := s.dropFrame) rfl h
    | transmitComplete => exact holdParts_ok_done (State.transmitted_holdOk hs) h
    | badKind k =>
      refine holdParts_ok_done ?_ h
      split
      · exact State.arrive_holdOk hs _
      · exact hs
    | receivedByte b => exact holdParts_ok_done (State.takeByte_holdOk hs b) h
    | moduleOrderSent => exact kept (u := s.orderSent) rfl h
    | holdDwellMillisecond => exact kept s.holdMillisecond_holdParts h
    | _ => cases hr

/-- Settles O57: every step keeps the invariant, command by command; most leave the parts that it reads, and latches,
modes, STALL, resets and the end of BOOT are looked at one by one. -/
theorem stepKeepsHoldInv : Obligations.StepKeepsHoldInv := by
  unfold Obligations.StepKeepsHoldInv
  intro s t hs h
  exact State.holdInv_iff.2 <| step_keeps (P := fun u => u.holdParts.Ok) (fun _ _ hu => hu) (fun _ _ hu => hu)
    (fun u hu => by rw [State.millisecond_holdParts]; exact hu) holdParts_ok_exec (State.holdInv_iff.1 hs) h

end Sys2Proof.Machine
end

section
/-! PROOFS. The channels that the clearing of an interlock latch frees (R166); O46. -/

namespace Sys2Proof.Machine

/-! ### Channels no longer inhibited (R166) -/

/-- The channels, those of a list at ramp index 0. Irreducible, lest a comparison of states unroll the vector. -/
@[irreducible] def State.channelsReindexed (s : State) (l : List Chan) : Vector Channel 40 :=
  Vector.ofFn fun c : Fin 40 => if c ∈ l then { s.chan c with index := 0 } else s.chan c

/-- The channels of a list at ramp index 0. -/
def State.reindexed (l : List Chan) (s : State) : State := { s with channels := s.channelsReindexed l }

theorem State.reindexed_chan (l : List Chan) (s : State) (c : Chan) :
    (s.reindexed l).chan c = if c ∈ l then { s.chan c with index := 0 } else s.chan c := by
  simp [State.reindexed, State.channelsReindexed, State.chan]

/-- The channels of a list have their ramp index restarted, and a start occasion (R166). -/
def State.freed (l : List Chan) (s : State) : Effects := State.started l (s.reindexed l)

/-- A READY channel has its ramp index restarted and a start occasion, another nothing (R166). -/
def State.freeing (c : Chan) (s : State) : Effects :=
  if (s.chan c).state = .ready then State.freed [c] s else s.quiet

theorem State.reindexed_nil (s : State) : s.reindexed [] = s := by
  have same : (Vector.ofFn fun c : Fin 40 => s.chan c) = s.channels := State.channels_ext fun c => by simp [State.chan]
  simp [State.reindexed, State.channelsReindexed, same]

theorem State.reindexed_eq {s t : State} {l : List Chan} (h : ∀ c, t.chan c = (s.reindexed l).chan c) :
    { s with channels := t.channels } = s.reindexed l := by
  have channels : t.channels = (s.reindexed l).channels := State.channels_ext fun c => by
    rw [← State.chan_def, ← State.chan_def, h]
  rw [channels, State.reindexed]

theorem State.reindexed_cons (c : Chan) (l : List Chan) (s : State) :
    (s.reindexed [c]).reindexed l = s.reindexed (c :: l) := by
  have chan (d : Chan) : ((s.reindexed [c]).reindexed l).chan d = (s.reindexed (c :: l)).chan d := by
    simp only [State.reindexed_chan, List.mem_cons, List.not_mem_nil, or_false]
    by_cases own : d = c <;> by_cases mem : d ∈ l <;> simp [own, mem]
  rw [← State.reindexed_eq chan, State.reindexed, State.reindexed]

/-- A start occasion of one channel, and the ramp indexes of others. -/
theorem State.reindexed_runsStarted {c : Chan} {l : List Chan} (fresh : c ∉ l) (s : State) :
    (s.runsStarted [c]).reindexed l = (s.reindexed l).runsStarted [c] := by
  have own : (s.reindexed l).chan c = s.chan c := by rw [State.reindexed_chan, if_neg fresh]
  have read (ch : Channel) : (s.reindexed l).runStarts c ch = s.runStarts c ch := by
    rw [State.reindexed]
    exact State.runStarts_of_channels s _ s.monitor c ch
  have looked (ch : Channel) : (s.reindexed l).looked c ch = s.looked c ch := by
    rw [State.looked, read, State.looked]
  have chan (d : Chan) : ((s.reindexed l).runsStarted [c]).chan d = ((s.runsStarted [c]).reindexed l).chan d := by
    rw [State.reindexed_chan, State.runsStarted_chan, State.runsStarted_chan]
    by_cases hd : d = c
    · subst hd
      rw [if_neg fresh, own, looked]
    · simp only [List.mem_singleton, hd, if_false]
      exact State.reindexed_chan ..
  have monitor : (s.reindexed l).monitorStarted [c] = s.monitorStarted [c] := by
    simp only [State.monitorStarted, own, read, List.filter_cons, List.filter_nil]
    rw [State.reindexed]
  rw [← State.reindexed_eq chan, State.runsStarted_channels, State.runsStarted_eq (s.reindexed l), monitor,
    State.runsStarted_eq s]
  rfl

@[simp] theorem State.reindexed_monitor (l : List Chan) (s : State) : (s.reindexed l).monitor = s.monitor := rfl

/-- A READY channel freed, then a list, is the longer list. -/
theorem State.freed_cons {c : Chan} {l : List Chan} (fresh : c ∉ l) (s : State) :
    (State.freed [c] s).andThen (State.freed l) = State.freed (c :: l) s := by
  let w := s.reindexed (c :: l)
  have state : ((s.reindexed [c]).runsStarted [c]).reindexed l = w.runsStarted [c] := by
    rw [State.reindexed_runsStarted fresh, State.reindexed_cons]
  have monitor : ((s.reindexed [c]).runsStarted [c]).monitor = (w.runsStarted [c]).monitor := by
    rw [← state, State.reindexed_monitor]
  have together := started_cons fresh w.quiet
  simp only [State.freed, State.started, Effects.andThen, State.quiet, List.nil_append, State.reindexed_monitor, w]
    at together state monitor ⊢
  rw [state, monitor]
  exact together

theorem State.freed_nil (s : State) : State.freed [] s = s.quiet := by
  rw [State.freed, State.reindexed_nil, State.started, State.runsStarted_of_none (by simp), monitorNotice_self,
    State.quiet]

/-- Another channel is as it was. -/
theorem State.freed_chan_other {c d : Chan} (ne : d ≠ c) (s : State) : (State.freed [c] s).state.chan d = s.chan d := by
  rw [State.freed, State.started]
  simp [State.runsStarted_chan, State.reindexed_chan, ne]

theorem State.freeing_of_ready {c : Chan} {s : State} (ready : (s.chan c).state = .ready) :
    s.freeing c = State.freed [c] s := if_pos ready

theorem State.freeing_of_not_ready {c : Chan} {s : State} (ready : (s.chan c).state ≠ .ready) :
    s.freeing c = s.quiet := if_neg ready

/-- The channels of a list one after another are those of them that are READY, together. -/
theorem each_freeing : ∀ {l : List Chan}, l.Nodup → ∀ e : Effects, e.each l State.freeing =
    e.andThen (State.freed (l.filter fun c => decide ((e.state.chan c).state = .ready)))
  | [], _, e => by
    rw [List.filter_nil, Effects.andThen_congr (State.freed_nil e.state), Effects.andThen_quiet_self, Effects.each_nil]
  | c :: l, nodup, e => by
    obtain ⟨fresh, nodup⟩ := List.nodup_cons.1 nodup
    rw [Effects.each_cons, each_freeing nodup, List.filter_cons]
    by_cases ready : (e.state.chan c).state = .ready
    · have rest : (l.filter fun d => decide (((State.freed [c] e.state).state.chan d).state = .ready)) =
          l.filter fun d => decide ((e.state.chan d).state = .ready) :=
        List.filter_congr fun d hd => by
          have ne : d ≠ c := fun k => fresh (k ▸ hd)
          rw [State.freed_chan_other ne]
      rw [Effects.andThen_congr (State.freeing_of_ready ready), if_pos (by simpa using ready), Effects.andThen_state, rest,
        Effects.andThen_assoc]
      exact Effects.andThen_congr (State.freed_cons (fun h => fresh (List.mem_of_mem_filter h)) e.state)
    · rw [Effects.andThen_congr (State.freeing_of_not_ready ready), Effects.andThen_quiet_self,
        if_neg (by simpa using ready)]

theorem State.updChan_reindexed (s : State) (c : Chan) :
    (s.updChan c fun ch => { ch with index := 0 }) = s.reindexed [c] := by
  have chan (d : Chan) : (s.updChan c fun ch => { ch with index := 0 }).chan d = (s.reindexed [c]).chan d := by
    rw [State.reindexed_chan]
    by_cases hd : d = c
    · subst hd
      simp
    · simp [hd]
  exact State.reindexed_eq chan

theorem inhibitionEnds_live (e : Effects) (c : Chan) :
    e.live.inhibitionEnds c = (e.andThen (State.freeing c)).live := by
  unfold State.inhibitionEnds
  rw [show e.live.chan c = e.state.chan c from rfl]
  by_cases ready : (e.state.chan c).state = .ready
  · have indexed : e.live.updChan c (fun ch => { ch with index := 0 }) =
        (e.andThen fun s => (s.reindexed [c]).quiet).live := by
      rw [Effects.andThen_quiet, ← State.updChan_reindexed]
      rfl
    rw [if_pos ready, indexed, startOccasion_live, Effects.andThen_congr (State.freeing_of_ready ready),
      Effects.andThen_assoc]
    rfl
  · rw [if_neg ready, Effects.andThen_congr (State.freeing_of_not_ready ready), Effects.andThen_quiet_self]

end Sys2Proof.Machine
end

section
/-! PROOFS. The clearing of an interlock latch as a part of an event (R157, R163, R166, R168); O46. -/

namespace Sys2Proof.Machine

/-! ### The last latch of an action (R157, R168) -/

section
variable {s : State} {i : Input} {action : InterlockConfig → Bool}

theorem State.onlyLatch_iff : s.onlyLatch i action = true ↔
    action (s.interlock i).config = true ∧ ¬ s.OtherLatched i action := by
  have all (j : Input) : j ∈ Input.all := List.mem_finRange j
  simp [State.onlyLatch, State.OtherLatched, all, or_iff_not_imp_left]

/-- The action goes with the latch that is cleared. -/
theorem State.lastLatch_eq (s : State) (i : Input) (action : InterlockConfig → Bool) :
    (action (s.interlock i).config &&
      !(s.updInterlock i fun x => { x with latched := false }).latchedWith action) = s.onlyLatch i action := by
  rw [Bool.eq_iff_iff, State.onlyLatch_iff, Bool.and_eq_true, Bool.not_eq_true', ← Bool.not_eq_true,
    State.latchedWith_cleared]

end

/-- The removal of INTERLOCK from the line-stop causes raises nothing (R170). -/
theorem changeLineStop_interlock_cleared (e : Effects) : e.live.changeLineStop (fun l => { l with interlock := false }) =
    Effects.live { e with state :=
      { e.state with lineStop := { e.state.lineStop with interlock := false } } } := by
  have none : lineStopNotice e.state.lineStop { e.state.lineStop with interlock := false } = [] := by
    rcases e.state.lineStop with ⟨a, b, c, d, interlock⟩
    simp only [lineStopNotice, LineStopCauses.isEmpty]
    cases a <;> cases b <;> cases c <;> cases d <;> simp
  rw [changeLineStop_live]
  simp only [Effects.andThen, none, List.append_nil]

/-! ### The clearing of a latch -/

/-- The clearing of a latch as a part of an event (R163). -/
def State.unlatching (i : Input) (s : State) : Effects :=
  ⟨s.unlatched i, [], monitorNotice s.monitor (s.unlatched i).monitor⟩

/-- The channels that the clearing of a latch frees, of which the READY ones act (R166). -/
def State.freedBy (s : State) (i : Input) : List Chan :=
  Chan.all.filter fun c => s.inhibited c && !(s.updInterlock i fun x => { x with latched := false }).inhibited c

/-- Those of them that are READY. -/
def State.readyFreedBy (s : State) (i : Input) : List Chan :=
  (s.freedBy i).filter fun c => decide ((s.chan c).state = .ready)

theorem State.runsStarted_causes (s : State) (hold : HoldCauses) (stop : LineStopCauses) (l : List Chan) :
    ({ s with holdCauses := hold, lineStop := stop } : State).runsStarted l =
      { s.runsStarted l with holdCauses := hold, lineStop := stop } := by
  rw [State.runsStarted_eq, State.runsStarted_eq]
  rfl

/-- The line with a latch cleared and its channels freed, then the causes that go or turn. -/
theorem State.unlatched_eq (s : State) (i : Input) : s.unlatched i =
    { (State.freed (s.readyFreedBy i) (s.updInterlock i fun x => { x with latched := false })).state with
      holdCauses := if s.onlyLatch i (·.hold) && s.holdCauses.interlock then
        { s.holdCauses with interlock := false, command := true } else s.holdCauses
      lineStop := if s.onlyLatch i (·.stop) then { s.lineStop with interlock := false } else s.lineStop } := by
  let clear := s.updInterlock i fun x => { x with latched := false }
  let freed := Chan.all.filter fun c => s.inhibited c && !clear.inhibited c && decide ((s.chan c).state = .ready)
  have list : s.readyFreedBy i = freed := by
    rw [State.readyFreedBy, State.freedBy, List.filter_filter]
    exact List.filter_congr fun c _ => Bool.and_comm ..
  have channels : (Vector.ofFn fun c : Fin 40 => if c ∈ freed then { s.chan c with index := 0 } else s.chan c) =
      clear.channelsReindexed freed := by
    rw [State.channelsReindexed]
    rfl
  rw [list, State.freed, State.started]
  dsimp only
  rw [← State.runsStarted_causes, State.reindexed, ← channels]
  rfl

theorem unlatch_live (s : State) (i : Input) : s.unlatch i = (s.unlatching i).live := by
  let cleared := s.updInterlock i fun x => { x with latched := false }
  let e : Effects := State.freed (s.readyFreedBy i) cleared
  have loop : cleared.forList (s.freedBy i) (fun c t => t.inhibitionEnds c) = e.live := by
    have each := Effects.live_each (step := fun t c => t.inhibitionEnds c) (fun c e => inhibitionEnds_live e c)
      (s.freedBy i) cleared.quiet
    rw [each_freeing (l := s.freedBy i) (Chan.all_nodup.filter _), State.quiet_live] at each
    exact each
  have work : ChannelWork cleared e.live := by
    rw [← loop]
    exact ChannelWork.forList (fun c t => .inhibitionEnds t c) _ _
  have held : ((s.interlock i).config.hold && !e.live.holdLatched) = s.onlyLatch i (·.hold) := by
    rw [State.holdLatched, work.interlocks]
    exact s.lastLatch_eq i (·.hold)
  let u : Effects := { e with state := { e.state with
    holdCauses := if s.onlyLatch i (·.hold) && s.holdCauses.interlock then
      { s.holdCauses with interlock := false, command := true } else s.holdCauses } }
  have turned : (if s.onlyLatch i (·.hold) then e.live.interlockToCommand else e.live) = u.live := by
    have same : e.live = Effects.live { e with state := { e.state with holdCauses := s.holdCauses } } := by
      rw [← show e.live.holdCauses = s.holdCauses from work.holdCauses]
      rfl
    dsimp only [u]
    cases s.onlyLatch i (·.hold) with
    | false => exact same
    | true =>
      rw [if_pos rfl, State.interlockToCommand, show e.live.holdCauses = s.holdCauses from work.holdCauses, Bool.true_and]
      cases s.holdCauses.interlock with
      | false => exact same
      | true => rfl
  have stopping : ((s.interlock i).config.stop && !u.live.stopLatched) = s.onlyLatch i (·.stop) := by
    rw [State.stopLatched, show u.live.interlocks = cleared.interlocks from work.interlocks]
    exact s.lastLatch_eq i (·.stop)
  have ends : s.unlatch i =
      (let t := cleared.forList (s.freedBy i) fun c t => t.inhibitionEnds c
      let t := if (s.interlock i).config.hold && !t.holdLatched then t.interlockToCommand else t
      if (s.interlock i).config.stop && !t.stopLatched then t.changeLineStop fun l => { l with interlock := false }
      else t) := rfl
  have final : (if s.onlyLatch i (·.stop) then u.live.changeLineStop fun l => { l with interlock := false } else u.live) =
      Effects.live { u with state := { u.state with
        lineStop := if s.onlyLatch i (·.stop) then { s.lineStop with interlock := false } else s.lineStop } } := by
    have causes : u.state.lineStop = s.lineStop := work.lineStop
    cases s.onlyLatch i (·.stop) with
    | false =>
      have same : Effects.live { u with state := { u.state with lineStop := s.lineStop } } = u.live := by rw [← causes]
      exact same.symm
    | true =>
      rw [if_pos rfl, changeLineStop_interlock_cleared, causes]
      rfl
  rw [ends, loop]
  dsimp only
  rw [held, turned, stopping, final, State.unlatching, State.unlatched_eq]
  rfl

theorem LeavesLinks.unlatching (i : Input) : LeavesLinks (State.unlatching i) := by
  intro s
  unfold State.unlatching State.unlatched
  exact ⟨State.runsStarted_link .., State.runsStarted_moduleLink ..⟩

theorem State.reindexed_retouch (k : LineLink → LineLink) (l : List Chan) (s : State) :
    (s.retouch k id).reindexed l = (s.reindexed l).retouch k id := by
  have channels : (s.retouch k id).channelsReindexed l = s.channelsReindexed l := by
    rw [State.channelsReindexed, State.channelsReindexed]
    rfl
  rw [State.reindexed, channels]
  rfl

theorem Overlooks.unlatching (k : LineLink → LineLink) (i : Input) : Overlooks k id (State.unlatching i) := by
  intro s
  let l := s.readyFreedBy i
  let cleared := s.updInterlock i fun x => { x with latched := false }
  have freed : State.freed l (cleared.retouch k id) =
      { State.freed l cleared with state := (State.freed l cleared).state.retouch k id } := by
    rw [State.freed, State.reindexed_retouch]
    exact Overlooks.started k l (cleared.reindexed l)
  have state : (s.retouch k id).unlatched i = (s.unlatched i).retouch k id := by
    have touched := congrArg Effects.state freed
    have list : (s.retouch k id).readyFreedBy i = l := rfl
    have clear : ((s.retouch k id).updInterlock i fun x => { x with latched := false }) = cleared.retouch k id := rfl
    rw [State.unlatched_eq, State.unlatched_eq s, list, clear, touched]
    rfl
  unfold State.unlatching
  rw [state]
  rfl

end Sys2Proof.Machine
end

section
/-! PROOFS. SetInterlock and AckInterlock (R161, R163); O46. -/

namespace Sys2Proof.Machine

/-! ### The latching of an input before its request is answered -/

theorem Overlooks.heldBy (k : LineLink → LineLink) (hold : Bool) : Overlooks k id (State.heldBy hold) := by
  intro s
  cases hold with
  | false => rfl
  | true =>
    have same : (s.retouch k id).mode = s.mode := rfl
    simp only [State.heldBy, if_true, State.holding, same]
    cases s.mode with
    | run =>
      dsimp only
      rw [State.runsStarted_eq, State.runsStarted_eq]
      rfl
    | hold | boot | offline | standby => rfl

theorem Overlooks.latching (k : LineLink → LineLink) (i : Input) : Overlooks k id fun s => s.latching i := by
  intro s
  have set : Overlooks k id (State.latchSet i) := fun _ => rfl
  have dropping (c : Chan) : Overlooks k id (State.dropping c) := fun _ => rfl
  have stopped : Overlooks k id (State.stoppedBy (s.interlock i).config.stop) := fun _ => rfl
  exact (((Overlooks.each dropping (s.dropList i) set).andThen (Overlooks.heldBy k (s.interlock i).config.hold)).andThen
    stopped) s

theorem LeavesLinks.latching (i : Input) : LeavesLinks fun s => s.latching i := by
  intro s
  obtain ⟨index, parts⟩ := s.latching_eq i
  dsimp only
  rw [parts]
  exact s.latchEnd_links i index

/-! ### What the two requests check and do (R161, R163) -/

theorem inputOf?_val (i : Input) : inputOf? i.val = some i := by simp [inputOf?]

theorem inputOf?_none {n : Nat} (h : 7 < n) : inputOf? n = none := by
  simp only [inputOf?, dite_eq_right_iff, reduceCtorEq, imp_false]
  omega

theorem interlockOk_iff {i : Input} {k : InterlockConfig} : interlockOk i.val k = true ↔
    k.first ≤ 19 ∧ k.last ≤ 19 ∧ k.first ≤ k.last ∧ (k.drop = true → k.sideA = true ∨ k.sideB = true) := by
  have low : i.val ≤ 7 := by omega
  cases drop : k.drop <;> simp [interlockOk, low, drop, and_assoc]

/-- The record of an input replaced (R161). -/
def State.configured (s : State) (i : Input) (k : InterlockConfig) : State :=
  { s with interlocks := s.interlocks.set i { s.interlock i with config := k } }

theorem State.configured_interlock (s : State) (i : Input) (k : InterlockConfig) :
    (s.configured i k).interlock i = { s.interlock i with config := k } := by
  simp [State.configured, State.interlock]

/-- An input whose record has been replaced latches where it is then an enabled active LEVEL input (R162). -/
theorem State.configured_latchIfLevel (s : State) (i : Input) (k : InterlockConfig) :
    (s.configured i k).latchIfLevel i =
      if k.enabled = true ∧ k.sense = .level ∧ (s.interlock i).level = k.activeLevel ∧ (s.interlock i).latched = false
      then (s.configured i k).latch i else s.configured i k := by
  simp only [State.latchIfLevel, State.configured_interlock, Interlock.active, Bool.and_eq_true, decide_eq_true_eq,
    Bool.not_eq_true', and_assoc]

section
variable {s : State} {i : Input} {k : InterlockConfig}

theorem State.setInterlock_invalid (h : ¬ interlockOk i.val k = true) :
    s.setInterlock i.val (some k) = (.badValue, s) := by
  simp only [State.setInterlock, inputOf?_val]
  exact if_pos (by simpa using h)

theorem State.setInterlock_inUse (good : interlockOk i.val k = true) (latched : (s.interlock i).latched = true)
    (enabled : k.enabled = true) : s.setInterlock i.val (some k) = (.inUse, s) := by
  simp [State.setInterlock, inputOf?_val, good, latched, enabled]

/-- The record of an input whose latch is clear is replaced (R161). -/
theorem State.setInterlock_clear (good : interlockOk i.val k = true) (latched : (s.interlock i).latched = false) :
    s.setInterlock i.val (some k) = (.ok, (s.configured i k).latchIfLevel i) := by
  simp only [State.setInterlock, inputOf?_val, good, latched]
  rfl

/-- The disabling of a latched input clears its latch first (R161). -/
theorem State.setInterlock_disables (good : interlockOk i.val k = true) (latched : (s.interlock i).latched = true)
    (disabled : k.enabled = false) : s.setInterlock i.val (some k) = (.ok, (s.unlatch i).configured i k) := by
  have stays : ((s.unlatch i).configured i k).latchIfLevel i = (s.unlatch i).configured i k := by
    rw [State.configured_latchIfLevel, if_neg (by simp [disabled])]
  rw [← stays]
  simp only [State.setInterlock, inputOf?_val, good, latched, disabled]
  rfl

theorem State.ackInterlock_clear (latched : (s.interlock i).latched = false) : s.ackInterlock i.val = (.ok, s) := by
  simp [State.ackInterlock, inputOf?_val, latched]

theorem State.ackInterlock_active (latched : (s.interlock i).latched = true)
    (sense : (s.interlock i).config.sense = .level) (active : (s.interlock i).level = (s.interlock i).config.activeLevel) :
    s.ackInterlock i.val = (.stillActive, s) := by
  simp [State.ackInterlock, inputOf?_val, latched, sense, Interlock.active, active]

theorem State.ackInterlock_clears (latched : (s.interlock i).latched = true)
    (h : (s.interlock i).config.sense = .edge ∨ (s.interlock i).level ≠ (s.interlock i).config.activeLevel) :
    s.ackInterlock i.val = (.ok, s.unlatch i) := by
  have still : (decide ((s.interlock i).config.sense = .level) && (s.interlock i).active) = false := by
    rcases h with edge | inactive
    · simp [edge]
    · simp [Interlock.active, inactive]
  simp [State.ackInterlock, inputOf?_val, latched, still]

end

/-! ### What the clearing of a latch leaves and changes -/

theorem State.runsStarted_interlocks (s : State) (l : List Chan) : (s.runsStarted l).interlocks = s.interlocks := by
  rw [State.runsStarted_eq]

theorem State.unlatched_interlocks (s : State) (i : Input) :
    (s.unlatched i).interlocks = s.interlocks.set i { s.interlock i with latched := false } := by
  rw [State.unlatched, State.runsStarted_interlocks]

/-- A channel that stays inhibited, or was not, or is not READY, is as it was (R166). -/
theorem State.unlatched_chan {s : State} {i : Input} {c : Chan}
    (h : s.inhibited c = false ∨ (s.unlatched i).inhibited c = true ∨ (s.chan c).state ≠ .ready) :
    (s.unlatched i).chan c = s.chan c := by
  have inhibited : (s.unlatched i).inhibited c =
      (s.updInterlock i fun x => { x with latched := false }).inhibited c :=
    State.inhibited_of_interlocks (s.unlatched_interlocks i) c
  have stays : c ∉ s.readyFreedBy i := fun hc => by
    obtain ⟨freed, ready⟩ := List.mem_filter.1 hc
    obtain ⟨was, free⟩ := Bool.and_eq_true_iff.1 (List.mem_filter.1 freed).2
    rw [inhibited] at h
    rcases h with h | h | h
    · simp [h] at was
    · simp [h] at free
    · exact h (by simpa using ready)
  have chan : (s.unlatched i).chan c =
      (State.freed (s.readyFreedBy i) (s.updInterlock i fun x => { x with latched := false })).state.chan c := by
    rw [State.unlatched_eq]
    rfl
  rw [chan, State.freed, State.started, State.runsStarted_chan, if_neg stays, State.reindexed_chan, if_neg stays]
  rfl

section
variable {s : State} {i : Input}

/-- The last STOP latch takes INTERLOCK with it (R168). -/
theorem State.unlatched_lineStop_last (stop : (s.interlock i).config.stop = true) (alone : ¬ s.OtherLatched i (·.stop)) :
    (s.unlatched i).lineStop = { s.lineStop with interlock := false } := by
  rw [State.unlatched_eq]
  exact if_pos (State.onlyLatch_iff.2 ⟨stop, alone⟩)

theorem State.unlatched_lineStop_stays (h : (s.interlock i).config.stop = false ∨ s.OtherLatched i (·.stop)) :
    (s.unlatched i).lineStop = s.lineStop := by
  rw [State.unlatched_eq]
  refine if_neg fun last => ?_
  obtain ⟨stop, alone⟩ := State.onlyLatch_iff.1 last
  exact h.elim (fun no => Bool.false_ne_true (no.symm.trans stop)) alone

/-- With the last HOLD latch INTERLOCK turns into COMMAND (R157). -/
theorem State.unlatched_holdCauses_last (hold : (s.interlock i).config.hold = true)
    (alone : ¬ s.OtherLatched i (·.hold)) (cause : s.holdCauses.interlock = true) :
    (s.unlatched i).holdCauses = { s.holdCauses with interlock := false, command := true } := by
  rw [State.unlatched_eq]
  exact if_pos (Bool.and_eq_true_iff.2 ⟨State.onlyLatch_iff.2 ⟨hold, alone⟩, cause⟩)

theorem State.unlatched_holdCauses_stays (h : (s.interlock i).config.hold = false ∨ s.OtherLatched i (·.hold) ∨
    s.holdCauses.interlock = false) : (s.unlatched i).holdCauses = s.holdCauses := by
  rw [State.unlatched_eq]
  refine if_neg fun last => ?_
  obtain ⟨only, cause⟩ := Bool.and_eq_true_iff.1 last
  obtain ⟨hold, alone⟩ := State.onlyLatch_iff.1 only
  rcases h with no | other | no
  · exact Bool.false_ne_true (no.symm.trans hold)
  · exact alone other
  · exact Bool.false_ne_true (no.symm.trans cause)

end

/-- A latch cleared by the disabling of its input, as a part of an event (R161). -/
def State.disabling (i : Input) (k : InterlockConfig) (s : State) : Effects :=
  { s.unlatching i with
    state := { s.unlatched i with interlocks := s.interlocks.set i ⟨k, false, (s.interlock i).level⟩ } }

theorem disabling_live (s : State) (i : Input) (k : InterlockConfig) :
    (s.unlatch i).configured i k = (s.disabling i k).live := by
  have record : ((s.unlatched i).configured i k).interlocks =
      s.interlocks.set i ⟨k, false, (s.interlock i).level⟩ := by
    simp [State.configured, State.interlock, State.unlatched_interlocks]
  have state : (s.disabling i k).state = (s.unlatched i).configured i k := by
    rw [State.disabling, ← record]
    rfl
  rw [unlatch_live, Effects.live, Effects.live, state]
  rfl

theorem LeavesLinks.disabling (i : Input) (k : InterlockConfig) : LeavesLinks (State.disabling i k) :=
  LeavesLinks.unlatching i

theorem Overlooks.disabling (k : LineLink → LineLink) (i : Input) (config : InterlockConfig) :
    Overlooks k id (State.disabling i config) := by
  intro s
  have state : (s.retouch k id).unlatched i = (s.unlatched i).retouch k id :=
    congrArg Effects.state (Overlooks.unlatching k i s)
  have parts : (s.retouch k id).unlatching i = { s.unlatching i with state := (s.unlatched i).retouch k id } :=
    Overlooks.unlatching k i s
  rw [State.disabling, state, parts]
  rfl

section
variable {s : State} {i : Input}

/-- An acknowledged input, its latch cleared (R163). -/
theorem exec_ackInterlock_clears (h : s.receptive = true) (latched : (s.interlock i).latched = true)
    (sense : (s.interlock i).config.sense = .edge ∨ (s.interlock i).level ≠ (s.interlock i).config.activeLevel) :
    exec (.ackInterlock i.val) s = .next
      ((s.unlatched i).replied (.ackInterlock i.val) .nothing (monitorNotice s.monitor (s.unlatched i).monitor)) := by
  have served : serve (.ackInterlock i.val) s.hunting = taken (s.hunting.unlatching i).live := by
    rw [← unlatch_live]
    exact congrArg plainServed (State.ackInterlock_clears (s := s.hunting) latched sense)
  obtain ⟨link, moduleLink⟩ := LeavesLinks.unlatching i s
  have settled := State.settled_of_links (State.receptive_iff.1 h).1 link moduleLink
  refine (done_effects h (by simp) (LeavesLinks.unlatching i) (fun k => Overlooks.unlatching k i) served).trans ?_
  rw [Effects.answered_of_noOrders settled rfl]
  rfl

/-- A latched input disabled, its latch cleared (R161). -/
theorem exec_setInterlock_disables {k : InterlockConfig} (h : s.receptive = true) (good : interlockOk i.val k = true)
    (latched : (s.interlock i).latched = true) (disabled : k.enabled = false) :
    exec (.setInterlock i.val k) s = .next
      (({ s.unlatched i with interlocks := s.interlocks.set i ⟨k, false, (s.interlock i).level⟩ } : State).replied
        (.setInterlock i.val (some k)) .nothing (monitorNotice s.monitor (s.unlatched i).monitor)) := by
  have served : serve (.setInterlock i.val (some k)) s.hunting = taken (s.hunting.disabling i k).live := by
    rw [← disabling_live]
    exact congrArg plainServed (State.setInterlock_disables (s := s.hunting) good latched disabled)
  obtain ⟨link, moduleLink⟩ := LeavesLinks.disabling i k s
  have settled := State.settled_of_links (State.receptive_iff.1 h).1 link moduleLink
  refine (done_effects h (by simp) (LeavesLinks.disabling i k) (fun l => Overlooks.disabling l i k) served).trans ?_
  rw [Effects.answered_of_noOrders settled rfl]
  rfl

/-- The record of an input whose latch is clear replaced, and the input latched (R161, R162). -/
theorem exec_setInterlock_latches {k : InterlockConfig} (h : s.receptive = true) (good : interlockOk i.val k = true)
    (clear : (s.interlock i).latched = false) (enabled : k.enabled = true) (sense : k.sense = .level)
    (active : (s.interlock i).level = k.activeLevel) :
    ∃ t notices, (s.configured i k).Latches i t notices ∧
      exec (.setInterlock i.val k) s = .next (t.replied (.setInterlock i.val (some k)) .nothing notices) := by
  have served : serve (.setInterlock i.val (some k)) s.hunting =
      taken ((s.hunting.configured i k).latching i).live := by
    have latches : (s.hunting.configured i k).latchIfLevel i = (s.hunting.configured i k).latch i := by
      rw [State.configured_latchIfLevel]
      exact if_pos ⟨enabled, sense, active, clear⟩
    rw [← latch_live, ← latches]
    exact congrArg plainServed (State.setInterlock_clear (s := s.hunting) good clear)
  obtain ⟨index, parts⟩ := (s.configured i k).latching_eq i
  have orders : sortOrders ((s.configured i k).latchOrders i index) = (s.configured i k).latchOrders i index :=
    sortOrders_byChannel _
  refine ⟨_, _, State.latches _ i index, ?_⟩
  refine (done_effects h (by simp) (f := fun t => (t.configured i k).latching i)
    (fun t => LeavesLinks.latching i (t.configured i k)) (fun l t => Overlooks.latching l i (t.configured i k))
    served).trans ?_
  rw [Effects.answered, parts, State.issued, orders]

/-- The record of an input whose latch is clear replaced, and no more (R161). -/
theorem exec_setInterlock_replaces {k : InterlockConfig} (h : s.receptive = true) (good : interlockOk i.val k = true)
    (clear : (s.interlock i).latched = false)
    (still : k.enabled = false ∨ k.sense = .edge ∨ (s.interlock i).level ≠ k.activeLevel) :
    exec (.setInterlock i.val k) s = .next
      { s.configured i k with link := s.answer (.setInterlock i.val (some k)) .ok .nothing } := by
  have stays : (s.hunting.configured i k).latchIfLevel i = s.hunting.configured i k := by
    rw [State.configured_latchIfLevel, if_neg]
    rintro ⟨enabled, sense, active, -⟩
    rcases still with disabled | edge | inactive
    · simp [enabled] at disabled
    · simp [sense] at edge
    · exact inactive active
  have served : serve (.setInterlock i.val (some k)) s.hunting = ⟨.ok, .nothing, s.hunting.configured i k⟩ := by
    have replaced := State.setInterlock_clear (s := s.hunting) good clear
    rw [stays] at replaced
    exact congrArg plainServed replaced
  exact done_taken (t := s.hunting.configured i k) h served (by simp) rfl rfl

end

/-- Settles O46: the checks, then the record replaced, the latch made and the latch cleared as parts of an event. -/
theorem interlockRequests : Obligations.InterlockRequests := by
  unfold Obligations.InterlockRequests
  refine ⟨fun s n k h high => ?_, ?_⟩
  · have set : serve (.setInterlock n (some k)) s.hunting = ⟨.badValue, .nothing, s.hunting⟩ := by
      simp [serve, serveSetInterlock, State.setInterlock, inputOf?_none high, plainServed]
    have ack : serve (.ackInterlock n) s.hunting = ⟨.badValue, .nothing, s.hunting⟩ := by
      simp [serve, serveAckInterlock, State.ackInterlock, inputOf?_none high, plainServed]
    exact ⟨done_refused h set (.inl (by simp)), done_refused h ack (.inl (by simp))⟩
  · rintro s i _ h rfl x
    refine ⟨?_, ?_, ?_⟩
    · intro k r good
      have ok : good → interlockOk i.val k = true := interlockOk_iff.2
      refine ⟨fun bad => ?_, fun holds latched enabled => ?_, fun holds => exec_setInterlock_disables h (ok holds),
        fun holds => exec_setInterlock_replaces h (ok holds), fun holds => exec_setInterlock_latches h (ok holds)⟩
      · have refused := State.setInterlock_invalid (s := s.hunting) (i := i) fun valid => bad (interlockOk_iff.1 valid)
        exact done_refused h (congrArg plainServed refused) (.inl (by simp))
      · have refused := State.setInterlock_inUse (s := s.hunting) (ok holds) latched enabled
        exact done_refused h (congrArg plainServed refused) (.inl (by simp))
    · intro r
      refine ⟨fun clear => ?_, fun latched sense active => ?_, exec_ackInterlock_clears h⟩
      · have nothing := State.ackInterlock_clear (s := s.hunting) clear
        exact done_refused h (congrArg plainServed nothing) (.inl (by simp))
      · have refused := State.ackInterlock_active (s := s.hunting) latched sense active
        exact done_refused h (congrArg plainServed refused) (.inl (by simp))
    · intro t others
      exact ⟨State.unlatched_lineStop_last, State.unlatched_lineStop_stays, State.unlatched_holdCauses_last,
        State.unlatched_holdCauses_stays, fun c => State.unlatched_chan⟩

end Sys2Proof.Machine
end

section
/-! PROOFS. ClearLineStop (R171); O47. -/

namespace Sys2Proof.Machine

/-- What is left of the cause set without the latched causes: EXIT_HIGH and INTERLOCK (R171). -/
theorem LineStopCauses.unlatched_isEmpty (l : LineStopCauses) :
    l.unlatched.isEmpty = !(l.exitHigh || l.interlock) := rfl

/-- An empty cause set has no latched cause to lose (R171). -/
theorem LineStopCauses.unlatched_isEmpty_of_isEmpty {l : LineStopCauses} (h : l.isEmpty = true) :
    l.unlatched.isEmpty = true := by
  simp only [LineStopCauses.isEmpty, Bool.not_eq_true', Bool.or_eq_false_iff] at h
  obtain ⟨⟨-, exitHigh⟩, interlock⟩ := h
  simp [LineStopCauses.unlatched_isEmpty, exitHigh, interlock]

/-- ClearLineStop is always taken; it raises no LINE_STOP, and its reply carries the set after it (R170, R171). -/
theorem serveClearLineStop_eq (s : State) :
    serveClearLineStop s =
      ⟨.ok, .lineStop s.lineStop.unlatched, { s with lineStop := s.lineStop.unlatched }⟩ := by
  rw [serveClearLineStop, State.changeLineStop_quiet LineStopCauses.unlatched_isEmpty_of_isEmpty]

/-- Settles O47: the causes left after a taken request with the output they make, and the answer during BOOT. -/
theorem clearLineStopResult : Obligations.ClearLineStopResult := by
  unfold Obligations.ClearLineStopResult
  refine ⟨fun s h => ⟨?_, ?_⟩, fun s h => exec_bootReceptive rfl h (by simp)⟩
  · exact done_taken (r := .clearLineStop) h (serveClearLineStop_eq s.hunting) (by simp) rfl rfl
  · change (!s.lineStop.unlatched.isEmpty) = _
    rw [LineStopCauses.unlatched_isEmpty, Bool.not_not]

end Sys2Proof.Machine
end

section
/-! PROOFS. The Process Monitor's samples and counting (R173 to R178); O55. -/

namespace Sys2Proof.Machine

/-! ### The raw increments (R175, R176) -/

theorem unit_eq (b : Bool) : unit b = if b then 1 else 0 := by cases b <;> rfl

theorem difference_eq (a b : Nat) : difference a b = if b ≤ a then a - b else b - a := by
  rw [difference]
  split <;> omega

/-- A period lies in the band where it covers an area at all and its density lies between the bounds (R176). -/
theorem bandIncrement_eq (low high : Nat) (f : AccountingSample) :
    bandIncrement low high f =
      if 0 < f.totalArea ∧ low ≤ f.forward * 1000 / f.totalArea ∧ f.forward * 1000 / f.totalArea ≤ high then 1
      else 0 := by
  rw [bandIncrement]
  by_cases area : f.totalArea = 0
  · simp [area]
  · simp [area, Nat.pos_of_ne_zero area, unit_eq]

theorem MonitorProgram.increment_accounting (p : MonitorProgram) (f : AccountingSample) :
    p.increment (.accounting f) = some (p.accountingIncrement f) := rfl

theorem MonitorProgram.increment_alignEntry {p : MonitorProgram} (h : p.event = .aligns) :
    p.increment .alignEntry = some 1 := if_pos h

theorem MonitorProgram.increment_alignEntry_of_ne {p : MonitorProgram} (h : p.event ≠ .aligns) :
    p.increment .alignEntry = none := if_neg h

/-! ### A counter takes a sample (R174, R177, R178) -/

section
variable {k : Counter} {c : Chan} {x : Sample} {raw : Nat}

theorem Counter.rise_eq (k : Counter) (c : Chan) (raw : Nat) :
    k.rise c raw = if k.program.threshold = 0 then raw
      else if k.program.condition raw && !(k.program.edge && k.history[c]) then 1 else 0 := by
  rw [Counter.rise]
  cases k.program.edge <;> simp [unit_eq]

theorem Counter.rise_lt (h : raw < 4294967296) : k.rise c raw < 4294967296 := by
  rw [Counter.rise_eq]
  split_ifs <;> omega

theorem Counter.wraps_iff : k.wraps c raw = true ↔ 4294967296 ≤ k.count + k.rise c raw := by
  simp [Counter.wraps, Config.count32Max, Nat.lt_iff_add_one_le]

/-- The count wraps at most once, since a rise is itself less than 2 to the 32 (R178). -/
theorem Counter.take_count (count : k.count < 4294967296) (small : raw < 4294967296) :
    (k.take c raw).count = (k.count + k.rise c raw) % 4294967296 := by
  have rise := Counter.rise_lt (k := k) (c := c) small
  change (if k.wraps c raw then k.count + k.rise c raw - 4294967296 else k.count + k.rise c raw) = _
  rw [if_congr Counter.wraps_iff rfl rfl]
  split <;> omega

theorem Counter.take_overflow :
    (k.take c raw).overflow = true ↔ k.overflow = true ∨ 4294967296 ≤ k.count + k.rise c raw := by
  simp [Counter.take, Counter.wraps_iff]

theorem Counter.sample_of_not_names (h : ¬ k.program.selector.names c = true) : k.sample c x = k := by
  simp [Counter.sample, h]

theorem Counter.sample_of_names (h : k.program.selector.names c = true) (hx : k.program.increment x = some raw) :
    k.sample c x = k.take c raw := by
  simp [Counter.sample, h, hx]

theorem Counter.sample_of_no_increment (hx : k.program.increment x = none) : k.sample c x = k := by
  simp [Counter.sample, hx]

end

/-! ### A sample reaches all counters together (R178) -/

section
variable {s : State} {c : Chan} {x : Sample}

/-- Some counter freezes the monitor: a notifying one whose flag the sample sets. -/
theorem any_freezes_iff {l : List Counter} : (l.any fun k => k.freezes c x) = true ↔
    ∃ k ∈ l, k.program.notify = true ∧ k.overflow = false ∧ (k.sample c x).overflow = true := by
  simp [Counter.freezes, and_assoc]

theorem State.sample_frozen (h : s.monitor.frozen = true) : s.sample c x = s := if_pos h

theorem State.sample_quiet (h : s.monitor.frozen = false)
    (quiet : (s.monitor.counters.toList.any fun k => k.freezes c x) = false) :
    s.sample c x = { s with monitor := ⟨s.monitor.counters.map (·.sample c x), false⟩ } := by
  simp only [State.sample, h, quiet, mapVec_eq_map, Bool.false_eq_true, if_false]

theorem State.sample_freezes (h : s.monitor.frozen = false)
    (freezes : (s.monitor.counters.toList.any fun k => k.freezes c x) = true) :
    s.sample c x =
      State.raise { s with monitor := ⟨s.monitor.counters.map (·.sample c x), true⟩ } .monitor := by
  simp only [State.sample, h, freezes, mapVec_eq_map, Bool.false_eq_true, if_false, if_true]

end

/-- Settles O55: a counter's count, then the samples it takes, then the sample of all counters. -/
theorem counterCounts : Obligations.CounterCounts := by
  unfold Obligations.CounterCounts
  refine ⟨?_, ?_, ?_⟩
  · intro k c raw count small condition rise
    have rises : k.rise c raw = rise := Counter.rise_eq k c raw
    rw [← rises]
    exact ⟨Counter.take_count count small, Counter.take_overflow, rfl, fun zero => if_pos zero,
      fun nonzero => if_neg nonzero⟩
  · intro k c f named density raw
    have names : k.program.selector.names c = true ↔ named := by
      cases selector : k.program.selector <;>
        simp [named, selector, Selector.names, Nat.lt_iff_le_pred]
    have increment : k.program.increment (.accounting f) = some raw := by
      rw [MonitorProgram.increment_accounting, Option.some_inj]
      cases event : k.program.event <;>
        simp [raw, density, event, MonitorProgram.accountingIncrement, unit_eq, difference_eq, bandIncrement_eq]
    exact ⟨fun other => ⟨Counter.sample_of_not_names (mt names.1 other), Counter.sample_of_not_names (mt names.1 other)⟩,
      fun watched => Counter.sample_of_names (names.2 watched) increment,
      fun watched aligns => Counter.sample_of_names (names.2 watched) (MonitorProgram.increment_alignEntry aligns),
      fun other => Counter.sample_of_no_increment (MonitorProgram.increment_alignEntry_of_ne other)⟩
  · intro s c x freezes t
    have any : (s.monitor.counters.toList.any fun k => k.freezes c x) = true ↔ freezes := any_freezes_iff
    refine ⟨State.sample_frozen, fun live quiet => ?_, fun live frozen => State.sample_freezes live (any.2 frozen)⟩
    rw [State.sample_quiet live (Bool.eq_false_iff.2 (mt any.1 quiet)), ← live]

end Sys2Proof.Machine
end

section
/-! PROOFS. The requests to the Process Monitor (R179, R180); O48. -/

namespace Sys2Proof.Machine

theorem counterOf?_val (k : Fin 8) : counterOf? k.val = some k := by simp [counterOf?]

theorem counterOf?_none {n : Nat} (h : 7 < n) : counterOf? n = none := dif_neg (by omega)

/-- A threshold of 0 has no edge and no inverted condition, a band has a width, a single channel exists (R179). -/
def MonitorProgram.Good (p : MonitorProgram) : Prop :=
  (∀ c, p.selector = .one c → c ≤ 39) ∧ (p.threshold = 0 → p.edge = false ∧ p.invert = false) ∧
  (p.event = .band → p.bandLow ≤ p.bandHigh)

/-- SetMonitor's value check (R179, check 1). -/
theorem monitorOk_iff {n : Nat} {p : MonitorProgram} : monitorOk n p = true ↔ n ≤ 7 ∧ p.Good := by
  cases selector : p.selector <;>
    simp [monitorOk, MonitorProgram.Good, selector, or_iff_not_imp_left, and_assoc]

section
variable {s : State} {n : Nat} {k : Fin 8} {p : MonitorProgram}

theorem serveSetMonitor_badValue (h : 7 < n ∨ ¬ p.Good) : serveSetMonitor n (some p) s = refuse s .badValue := by
  have bad : monitorOk n p = false := Bool.eq_false_iff.2 fun ok => by
    obtain ⟨low, good⟩ := monitorOk_iff.1 ok
    exact h.elim (Nat.not_lt.2 low) (absurd good)
  cases counter : counterOf? n <;> simp [serveSetMonitor, counter, bad]

theorem serveSetMonitor_good (good : p.Good) : serveSetMonitor k.val (some p) s =
    if s.monitor.frozen then refuse s .stillActive
    else taken { s with monitor := { s.monitor with counters := s.monitor.counters.set k (.cleared p) } } := by
  have ok : monitorOk k.val p = true := monitorOk_iff.2 ⟨by omega, good⟩
  simp only [serveSetMonitor, counterOf?_val, ok, Bool.not_true, Bool.false_eq_true, if_false]

theorem serveSetMonitor_frozen (good : p.Good) (frozen : s.monitor.frozen = true) :
    serveSetMonitor k.val (some p) s = refuse s .stillActive := by
  rw [serveSetMonitor_good good, if_pos frozen]

theorem serveSetMonitor_taken (good : p.Good) (live : s.monitor.frozen = false) :
    serveSetMonitor k.val (some p) s =
      taken { s with monitor := ⟨s.monitor.counters.set k (.cleared p), false⟩ } := by
  simp only [serveSetMonitor_good good, live, Bool.false_eq_true, if_false]

theorem State.updCounters_live (live : s.monitor.frozen = false) (f : Counter → Counter) :
    s.updCounters f = { s with monitor := ⟨s.monitor.counters.map f, false⟩ } := by
  simp only [State.updCounters, mapVec_eq_map, live]

theorem serveControlMonitor_frozen (frozen : s.monitor.frozen = true) {o : MonitorOperation}
    (clears : o = .resetCounts ∨ o = .clearOverflow) :
    serveControlMonitor (some o) s = refuse s .stillActive := by
  obtain rfl | rfl := clears <;> exact if_pos frozen

theorem serveControlMonitor_resetCounts (live : s.monitor.frozen = false) :
    serveControlMonitor (some .resetCounts) s =
      taken { s with monitor := ⟨s.monitor.counters.map Counter.countReset, false⟩ } := by
  simp only [serveControlMonitor, live, State.updCounters_live live, Bool.false_eq_true, if_false]

theorem serveControlMonitor_clearOverflow (live : s.monitor.frozen = false) :
    serveControlMonitor (some .clearOverflow) s =
      taken { s with monitor := ⟨s.monitor.counters.map fun k => { k with overflow := false }, false⟩ } := by
  simp only [serveControlMonitor, live, State.updCounters_live live, Bool.false_eq_true, if_false]

/-- A taken request that changes the monitor alone. -/
theorem done_monitor (h : s.receptive = true) {r : Request} {m : Monitor} (hr : r ≠ .restart)
    (served : serve r s.hunting = taken { s.hunting with monitor := m }) :
    done (s.arriveRequest r) = .next { s with monitor := m, link := s.answer r .ok .nothing } :=
  done_taken h served hr rfl rfl

end

/-- Settles O48, check by check and operation by operation. -/
theorem monitorRequests : Obligations.MonitorRequests := by
  unfold Obligations.MonitorRequests
  intro s h
  refine ⟨fun n p => ⟨fun bad => ?_, fun low good frozen => ?_, ?_⟩, ?_, ?_, fun frozen => ⟨?_, ?_⟩,
    fun live => ⟨?_, ?_⟩⟩
  · exact done_refused h (serveSetMonitor_badValue bad) (.inl (by simp))
  · obtain ⟨k, rfl⟩ : ∃ k : Fin 8, k.val = n := ⟨⟨n, by omega⟩, rfl⟩
    exact done_refused h (serveSetMonitor_frozen (s := s.hunting) good frozen) (.inl (by simp))
  · rintro k rfl good live
    exact done_monitor h (by simp) (serveSetMonitor_taken (s := s.hunting) good live)
  · exact done_monitor h (r := .controlMonitor (some .freeze)) (by simp) rfl
  · exact done_monitor h (r := .controlMonitor (some .unfreeze)) (by simp) rfl
  · exact done_refused h (serveControlMonitor_frozen (s := s.hunting) frozen (.inl rfl)) (.inl (by simp))
  · exact done_refused h (serveControlMonitor_frozen (s := s.hunting) frozen (.inr rfl)) (.inl (by simp))
  · exact done_monitor h (by simp) (serveControlMonitor_resetCounts (s := s.hunting) live)
  · exact done_monitor h (by simp) (serveControlMonitor_clearOverflow (s := s.hunting) live)

end Sys2Proof.Machine
end

section
/-! PROOFS. The anode counters and their requests (R182, R183); O49. -/

namespace Sys2Proof.Machine

theorem chanOf?_none {n : Nat} (h : 40 ≤ n) : chanOf? n = none := dif_neg (Nat.not_lt.2 h)

section
variable {s : State} {n : Nat}

theorem serveSetAnode_chan (c : Chan) (forward reverse : Nat) : serveSetAnode c.val forward reverse s =
    taken { s with anodes := s.anodes.set c ⟨forward, reverse⟩ } := by
  rw [serveSetAnode, chanOf?_val]

theorem serveSetAnode_badValue (h : 40 ≤ n) (forward reverse : Nat) :
    serveSetAnode n forward reverse s = refuse s .badValue := by
  rw [serveSetAnode, chanOf?_none h]

theorem serveReadAnode_chan (c : Chan) : serveReadAnode c.val s = ⟨.ok, .anode s.anodes[c], s⟩ := by
  rw [serveReadAnode, chanOf?_val]

theorem serveReadAnode_badValue (h : 40 ≤ n) : serveReadAnode n s = refuse s .badValue := by
  rw [serveReadAnode, chanOf?_none h]

end

/-- An accounting raises the pair it finds, each counter stopping at its greatest value (R182). -/
theorem State.anodeCount_anodes_same (s : State) (c : Chan) (f r : Nat) :
    (s.anodeCount c f r).anodes[c] =
      ⟨min 18446744073709551615 (s.anodes[c].forward + f), min 18446744073709551615 (s.anodes[c].reverse + r)⟩ := by
  simp [State.anodeCount, saturate, Config.anodeMax]

/-- Settles O49: the answers during BOOT, the accounting after a SetAnode, and both requests by their channel. -/
theorem anodeRequests : Obligations.AnodeRequests := by
  unfold Obligations.AnodeRequests
  refine ⟨fun s h n forward reverse => ⟨exec_bootReceptive rfl h (by simp), exec_bootReceptive rfl h (by simp)⟩, ?_,
    fun s h => ⟨fun c forward reverse => ⟨?_, ?_⟩, fun n forward reverse out => ⟨?_, ?_⟩⟩⟩
  · intro s c forward reverse f v
    rw [State.anodeCount_anodes_same]
    simp
  · exact done_taken (r := .setAnode c.val forward reverse) h (serveSetAnode_chan (s := s.hunting) c forward reverse) (by simp) rfl rfl
  · exact done_refused h (serveReadAnode_chan (s := s.hunting) c) (.inl (by simp))
  · exact done_refused h (serveSetAnode_badValue (s := s.hunting) out forward reverse) (.inl (by simp))
  · exact done_refused h (serveReadAnode_badValue (s := s.hunting) out) (.inl (by simp))

end Sys2Proof.Machine
end

section
/-! PROOFS. The receiver, byte by byte, and a frame's bytes one after another; O29 and O32. -/

namespace Sys2Proof.Machine

theorem exec_receivedByte (b : Byte) (s : State) : exec (.receivedByte b) s = done (s.takeByte b) := rfl

/-! ### The receiver's table (R188) -/

/-- A receiver that moves leaves a settled state settled. -/
theorem done_receive {s : State} (h : s.settled = true) (r : Receiver) : done (s.receive r) = .next (s.receive r) :=
  congrArg Host.Outcome.next (settle_of_settled (s := s.receive r) h)

section
variable {s : State} {b : Byte}

theorem State.takeByte_hunt (held : s.pins.resetHeld = false) (listening : s.link.listening = .hunt) :
    s.takeByte b = s.receive (if b = 0xC3#8 then .length else .hunt) := by
  simp only [State.takeByte, held, Bool.false_eq_true, if_false, listening]

theorem State.takeByte_length (held : s.pins.resetHeld = false) (listening : s.link.listening = .length) :
    s.takeByte b = s.receive (if 1 ≤ b.toNat ∧ b.toNat ≤ 240 then .body b.toNat [] else .hunt) := by
  simp only [State.takeByte, held, Bool.false_eq_true, if_false, listening, within_iff]

theorem State.takeByte_body {n : Nat} {stored : List Byte} (held : s.pins.resetHeld = false)
    (listening : s.link.listening = .body n stored) :
    s.takeByte b =
      s.receive (if stored.length + 1 = n then .check (stored ++ [b]) none else .body n (stored ++ [b])) := by
  simp only [State.takeByte, held, Bool.false_eq_true, if_false, listening, List.length_append, List.length_singleton]

theorem State.takeByte_firstCheck {body : List Byte} (held : s.pins.resetHeld = false)
    (listening : s.link.listening = .check body none) : s.takeByte b = s.receive (.check body (some b)) := by
  simp only [State.takeByte, held, Bool.false_eq_true, if_false, listening]

theorem State.takeByte_secondCheck {body : List Byte} {first : Byte} (held : s.pins.resetHeld = false)
    (listening : s.link.listening = .check body (some first)) : s.takeByte b = s.checkEnds body first b := by
  simp only [State.takeByte, held, Bool.false_eq_true, if_false, listening]

/-- A check that does not agree discards the frame. -/
theorem State.checkEnds_discards {body : List Byte} {first : Byte} (h : checkBytes (checkedBytes body) ≠ [first, b]) :
    s.checkEnds body first b = s.receive .hunt := by
  cases body with
  | nil => rfl
  | cons kind payload => exact if_neg h

/-- A check that agrees hands the frame on. -/
theorem State.checkEnds_arrives {kind first : Byte} {payload : List Byte}
    (h : checkBytes (checkedBytes (kind :: payload)) = [first, b]) :
    s.checkEnds (kind :: payload) first b = s.arrive ⟨kind, payload⟩ := if_pos h

end

/-- Settles O29: the byte in HUNT or after a gap, then the receiver's states in turn. -/
theorem receiverMoves : Obligations.ReceiverMoves := by
  unfold Obligations.ReceiverMoves
  intro s b settled held move
  have moves {r : Receiver} (h : s.takeByte b = s.receive r) : exec (.receivedByte b) s = .next (move r) := by
    rw [exec_receivedByte, h, done_receive settled]
    rfl
  refine ⟨fun hunt => moves (State.takeByte_hunt held ?_), fun gap => ?_, done_receive settled .hunt,
    done_receive settled .hunt⟩
  · unfold LineLink.listening
    split
    · rfl
    · exact hunt.resolve_right ‹_›
  have listening {r : Receiver} (h : s.link.receiver = r) : s.link.listening = r :=
    (LineLink.listening_of_gap_le gap).trans h
  refine ⟨fun h => moves (State.takeByte_length held (listening h)),
    fun n stored h => moves (State.takeByte_body held (listening h)),
    fun body h => moves (State.takeByte_firstCheck held (listening h)),
    fun body first h differs => moves ?_, fun kind payload first h agrees => ?_⟩
  · rw [State.takeByte_secondCheck held (listening h), State.checkEnds_discards differs]
  · rw [exec_receivedByte, State.takeByte_secondCheck held (listening h), State.checkEnds_arrives agrees,
      exec_frameReceived]

/-! ### A whole frame's bytes (R187, R199) -/

theorem receiveAll_cons {b : Byte} {l : List Byte} {s t : State} (h : exec (.receivedByte b) s = .next t) :
    receiveAll (b :: l) s = receiveAll l t := by
  simp only [receiveAll, h]

/-- A frame that arrives finds the receiver's state of no account (R188, R189). -/
theorem State.arrive_receive (s : State) (held : s.pins.resetHeld = false) (r : Receiver) (f : Frame) :
    (s.receive r).arrive f = s.arrive f := by
  simp only [State.arrive, State.meet, State.receive, State.updLink, held, Bool.false_eq_true, if_false]

section
variable {s : State}

/-- What the next byte meets after the receiver has moved. -/
theorem exec_receivedByte_receive {r q : Receiver} {b : Byte} (settled : s.settled = true)
    (h : (s.receive r).takeByte b = s.receive q) : exec (.receivedByte b) (s.receive r) = .next (s.receive q) := by
  rw [exec_receivedByte, h, done_receive settled]

/-- The body's bytes are stored one after another until the body is whole. -/
theorem receiveAll_body (settled : s.settled = true) (held : s.pins.resetHeld = false) (after : List Byte) {n : Nat} :
    ∀ (rest : List Byte) {stored : List Byte}, rest ≠ [] → stored.length + rest.length = n →
      receiveAll (rest ++ after) (s.receive (.body n stored)) =
        receiveAll after (s.receive (.check (stored ++ rest) none))
  | [b], stored, _, whole => by
    refine receiveAll_cons (exec_receivedByte_receive settled ?_)
    rw [State.takeByte_body (s := s.receive _) held rfl, if_pos (by exact whole)]
    rfl
  | b :: c :: rest, stored, _, whole => by
    have short : stored.length + 1 ≠ n := by simp only [List.length_cons] at whole; omega
    rw [List.cons_append, receiveAll_cons (t := s.receive (.body n (stored ++ [b]))),
      receiveAll_body settled held after (c :: rest) (by simp)
        (by simp only [List.length_append, List.length_cons, List.length_nil] at whole ⊢; omega),
      List.append_assoc, List.singleton_append]
    refine exec_receivedByte_receive settled ?_
    rw [State.takeByte_body (s := s.receive _) held rfl, if_neg short]
    rfl

/-- The two check bytes of a body hand its frame on. -/
theorem receiveAll_check (settled : s.settled = true) (held : s.pins.resetHeld = false) (f : Frame) :
    receiveAll (checkBytes (checkedBytes (f.kind :: f.payload))) (s.receive (.check (f.kind :: f.payload) none)) =
      done (s.arrive f) := by
  obtain ⟨first, second, bytes⟩ : ∃ a b, checkBytes (checkedBytes (f.kind :: f.payload)) = [a, b] :=
    List.length_eq_two.1 (beBytes_length 2 _)
  have kept := State.takeByte_firstCheck (s := s.receive (.check (f.kind :: f.payload) none)) (b := first) held rfl
  rw [bytes, receiveAll_cons (exec_receivedByte_receive settled kept)]
  have handed : exec (.receivedByte second) (s.receive (.check (f.kind :: f.payload) (some first))) =
      done (s.arrive f) := by
    rw [exec_receivedByte, State.takeByte_secondCheck (s := s.receive _) held rfl, State.checkEnds_arrives bytes,
      State.arrive_receive s held]
  exact receiveAll_cons handed

end

/-- Settles O32: the sync byte, the length byte, the body's bytes by induction, the two check bytes. -/
theorem bytesMakeFrame : Obligations.BytesMakeFrame := by
  unfold Obligations.BytesMakeFrame
  intro s f settled held hunt gap length
  refine ⟨_, rfl, ?_⟩
  change receiveAll f.bytes s = done (s.arrive f)
  let n := f.payload.length + 1
  have lengthByte : (BitVec.ofNat 8 n).toNat = n := Nat.mod_eq_of_lt (by omega)
  have listening : s.link.listening = .hunt := by rw [LineLink.listening_of_gap_le (by simp [gap]), hunt]
  have sync : exec (.receivedByte 0xC3#8) s = .next (s.receive .length) := by
    rw [exec_receivedByte, State.takeByte_hunt held listening, if_pos rfl, done_receive settled]
  have measured : exec (.receivedByte (BitVec.ofNat 8 n)) (s.receive .length) = .next (s.receive (.body n [])) := by
    refine exec_receivedByte_receive settled ?_
    rw [State.takeByte_length (s := s.receive _) held rfl, lengthByte, if_pos (by omega)]
    rfl
  calc receiveAll f.bytes s
      = receiveAll ((f.kind :: f.payload) ++ checkBytes (checkedBytes (f.kind :: f.payload)))
          (s.receive (.body n [])) := (receiveAll_cons sync).trans (receiveAll_cons measured)
    _ = receiveAll (checkBytes (checkedBytes (f.kind :: f.payload))) (s.receive (.check (f.kind :: f.payload) none)) :=
        receiveAll_body settled held _ _ (by simp) (by simp [n])
    _ = done (s.arrive f) := receiveAll_check settled held f

end Sys2Proof.Machine
end

section
/-! PROOFS. The end of a transmission; O31. -/

namespace Sys2Proof.Machine

theorem exec_transmitComplete (s : State) : exec .transmitComplete s = done s.transmitted := rfl

/-! ### What an idle transmitter turns to (R193, R194) -/

/-- The reply of the request in hand. -/
theorem pumpTransmitter_reply {s : State} {h : InHand} (idle : s.link.tx = .idle) (inHand : s.link.inHand = some h) :
    pumpTransmitter s = { s with link := { s.link with tx := .reply h.reply } } := by
  simp only [pumpTransmitter, idle, inHand]

/-- With nothing in hand, the head of the pending notices. -/
theorem pumpTransmitter_notices {s : State} (inHand : s.link.inHand = none) :
    pumpTransmitter s = { s with link := s.link.raising s.snapshot [] } :=
  pumpTransmitter_raising (fun _ => inHand) rfl rfl

section
variable {s : State} (settled : s.settled = true) {f : LineLink → LineLink}
include settled

/-- After a move of the line link alone, an idle transmitter starts the reply of the request in hand. -/
theorem done_updLink_reply {h : InHand} (idle : (f s.link).tx = .idle) (inHand : (f s.link).inHand = some h) :
    done (s.updLink f) = .next { s with link := { f s.link with tx := .reply h.reply } } := by
  rw [done, settle_of_noOrders settled (State.updLink_moduleLink s f),
    pumpTransmitter_reply (s := s.updLink f) idle inHand]
  rfl

/-- With nothing in hand it starts the head of the pending notices. -/
theorem done_updLink_notices (inHand : (f s.link).inHand = none) :
    done (s.updLink f) = .next { s with link := (f s.link).raising s.snapshot [] } := by
  rw [done, settle_of_noOrders settled (State.updLink_moduleLink s f),
    pumpTransmitter_notices (s := s.updLink f) inHand]
  rfl

end

theorem pumpOrders_link (s : State) : (pumpOrders s).link = s.link := by
  unfold pumpOrders
  split
  · exact startOrder_link ..
  · rfl

/-- What ends a command leaves the line link to the transmitter. -/
theorem settle_link_reply {s : State} {h : InHand} (idle : s.link.tx = .idle) (inHand : s.link.inHand = some h) :
    (settle s).link = { s.link with tx := .reply h.reply } := by
  have waits : (pumpOrders (flushOrders s)).link = s.link := pumpOrders_link _
  rw [settle, pumpTransmitter_reply (h := h) (by rw [waits, idle]) (by rw [waits, inHand]), waits]

/-! ### The taking of the held frame (R189) -/

/-- A taken frame is in hand with its reply, and its owner may have raised notices. -/
theorem State.takeFrame_link (s : State) (f : Frame) : ∃ code payload restarts ks,
    (s.takeFrame f).link =
      { s.link.joining ks with inHand := some ⟨f, ⟨f.kind, code, payload⟩, restarts⟩ } := by
  unfold State.takeFrame State.takeRequest
  split
  · exact ⟨_, _, _, [], rfl⟩
  · split
    · exact ⟨_, _, _, [], rfl⟩
    · rename_i r _ _
      obtain ⟨ks, raised⟩ := Raises.serve r s
      exact ⟨_, _, _, ks, by rw [State.putInHand, State.updLink_link, raised]⟩

/-- The state after a reply, nothing in hand and nothing held (R189). -/
def State.replyEnded (s : State) : State := s.updLink fun l => { l with tx := .idle, inHand := none, held := none }

section
variable {s : State} {r : Reply}

theorem State.transmitted_notice {k : NoticeKind} {x : Snapshot} (tx : s.link.tx = .notice k x) :
    s.transmitted = s.updLink fun l => { l with tx := .idle } := by
  simp only [State.transmitted, tx]

theorem State.transmitted_reply (tx : s.link.tx = .reply r) (lasting : s.restartDue = false)
    (held : s.link.held = none) : s.transmitted = s.replyEnded := by
  simp only [State.transmitted, tx, lasting, Bool.false_eq_true, if_false, State.replySent, held, State.replyEnded]

theorem State.transmitted_held {f : Frame} (tx : s.link.tx = .reply r) (lasting : s.restartDue = false)
    (held : s.link.held = some f) : s.transmitted = s.replyEnded.takeFrame f := by
  simp only [State.transmitted, tx, lasting, Bool.false_eq_true, if_false, State.replySent, held, State.replyEnded]

end

/-- Settles O31: an idle transmitter, the end of a notice, the end of a reply with nothing held, and the held frame
taken: one that a check refuses, and any. -/
theorem transmitCompletes : Obligations.TransmitCompletes := by
  unfold Obligations.TransmitCompletes
  intro s settled
  simp only [exec_transmitComplete]
  refine ⟨fun tx => ?_, fun k x h tx inHand => ?_, fun k x tx inHand => ?_, fun r tx lasting held => ?_,
    fun r f code tx lasting held parse => ?_, fun r f tx lasting held => ⟨fun line hunt gap => ?_, ?_⟩⟩
  · simp only [State.transmitted, tx]
    exact done_of_links settled rfl rfl
  · rw [State.transmitted_notice tx, done_updLink_reply settled rfl inHand]
  · rw [State.transmitted_notice tx, done_updLink_notices settled inHand]
  · rw [State.transmitted_reply tx lasting held, State.replyEnded, done_updLink_notices settled rfl, held]
  · rw [State.transmitted_held tx lasting held, State.takeFrame, parse]
    exact done_updLink_reply settled (f := fun l =>
      { l with tx := .idle, inHand := some ⟨f, ⟨f.kind, code, .nothing⟩, false⟩, held := none }) rfl rfl
  · have ended : s.replyEnded.hunting = s.replyEnded := by
      simp only [State.hunting, State.replyEnded, State.updLink, hunt, gap]
    change _ = done (s.replyEnded.arrive f)
    rw [State.transmitted_held tx lasting held, State.arrive, State.meet_taken (s := s.replyEnded) line rfl, ended]
  · obtain ⟨code, payload, restarts, ks, link⟩ := s.replyEnded.takeFrame_link f
    have sent := settle_link_reply (h := ⟨f, ⟨f.kind, code, payload⟩, restarts⟩)
      (congrArg LineLink.tx link) (congrArg LineLink.inHand link)
    rw [link] at sent
    rw [State.transmitted_held tx lasting held]
    exact ⟨_, code, payload, restarts, rfl, by rw [sent], by rw [sent], by rw [sent]; rfl, by rw [sent]; rfl,
      by rw [sent]; rfl⟩

end Sys2Proof.Machine
end

section
/-! PROOFS. The fields that the link builds, against the items by which a layout is spelled out; for O33 and O34. -/

namespace Sys2Proof.Machine

/-! ### Field by field (R198) -/

/-- The field's bytes are the item's. -/
def Field.SpeltAs (f : Field) (x : Nat × Int) : Prop := beBytes f.width f.value = spelled [x]

/-- Fields that are items, one for one. -/
abbrev SpeltAs (l : List Field) (m : List (Nat × Int)) : Prop := List.Forall₂ Field.SpeltAs l m

theorem fieldBytes_eq_spelled {l : List Field} {m : List (Nat × Int)} (h : SpeltAs l m) :
    fieldBytes l = spelled m := by
  induction h with
  | nil => rfl
  | cons first _ ih => rw [fieldBytes_cons, spelled_cons, first, ih]

theorem Field.speltAs {n : Nat} {v : Int} (h : v = n) (w : Nat) : (Field.mk w n).SpeltAs (item w v) :=
  h ▸ beBytes_eq_spelled w n

section
variable {n : Nat} {v : Int}

@[simp] theorem one_speltAs (h : v = n) : (one n).SpeltAs (item 1 v) := Field.speltAs h 1
@[simp] theorem two_speltAs (h : v = n) : (two n).SpeltAs (item 2 v) := Field.speltAs h 2
@[simp] theorem four_speltAs (h : v = n) : (four n).SpeltAs (item 4 v) := Field.speltAs h 4
@[simp] theorem six_speltAs (h : v = n) : (six n).SpeltAs (item 6 v) := Field.speltAs h 6
@[simp] theorem eight_speltAs (h : v = n) : (eight n).SpeltAs (item 8 v) := Field.speltAs h 8

end

@[simp] theorem signed_speltAs (w : Nat) (v : Int) : (signed w v).SpeltAs (item w v) := by
  simpa [fieldBytes, Field.SpeltAs] using signed_eq_spelled w v

@[simp] theorem flag_speltAs (b : Bool) : (flag b).SpeltAs (setOrClear b) := by cases b <;> rfl

/-- A field that may be absent, behind its mark. -/
theorem marked_speltAs {f : Nat → Field} {w : Nat} (hf : ∀ n : Nat, (f n).SpeltAs (item w n)) (v : Option Nat) :
    SpeltAs (marked f v) (optional w (v.map Int.ofNat)) := by
  cases v with
  | none => exact .cons rfl (.cons (hf 0) .nil)
  | some n => exact .cons rfl (.cons (hf n) .nil)

theorem flatMap_speltAs {α : Type} {f : α → List Field} {g : α → List (Nat × Int)} (h : ∀ x, SpeltAs (f x) (g x)) :
    ∀ l : List α, SpeltAs (l.flatMap f) (l.flatMap g)
  | [] => .nil
  | x :: l => List.rel_append (h x) (flatMap_speltAs h l)

/-- A list of bytes behind its count. -/
theorem byteList_speltAs (l : List Nat) : SpeltAs (byteList l) (counted l) := by
  refine .cons (one_speltAs rfl) ?_
  induction l with
  | nil => exact .nil
  | cons n l ih => exact .cons (one_speltAs rfl) ih

/-! ### Sets and codes -/

theorem members_cons (b : Bool) (l : List Bool) : members (b :: l) = b.toNat + 2 * members l := by
  have shifted : ((l.zipIdx 1).map fun x => if x.1 = true then (2 : Int) ^ x.2 else 0).sum = 2 * members l := by
    rw [List.zipIdx_succ, List.map_map, members, ← List.sum_map_mul_left]
    refine congrArg List.sum (List.map_congr_left fun x _ => ?_)
    simp [pow_succ']
  rw [members, List.zipIdx_cons, List.map_cons, List.sum_cons, shifted]
  cases b <;> rfl

/-- A set field's number is that of its members (R198). -/
@[simp] theorem members_eq_bits (l : List Bool) : members l = bits l := by
  induction l with
  | nil => rfl
  | cons b l ih => rw [members_cons, ih, bits]; push_cast; rfl

/-! ### The records of requests -/

theorem Timing.fields_speltAs (t : Timing) : SpeltAs t.fields t.items := by simp [Timing.fields, Timing.items]

theorem Profile.fields_speltAs (p : Profile) : SpeltAs p.fields p.items := by
  simp [Profile.fields, Profile.items, recipeOrNone]

theorem segmentFields_speltAs (r : Option Segment) : SpeltAs (segmentFields r) (segmentItems r) := by
  cases r <;> simp [segmentFields, segmentItems, Segment.fields, flag]

theorem Recipe.fields_speltAs (r : Recipe) : SpeltAs r.fields
    (r.timing.items ++
      [item 1 r.rampTable, item 1 r.holdFraction, item 4 (r.target.getD 0), item 1 r.tolerance,
        item 1 r.stages.length] ++
      r.stages.flatMap fun st => [item 2 st.start, item 2 st.forwardDensity, item 2 st.reverseDensity]) := by
  refine List.rel_append (List.rel_append r.timing.fields_speltAs ?_) (flatMap_speltAs (fun st => ?_) _)
  · simp [orZero]
  · simp [Stage.fields]

theorem StagingEntry.fields_speltAs (e : StagingEntry) : SpeltAs e.fields e.items := by
  simp [StagingEntry.fields, StagingEntry.items, orZero]

theorem PanelName.fields_speltAs (n : PanelName) : SpeltAs n.fields n.items := by
  cases n <;> simp [PanelName.fields, PanelName.items]

theorem Level.code_eq (l : Level) : l.code = [Level.high, .low].idxOf l := by cases l <;> rfl

theorem InterlockConfig.fields_speltAs (k : InterlockConfig) : SpeltAs k.fields k.items := by
  have sense : ([Sense.edge, .level].idxOf k.sense : Int) = k.sense.code := by cases k.sense <;> rfl
  simp [InterlockConfig.fields, InterlockConfig.items, InterlockConfig.actions, InterlockConfig.sideMask,
    Level.code_eq, sense]

theorem MonitorProgram.fields_speltAs (p : MonitorProgram) : SpeltAs p.fields p.items := by
  have event : ([MonitorEvent.periods, .clamped, .deviation, .voltage, .coverage, .aligns, .zeros, .estimates,
      .band].idxOf p.event : Int) = p.event.code := by cases p.event <;> rfl
  unfold MonitorProgram.fields MonitorProgram.items
  cases p.selector <;> simp [event, Selector.code, Selector.channel]

end Sys2Proof.Machine
end

section
/-! PROOFS. Requests read from their own bytes (R190, R198); O33. -/

namespace Sys2Proof.Machine

/-! ### Codes read back -/

theorem flagOf?_toNat (b : Bool) : flagOf? b.toNat = some b := by cases b <;> rfl

theorem side?_code (x : Side) : side? x.code = some x := by cases x <;> rfl

theorem activeLevel?_code (l : Level) : activeLevel? l.code = some l := by cases l <;> rfl

theorem sense?_code (x : Sense) : sense? x.code = some x := by cases x <;> rfl

theorem monitorEvents_code (e : MonitorEvent) : monitorEvents[e.code]? = some e := by cases e <;> rfl

theorem selector?_code (x : Selector) : selector? x.code x.channel = some x := by cases x <;> rfl

/-- A number for whose absence 0 is sent (R198). -/
theorem nonZero?_getD {limit : Nat} {v : Option Nat} (h : fitsNonZero limit v = true) : nonZero? (v.getD 0) = v := by
  cases v with
  | none => rfl
  | some n =>
    have : n ≠ 0 := by rintro rfl; simp [fitsNonZero] at h
    exact if_neg this

theorem getD_lt_of_fitsNonZero {limit : Nat} {v : Option Nat} (positive : 0 < limit)
    (h : fitsNonZero limit v = true) : v.getD 0 < limit := by
  cases v with
  | none => exact positive
  | some n => exact of_decide_eq_true (Bool.and_eq_true_iff.1 h).2

theorem bits_lt (l : List Bool) : bits l < 2 ^ l.length := by
  induction l with
  | nil => exact Nat.one_pos
  | cons b l ih =>
    have := b.toNat_le
    rw [bits, List.length_cons, pow_succ]
    omega

/-- A set field's members are read back from its number (R198). -/
theorem bitOf_bits : ∀ (l : List Bool) (k : Nat), bitOf (bits l) k = l[k]?.getD false
  | [], k => by simp [bits, bitOf]
  | b :: l, 0 => by cases b <;> simp [bits, bitOf, Nat.add_mod]
  | b :: l, k + 1 => by
    have half : (b.toNat + 2 * bits l) / 2 = bits l := by have := b.toNat_le; omega
    rw [List.getElem?_cons_succ, ← bitOf_bits l k, bits, bitOf, bitOf, pow_succ', ← Nat.div_div_eq_div_mul, half]

/-! ### Fields that fit their widths -/

/-- The field's value fits its width. -/
def Field.Fits (f : Field) : Prop := f.value < 256 ^ f.width

section
variable {n : Nat}

@[simp] theorem one_fits : (one n).Fits ↔ n < 256 := Iff.rfl
@[simp] theorem two_fits : (two n).Fits ↔ n < 65536 := Iff.rfl
@[simp] theorem four_fits : (four n).Fits ↔ n < 4294967296 := Iff.rfl
@[simp] theorem eight_fits : (eight n).Fits ↔ n < 18446744073709551616 := Iff.rfl

theorem one_fits_of_fitsByte (h : fitsByte n = true) : (one n).Fits := one_fits.2 (of_decide_eq_true h)

end

@[simp] theorem flag_fits (b : Bool) : (flag b).Fits := one_fits.2 (Nat.lt_of_le_of_lt b.toNat_le (by decide))

/-! ### Records read back -/

section
variable {p : Profile} (h : p.wf = true)
include h

theorem Profile.fields_fit : ∀ f ∈ p.fields, f.Fits := by
  have fallback : p.fallback.getD 255 < 256 := by
    cases hf : p.fallback with
    | none => decide
    | some n => simp [Profile.wf, fitsRecipeOrNone, hf] at h; simp; omega
  simp [Profile.wf, fitsWord, fitsByte] at h
  simp [Profile.fields, recipeOrNone, fallback, h]

theorem readProfile_fields : readProfile (p.fields.map (·.value)) = some p := by
  have fallback : (if p.fallback.getD 255 = 255 then none else some (p.fallback.getD 255)) = p.fallback := by
    cases hf : p.fallback with
    | none => rfl
    | some n =>
      have : n ≠ 255 := by rintro rfl; simp [Profile.wf, fitsRecipeOrNone, hf] at h
      exact if_neg this
  have spacing : #v[p.spacing[0], p.spacing[1], p.spacing[2], p.spacing[3]] = p.spacing := by
    ext i hi
    interval_cases i <;> rfl
  simp only [Profile.fields, List.map_cons, List.map_nil, readProfile, one, two, recipeOrNone, fallback, spacing]

end

theorem Segment.fields_fit {r : Segment} (h : r.wf = true) : ∀ f ∈ r.fields, f.Fits := by
  simpa [Segment.wf, Segment.fields, fitsWord, fitsByte, and_assoc] using h

theorem segmentFields_fit {r : Option Segment} (h : r.all Segment.wf = true) : ∀ f ∈ segmentFields r, f.Fits := by
  refine List.forall_mem_cons.2 ⟨flag_fits _, ?_⟩
  cases r with
  | none => exact Segment.fields_fit rfl
  | some r => exact r.fields_fit h

theorem readSegment_fields (side : Side) (index : Nat) (r : Option Segment) :
    readSegment (side.code :: index :: (segmentFields r).map (·.value)) = some (some (side, index, r)) := by
  cases side <;> cases r <;> rfl

theorem readStages_fields : ∀ l : List Stage, readStages ((l.flatMap Stage.fields).map (·.value)) = l
  | [] => rfl
  | x :: l => congrArg (x :: ·) (readStages_fields l)

section
variable {r : Recipe} (h : r.wf = true)
include h

theorem Recipe.stages_length_lt : r.stages.length < 256 := by
  have := of_decide_eq_true (Bool.and_eq_true_iff.1 h).2
  omega

theorem Recipe.fields_fit : ∀ f ∈ r.fields, f.Fits := by
  have count := Recipe.stages_length_lt h
  simp only [Recipe.wf, Bool.and_eq_true, List.all_eq_true] at h
  obtain ⟨⟨⟨⟨⟨⟨⟨⟨⟨fwd, rest1⟩, rev⟩, rest2⟩, table⟩, hold⟩, target⟩, tolerance⟩, stages⟩, -⟩ := h
  have target := getD_lt_of_fitsNonZero (by decide) target
  simp only [fitsWord, fitsByte, decide_eq_true_eq] at fwd rest1 rev rest2 table hold tolerance
  simp only [Recipe.fields, List.forall_mem_append, List.forall_mem_flatMap]
  refine ⟨⟨?_, ?_⟩, fun st hst => ?_⟩
  · simp [Timing.fields, *]
  · simp [orZero, *]
  · simpa [Stage.fields, Stage.wf, fitsWord, and_assoc] using stages st hst

theorem readRecipe_fields : readRecipe (r.fields.map (·.value)) = some r := by
  simp only [Recipe.wf, Bool.and_eq_true] at h
  obtain ⟨⟨⟨⟨-, target⟩, -⟩, -⟩, -⟩ := h
  have target := nonZero?_getD target
  simp only [Recipe.fields, Timing.fields, List.cons_append, List.nil_append, List.map_cons, readRecipe, one, two, four,
    orZero, target, readStages_fields]

end

section
variable {e : StagingEntry} (h : e.wf = true)
include h

theorem StagingEntry.fields_fit : ∀ f ∈ e.fields, f.Fits := by
  simp only [StagingEntry.wf, Bool.and_eq_true] at h
  obtain ⟨⟨⟨⟨id, recipe⟩, announced⟩, areaA⟩, areaB⟩ := h
  have announced := getD_lt_of_fitsNonZero (by decide) announced
  simp only [fitsWord, fitsByte, fitsLong, decide_eq_true_eq] at id recipe areaA areaB
  simp [StagingEntry.fields, orZero, *]

theorem readEntry_fields : readEntry (e.fields.map (·.value)) = some (some e) := by
  simp only [StagingEntry.wf, Bool.and_eq_true] at h
  obtain ⟨⟨⟨-, announced⟩, -⟩, -⟩ := h
  have announced := nonZero?_getD announced
  simp [StagingEntry.fields, readEntry, one, two, four, orZero, flag, flagOf?_toNat, announced]

end

theorem PanelName.fields_fit {n : PanelName} (h : n.wf = true) : ∀ f ∈ n.fields, f.Fits := by
  cases n <;> simpa [PanelName.fields, PanelName.wf, fitsLong] using h

theorem readName_fields (n : PanelName) : readName (n.fields.map (·.value)) = some (some n) := by cases n <;> rfl

theorem InterlockConfig.fields_fit {k : InterlockConfig} (h : k.wf = true) : ∀ f ∈ k.fields, f.Fits := by
  have actions : k.actions < 8 := bits_lt _
  have mask : k.sideMask < 4 := bits_lt _
  have level : k.activeLevel.code < 256 := by cases k.activeLevel <;> decide
  have sense : k.sense.code < 256 := by cases k.sense <;> decide
  simp only [InterlockConfig.wf, fitsByte, Bool.and_eq_true, decide_eq_true_eq] at h
  simp [InterlockConfig.fields, *]
  omega

theorem readInterlock_fields (k : InterlockConfig) : readInterlock (k.fields.map (·.value)) = some (some k) := by
  have actions : k.actions < 8 := bits_lt _
  have mask : k.sideMask < 4 := bits_lt _
  simp only [InterlockConfig.fields, List.map_cons, List.map_nil, readInterlock, one, flag, flagOf?_toNat,
    activeLevel?_code, sense?_code, if_pos (And.intro actions mask)]
  simp [InterlockConfig.actions, InterlockConfig.sideMask, bitOf_bits]

theorem MonitorProgram.fields_fit {p : MonitorProgram} (h : p.wf = true) : ∀ f ∈ p.fields, f.Fits := by
  simp only [MonitorProgram.wf, Bool.and_eq_true, fitsWord, decide_eq_true_eq] at h
  obtain ⟨⟨⟨selector, threshold⟩, low⟩, high⟩ := h
  have event : p.event.code < 256 := by cases p.event <;> decide
  have code : p.selector.code < 256 := by cases p.selector <;> simp [Selector.code]
  have channel : p.selector.channel < 256 := by
    cases hs : p.selector <;> simp_all [Selector.channel, Selector.wf, fitsByte]
  simp [MonitorProgram.fields, *]

theorem readProgram_fields (p : MonitorProgram) : readProgram (p.fields.map (·.value)) = some (some p) := by
  simp only [MonitorProgram.fields, List.map_cons, List.map_nil, readProgram, one, two, flag, flagOf?_toNat,
    monitorEvents_code, selector?_code]

/-! ### Lists behind their count (R190) -/

theorem fieldBytes_append (l m : List Field) : fieldBytes (l ++ m) = fieldBytes l ++ fieldBytes m := by
  simp [fieldBytes]

/-- The count byte says how many items the list has. -/
theorem listWidths_fieldBytes (before after : List Field) {n : Nat} (h : n < 256) (item : List Nat) :
    listWidths (before.map (·.width)) item (fieldBytes (before ++ one n :: after)) =
      before.map (·.width) ++ 1 :: (List.replicate n item).flatten := by
  have count : (fieldBytes (before ++ one n :: after)).drop (before.map (·.width)).sum =
      BitVec.ofNat 8 n :: fieldBytes after := by
    rw [fieldBytes_append, List.drop_left' (fieldBytes_length _), fieldBytes_cons]
    simp [one, beBytes]
  have value : (BitVec.ofNat 8 n).toNat = n := Nat.mod_eq_of_lt h
  simp only [listWidths, count, List.head?_cons, Option.map_some, Option.getD_some, value]

theorem map_width_one (l : List Nat) : (l.map one).map (·.width) = (List.replicate l.length [1]).flatten := by
  induction l with
  | nil => rfl
  | cons n l ih => exact congrArg (1 :: ·) ih

theorem map_value_one (l : List Nat) : (l.map one).map (·.value) = l := by simp [one, Function.comp_def]

theorem map_width_stages (l : List Stage) :
    (l.flatMap Stage.fields).map (·.width) = (List.replicate l.length [2, 2, 2]).flatten := by
  induction l with
  | nil => rfl
  | cons x l ih => exact congrArg ([2, 2, 2] ++ ·) ih

section
variable {l : List Nat} {fixed : Nat} (count : fitsList fixed 1 l.length = true)
include count

theorem length_lt_of_fitsList : l.length < 256 := by
  have := of_decide_eq_true count
  omega

theorem byteList_fit (h : l.all fitsByte = true) : ∀ f ∈ byteList l, f.Fits := by
  have := length_lt_of_fitsList count
  simpa [byteList, this, fitsByte] using h

/-- The widths of a list of bytes behind the fields before it. -/
theorem listWidths_byteList (before : List Field) :
    (before ++ byteList l).map (·.width) =
      listWidths (before.map (·.width)) [1] (fieldBytes (before ++ byteList l)) := by
  rw [byteList, listWidths_fieldBytes _ _ (length_lt_of_fitsList count), List.map_append, List.map_cons, map_width_one]
  rfl

end

/-! ### Requests read back -/

/-- A request whose frame spells it: its fields fit, their widths are its kind's, and their values say the request. -/
structure Request.Legible (r : Request) : Prop where
  fits : ∀ f ∈ r.fields, f.Fits
  widths : r.fields.map (·.width) = r.kind.widths r.frame.payload
  read : readRequest r.kind (r.fields.map (·.value)) = some r

theorem Request.Legible.parse {r : Request} (h : r.Legible) : r.frame.parse = .ok r := by
  refine Frame.parse_ok (requestKind_code r.kind) ?_ ?_
  · change (fieldBytes r.fields).length = (r.kind.widths r.frame.payload).sum
    rw [fieldBytes_length, h.widths]
  · change readRequest r.kind (cutFields (r.kind.widths r.frame.payload) (fieldBytes r.fields)) = some r
    rw [← h.widths, cutFields_fieldBytes r.fields h.fits, h.read]

theorem legible_channelList {l : List Nat} (h : (l.all fitsByte && fitsList 1 1 l.length) = true) :
    (Request.armChannels l).Legible ∧ (Request.disarmChannels l).Legible ∧ (Request.clearFault l).Legible := by
  obtain ⟨items, count⟩ := Bool.and_eq_true_iff.1 h
  have fits := byteList_fit count items
  have widths := listWidths_byteList count []
  have values : (byteList l).map (·.value) = l.length :: l := congrArg (l.length :: ·) (map_value_one l)
  exact ⟨⟨fits, widths, congrArg (readRequest .armChannels) values⟩,
    ⟨fits, widths, congrArg (readRequest .disarmChannels) values⟩,
    ⟨fits, widths, congrArg (readRequest .clearFault) values⟩⟩

theorem legible_setRamp {t : Nat} {l : List Nat} (h : (fitsByte t && l.all fitsByte && fitsList 2 1 l.length) = true) :
    (Request.setRamp t l).Legible := by
  simp only [Bool.and_eq_true] at h
  obtain ⟨⟨table, items⟩, count⟩ := h
  refine ⟨List.forall_mem_cons.2 ⟨one_fits_of_fitsByte table, byteList_fit count items⟩,
    listWidths_byteList count [one t], ?_⟩
  exact congrArg (fun steps => some (Request.setRamp t steps)) (map_value_one l)

theorem legible_setRecipe {n : Nat} {r : Recipe} (hn : fitsByte n = true) (h : r.wf = true) :
    (Request.setRecipe n r).Legible where
  fits := List.forall_mem_cons.2 ⟨one_fits_of_fitsByte hn, r.fields_fit h⟩
  widths := by
    let before : List Field := one n :: (r.timing.fields ++
      [one r.rampTable, one r.holdFraction, orZero four r.target, one r.tolerance])
    have fields : (Request.setRecipe n r).fields = before ++ one r.stages.length :: r.stages.flatMap Stage.fields := by
      simp [Request.fields, Recipe.fields, before]
    have split := listWidths_fieldBytes before (r.stages.flatMap Stage.fields) (r.stages_length_lt h) [2, 2, 2]
    rw [← fields] at split
    rw [fields, List.map_append, List.map_cons (l := r.stages.flatMap Stage.fields), map_width_stages]
    exact split.symm
  read := by
    change (readRecipe (r.fields.map (·.value))).map (Request.setRecipe n) = _
    rw [readRecipe_fields h, Option.map_some]

/-- A well-formed request row's request is legible. -/
theorem legible_of_wf {i : Instr} {r : Request} (h : i.wf = true) (hr : requestOf i = some r) : r.Legible := by
  cases i <;> cases hr
  case setProfile p => exact ⟨p.fields_fit h, rfl, congrArg (Option.map _) (readProfile_fields h)⟩
  case setSegment side index record =>
    obtain ⟨hi, hrec⟩ := Bool.and_eq_true_iff.1 h
    have side : side.code < 256 := by cases side <;> decide
    refine ⟨?_, ?_, congrArg (Option.map _) (readSegment_fields ..)⟩
    · exact List.forall_mem_cons.2 ⟨side, List.forall_mem_cons.2 ⟨one_fits_of_fitsByte hi, segmentFields_fit hrec⟩⟩
    · cases record <;> rfl
  case setRecipe n r =>
    obtain ⟨hn, hrec⟩ := Bool.and_eq_true_iff.1 h
    exact legible_setRecipe hn hrec
  case setRamp t steps => exact legible_setRamp h
  case armChannels l => exact (legible_channelList h).1
  case disarmChannels l => exact (legible_channelList h).2.1
  case clearFault l => exact (legible_channelList h).2.2
  case announcePanel e => exact ⟨e.fields_fit h, rfl, congrArg (Option.map _) (readEntry_fields h)⟩
  case removePanel n => exact ⟨n.fields_fit h, by cases n <;> rfl, congrArg (Option.map _) (readName_fields n)⟩
  case queryPanel n => exact ⟨n.fields_fit h, by cases n <;> rfl, congrArg (Option.map _) (readName_fields n)⟩
  case setInterlock n k =>
    obtain ⟨hn, hk⟩ := Bool.and_eq_true_iff.1 h
    exact ⟨List.forall_mem_cons.2 ⟨one_fits_of_fitsByte hn, k.fields_fit hk⟩, rfl,
      congrArg (Option.map _) (readInterlock_fields k)⟩
  case setMonitor n p =>
    obtain ⟨hn, hp⟩ := Bool.and_eq_true_iff.1 h
    exact ⟨List.forall_mem_cons.2 ⟨one_fits_of_fitsByte hn, p.fields_fit hp⟩, rfl,
      congrArg (Option.map _) (readProgram_fields p)⟩
  case setLimits | clearRecipe | withdrawPanel | ackInterlock | readAnode | setAnode | queryChannel =>
    refine ⟨?_, rfl, rfl⟩
    simpa [Request.fields, Instr.wf, fitsByte, fitsWord, fitsLong, fitsEight, and_assoc] using h
  all_goals exact ⟨by simp [Request.fields, RequestedMode.code, MonitorOperation.code], rfl, rfl⟩

/-- A request whose frame is read as it is the arrival of that frame (log 4). -/
theorem arriveRequest_eq_arrive {r : Request} (h : r.frame.parse = .ok r) (s : State) :
    s.arriveRequest r = s.arrive r.frame := by
  simp only [State.arriveRequest, State.arrive, State.takeFrame, h]

/-- Field by field, a request row's frame is what its layout spells out (R199; log 5). -/
theorem requestItems_speltAs {i : Instr} {r : Request} (hr : requestOf i = some r) :
    ∃ items, requestItems i = some (r.kind.code, items) ∧ SpeltAs r.fields items := by
  cases i <;> cases hr <;> refine ⟨_, rfl, ?_⟩
  case setProfile p => exact p.fields_speltAs
  case setSegment side index record =>
    have code : ([Side.a, .b].idxOf side : Int) = side.code := by cases side <;> rfl
    exact .cons (one_speltAs code) (.cons (one_speltAs rfl) (segmentFields_speltAs record))
  case setRecipe n r => exact .cons (one_speltAs rfl) r.fields_speltAs
  case setRamp t steps => exact .cons (one_speltAs rfl) (byteList_speltAs steps)
  case armChannels l | disarmChannels l | clearFault l => exact byteList_speltAs l
  case announcePanel e => exact e.fields_speltAs
  case removePanel n | queryPanel n => exact n.fields_speltAs
  case setInterlock n k => exact .cons (one_speltAs rfl) k.fields_speltAs
  case setMonitor n p => exact .cons (one_speltAs rfl) p.fields_speltAs
  all_goals simp [Request.fields, RequestedMode.code, MonitorOperation.code]

/-- Settles O33: a well-formed row's request is legible, so that its arrival is its frame's; and its fields are spelled
out one by one. -/
theorem requestsRoundTrip : Obligations.RequestsRoundTrip := by
  unfold Obligations.RequestsRoundTrip
  refine ⟨fun i r h hr => ?_, fun i r hr => ?_⟩
  · have parse := (legible_of_wf h hr).parse
    exact ⟨parse, fun s => by rw [exec_of_request hr, arriveRequest_eq_arrive parse, exec_frameReceived]⟩
  · obtain ⟨items, layout, spelt⟩ := requestItems_speltAs hr
    exact ⟨r.kind.code, items, layout, congrArg (Frame.mk _) (fieldBytes_eq_spelled spelt)⟩

end Sys2Proof.Machine
end

section
/-! PROOFS. The check, and the bytes of replies and notices; O34. -/

namespace Sys2Proof.Machine

/-! ### The check (R187) -/

theorem checkOf_append_singleton (l : List Byte) (b : Byte) :
    checkOf (l ++ [b]) = checkShift^[8] (checkOf l ^^^ (b.setWidth 16 <<< 8)) := by
  rw [checkOf, List.foldl_append]
  rfl

theorem checkShift_eq (r : BitVec 16) :
    checkShift r = (r <<< 1) ^^^ (if r.getLsbD 15 then 0x1021#16 else 0#16) := by
  rw [checkShift, BitVec.msb_eq_getLsbD_last]
  split <;> simp_all

/-- The two check bytes, high byte first. -/
theorem checkBytes_eq (l : List Byte) : checkBytes l = [(checkOf l >>> 8).setWidth 8, (checkOf l).setWidth 8] := by
  have high : BitVec.ofNat 8 ((checkOf l).toNat / 256 ^ 1) = (checkOf l >>> 8).setWidth 8 :=
    BitVec.eq_of_toNat_eq (by simp [Nat.shiftRight_eq_div_pow])
  have low : BitVec.ofNat 8 ((checkOf l).toNat / 256 ^ 0) = (checkOf l).setWidth 8 :=
    BitVec.eq_of_toNat_eq (by simp)
  rw [checkBytes, beBytes, beBytes, beBytes, high, low]

/-! ### What a reply carries (R191; log 6) -/

theorem LineMode.place_eq (m : LineMode) : m.place = m.code := by cases m <;> rfl

theorem ResultCode.number_eq (code : ResultCode) : code.number = code.code := by cases code <;> rfl

theorem Interval.code_eq (x : Interval) : x.code = [Interval.fwd, .rest1, .rev, .rest2].idxOf x := by cases x <;> rfl

theorem ExitSide.fields_speltAs (x : ExitSide) : SpeltAs x.fields
    [item 6 x.forward, item 6 x.reverse, item 8 x.net, item 4 x.density,
      item 1 ([Verdict.under, .within, .over, .noTarget, .noArea].idxOf x.verdict)] := by
  have verdict : ([Verdict.under, .within, .over, .noTarget, .noArea].idxOf x.verdict : Int) = x.verdict.code := by
    cases x.verdict <;> rfl
  simp [ExitSide.fields, Verdict.field, verdict]

theorem ExitRecord.fields_speltAs (x : ExitRecord) : SpeltAs x.fields x.items := by
  have cause : ([DepartureCause.passed, .removed].idxOf x.cause : Int) = x.cause.code := by cases x.cause <;> rfl
  refine List.rel_append (List.rel_append (List.rel_append ?_ x.sideA.fields_speltAs) x.sideB.fields_speltAs) ?_
  · simp [recipeOrNone, ExitRecord.flags, cause]
  · simp

theorem Interlock.fields_speltAs (x : Interlock) : SpeltAs x.fields
    (x.config.items ++ [setOrClear x.latched, item 1 ([Level.high, .low].idxOf x.level)]) := by
  refine List.rel_append x.config.fields_speltAs ?_
  simp [Level.code_eq]

theorem LineView.fields_speltAs (v : LineView) : SpeltAs v.fields v.items := by
  unfold LineView.fields LineView.items
  repeat' refine List.rel_append ?_ ?_
  · simp [LineMode.place_eq, HoldCauses.members, HoldCauses.code]
  · exact marked_speltAs (fun n => two_speltAs rfl) _
  · cases v.profile with
    | none => exact .cons rfl .nil
    | some p => exact .cons rfl p.fields_speltAs
  · simp
  · exact flatMap_speltAs (fun r => by simp) _
  · exact flatMap_speltAs byteList_speltAs _
  · exact flatMap_speltAs Interlock.fields_speltAs _
  · simp [LineStopCauses.members, LineStopCauses.code]

theorem PanelView.fields_speltAs (v : PanelView) : SpeltAs v.fields v.items := by
  cases v with
  | staged place e => exact .cons (one_speltAs rfl) (.cons (one_speltAs rfl) e.fields_speltAs)
  | track r effective =>
    simp only [PanelView.fields, PanelView.items, TrackRecord.fields, TrackRecord.trackingFlags, Account.flags]
    rcases r.state with _ | _ | _ | _ <;>
      simp [RecordState.code, RecordState.cause?, DepartureCause.code, marked, optional, recipeOrNone, orZero]

/-- The period state of a channel through the model's own readings of it. -/
theorem ChannelView.periodItems_eq (v : ChannelView) : v.periodItems =
    [item 1 v.period.code, item 2 (v.period.governor.getD 0)] ++
    optional 1 ((v.period.flight.map fun p => [Interval.fwd, .rest1, .rev, .rest2].idxOf p.interval).map Int.ofNat) ++
    optional 2 ((v.period.flight.map fun p => p.remaining).map Int.ofNat) ++
    v.timing.items ++ optional 1 ((rampIndex? v.state v.index).map Int.ofNat) ++
    optional 1 (drainIndex? v.state v.index) ++ optional 1 (v.state.destination?.map Int.ofNat) ++
    [item 1 ([ZeroStatus.none, .valid, .due, .attempting].idxOf v.zero), setOrClear v.stale] ++
    optional 4 (v.zeroTimer.map Int.ofNat) ++ optional 2 (v.retry.map Int.ofNat) := by
  unfold ChannelView.periodItems
  rcases v.period with _ | _ | ⟨⟨_, _ | _, _⟩, _⟩ <;> rcases v.state with _ | _ | _ | _ | (_ | _) | _ <;> rfl

theorem ChannelView.periodFields_speltAs (v : ChannelView) : SpeltAs v.periodFields v.periodItems := by
  have zero : ([ZeroStatus.none, .valid, .due, .attempting].idxOf v.zero : Int) = v.zero.code := by
    cases v.zero <;> rfl
  rw [ChannelView.periodItems_eq, ChannelView.periodFields]
  repeat' refine List.rel_append ?_ ?_
  · simp [orZero]
  · simp only [Interval.code_eq]
    exact marked_speltAs (fun n => one_speltAs rfl) _
  · exact marked_speltAs (fun n => two_speltAs rfl) _
  · exact v.timing.fields_speltAs
  · exact marked_speltAs (fun n => one_speltAs rfl) _
  · simp [optional]
  · exact marked_speltAs (fun n => one_speltAs rfl) _
  · simp [zero]
  · exact marked_speltAs (fun n => four_speltAs rfl) _
  · exact marked_speltAs (fun n => two_speltAs rfl) _

theorem PeriodRecord.fields_speltAs (count : Nat) (r : PeriodRecord) : SpeltAs (r.fields count) (r.items count) := by
  have kind : ([PeriodKind.normal, .zero].idxOf r.kind : Int) = r.kind.code := by cases r.kind <;> rfl
  refine List.rel_append (List.rel_append ?_ (flatMap_speltAs (fun p => ?_) _)) ?_
  · simp [orZero, kind]
  · simp [Contributor.fields]
  · simp

/-- QueryChannel's items through the model's own readings of the state. -/
theorem ChannelView.items_eq (v : ChannelView) : v.items =
    (item 1 v.state.code :: optional 1 (v.state.faultCode?.map Int.ofNat)) ++
    [item 1 (v.state.moduleCode?.getD 0), setOrClear v.contactorClosed, item 1 v.missing,
      item 1 (v.queuePlace.getD 0)] ++
    optional 2 (v.state.armingTimer.map Int.ofNat) ++ optional 2 (v.rest.map Int.ofNat) ++
    optional 4 (v.sinceGrant.map Int.ofNat) ++
    ([setOrClear v.inhibited, item 2 v.forward, item 2 v.reverse] ++ optional 2 v.lastZero) ++
    segmentItems v.segment ++ v.periodItems ++
    [setOrClear v.clock.isSome,
      item 1 ([Interval.fwd, .rest1, .rev, .rest2].idxOf (v.clock.getD ⟨.fwd, 0, 0⟩).interval),
      item 2 (v.clock.getD ⟨.fwd, 0, 0⟩).remaining, item 4 (v.clock.getD ⟨.fwd, 0, 0⟩).periods] ++
    (v.period.flight.elim [item 1 0] fun p => item 1 1 :: p.record.items v.contributors) ++
    [item 1 v.windows] := by
  unfold ChannelView.items
  rcases v.period with _ | _ | _ <;> rcases v.state with _ | _ | _ | _ | _ | (_ | _ | _ | _) <;> rfl

theorem ChannelView.fields_speltAs (v : ChannelView) : SpeltAs v.fields v.items := by
  have period := v.periodFields_speltAs
  rw [ChannelView.items_eq, ChannelView.fields]
  generalize v.periodFields = fields, v.periodItems = items at period ⊢
  repeat' refine List.rel_append ?_ ?_
  · exact .cons (one_speltAs rfl) (marked_speltAs (fun n => one_speltAs rfl) _)
  · simp [orZero]
  · exact marked_speltAs (fun n => two_speltAs rfl) _
  · exact marked_speltAs (fun n => two_speltAs rfl) _
  · exact marked_speltAs (fun n => four_speltAs rfl) _
  · simp [optional]
  · exact segmentFields_speltAs _
  · exact period
  · simp [PhaseClock.fields, Interval.code_eq]
  · cases v.period.flight with
    | none => exact .cons rfl .nil
    | some p => exact .cons rfl (p.record.fields_speltAs v.contributors)
  · simp

theorem CounterView.fields_speltAs (k : CounterView) : SpeltAs k.fields
    (k.program.items ++ [item 4 k.count, setOrClear k.overflow]) := by
  refine List.rel_append k.program.fields_speltAs ?_
  simp

theorem ReplyPayload.fields_speltAs (x : ReplyPayload) : SpeltAs x.fields x.items := by
  cases x with
  | nothing => exact .nil
  | failing c => exact .cons (one_speltAs rfl) .nil
  | mode m causes =>
    simp [ReplyPayload.fields, ReplyPayload.items, LineMode.place_eq, HoldCauses.members, HoldCauses.code]
  | lineStop causes => simp [ReplyPayload.fields, ReplyPayload.items, LineStopCauses.members, LineStopCauses.code]
  | exit e => exact e.fields_speltAs
  | panel v => exact v.fields_speltAs
  | channel v => exact v.fields_speltAs
  | line v => exact v.fields_speltAs
  | monitor frozen l => exact .cons (flag_speltAs frozen) (flatMap_speltAs CounterView.fields_speltAs l)
  | anode p => exact .cons (eight_speltAs rfl) (.cons (eight_speltAs rfl) .nil)

/-- A reply's payload is its result code and then its result payload (R191). -/
theorem Reply.frame_eq (r : Reply) : r.frame = ⟨r.kind, spelled (item 1 r.code.number :: r.payload.items)⟩ :=
  congrArg (Frame.mk r.kind)
    (fieldBytes_eq_spelled (.cons (one_speltAs r.code.number_eq) r.payload.fields_speltAs))

/-! ### What a notice carries (R193) -/

theorem NoticeKind.code_eq (k : NoticeKind) : k.code = 0x40 +
    [NoticeKind.exit, .interlock, .channelFault, .monitor, .lineMode, .tracking, .lineStop].idxOf k := by
  cases k <;> rfl

theorem State.latches_eq (s : State) :
    s.interlocks.toList.map (·.latched) = Input.all.map fun i => (s.interlock i).latched := by
  refine List.ext_getElem (by simp [Input.all]) fun n hn _ => ?_
  simp [Input.all, State.interlock]

/-- A notice's payload is taken from the state at its sending. -/
theorem noticeFrame_snapshot (k : NoticeKind) (s : State) : noticeFrame k s.snapshot = ⟨BitVec.ofNat 8 (0x40 +
      [NoticeKind.exit, .interlock, .channelFault, .monitor, .lineMode, .tracking, .lineStop].idxOf k),
    spelled [item 1 s.mode.place, item 1 s.lineStop.members, item 1 s.exits.length,
      item 1 (Chan.all.filter fun c => (s.chan c).state.isFaulted).length,
      item 1 (members (Input.all.map fun i => (s.interlock i).latched))]⟩ := by
  rw [noticeFrame, k.code_eq]
  refine congrArg (Frame.mk _) (fieldBytes_eq_spelled ?_)
  simp [State.snapshot, LineMode.place_eq, LineStopCauses.members, LineStopCauses.code, s.latches_eq,
    s.faultedCount_eq]

/-- Settles O34: the check byte by byte, the frame, then replies and notices item by item. -/
theorem checkComputation : Obligations.CheckComputation := by
  unfold Obligations.CheckComputation
  refine ⟨by decide +kernel, rfl, checkOf_append_singleton, checkShift_eq, fun f _ => ⟨?_, ?_⟩, checkBytes_eq,
    fun r => ⟨r.frame_eq, rfl⟩, fun x => ?_, fun k s => ⟨noticeFrame_snapshot k s, rfl⟩⟩
  · simp [Frame.bytes, checkedBytes, checkBytes]
  · rw [Frame.bytes, checkBytes_eq]
    rfl
  · rw [length_spelled]
    simp [ExitRecord.items, item]

end Sys2Proof.Machine
end

section
/-! PROOFS. A step with a command waiting; O1. -/

namespace Sys2Proof.Machine

/-- With the queue not empty, the step is its front command's; beside `step_of_quiet` and `step_of_due`, the third way
a step goes. -/
theorem step_of_pending {s : State} {c : Instr} {rest : List Instr} (hq : s.pending = c :: rest) :
    step s = exec c { s with pending := rest } := by
  simp [step, hq]

/-- Settles O1: the command put at the front is the one taken, and the rest of that queue is the state's own. -/
theorem stepTakesFront : Obligations.StepTakesFront := by
  unfold Obligations.StepTakesFront
  intro c s
  exact step_of_pending (s := { s with pending := c :: s.pending }) rfl

end Sys2Proof.Machine
end
